-- ==== Sys2Proof/Word.lean ====
section
/-! DEFINITION. The words of the part: bytes of the links, audio samples, and the indexes of its fixed instances. -/

namespace Sys2Proof

/-- One byte of a station line, a link or the clip flash. -/
abbrev Byte := BitVec 8

/-- One 16-bit signed audio sample ("Audio" in the conventions of 00_scope.md). -/
abbrev Sample := BitVec 16

/-- A stereo pair, left then right. -/
abbrev Pair := Sample × Sample

/-- Silence: a left and a right sample of 0 (R114). -/
def silence : Pair := (0, 0)

/-- A screen 0..3; its show clock, cue list, intake, alignment, call and exciter units have the same number. -/
abbrev ScreenId := Fin 4

/-- An entry lane 0..3. -/
abbrev LaneId := Fin 4

/-- An exit lane 0..1. -/
abbrev ExitId := Fin 2

/-- A station port S0..S2. -/
abbrev PortId := Fin 3

/-- What the part hears on an exciter control line: a byte, or a silence of more than 2 ms (R201). -/
inductive LineInput where
  | byte (b : Byte)
  | silence
  deriving DecidableEq, Repr

/-- A moment of a screen's control line: what the line has brought by then, since the last row that took such inputs (log 10). -/
structure LineMoment where
  screen : ScreenId
  heard  : List LineInput
  deriving DecidableEq, Repr

/-- The payload of a SET_EXCITER, with what the screen's control line has brought when the request is taken (log 10). -/
structure HeardPayload where
  bytes : List Byte
  heard : List LineInput
  deriving DecidableEq, Repr

/-- The levels of the straps of one port: role strap 1, role strap 0, rate strap (true is high; R185). -/
structure Straps where
  role1 : Bool
  role0 : Bool
  rate  : Bool
  deriving DecidableEq, Repr

/-- The moment at which device reset ends: the straps of each port, and what each screen's control line has brought by then (log 10). -/
structure ResetEnd where
  straps : Vector Straps 3
  heard  : Vector (List LineInput) 4
  deriving DecidableEq, Repr

end Sys2Proof
end

