-- ==== Sys2Proof/Syntax.lean ====
section
/-! DEFINITION. The commands of the part: one constructor for each row of spec/opcode_table.json.
A request row carries the port by which it comes, its tag and its payload bytes (log 1); an event row carries what its input line or link brings. -/

namespace Sys2Proof

/-- A command: one row of the table of operations and events. -/
inductive Instr where
  /-- DEVICE_RESET (R185). Power-on or assertion of RESET sets every block to its reset values, asserts every hold-out line and starts the clip directory read. Operand: `true` is a loop input asserted. -/
  | deviceReset (entryLoops : Vector Bool 4) (exitLoops : Vector Bool 2)
  /-- STARTUP_DIRECTORY_READ_DONE (R190). The start-up directory read completes: the directory entries are set, the reading mark is cleared, the parsers begin taking and hold-out follows the fill. Operand: the bytes read from address 0 of the clip flash. -/
  | startupDirectoryReadDone (header : List Byte)
  /-- ADMIT (R9). Checks an admission and, if it is accepted, creates a PENDING ticket and arms the entry lane. -/
  | admitCar (p : PortId) (tag : Byte) (payload : List Byte)
  /-- DEPART (R15). Removes a PRESENT ticket, cancels its orders and lowers its zone counts. -/
  | depart (p : PortId) (tag : Byte) (payload : List Byte)
  /-- PASS_SET (R7). Sets or clears the permit marks of a range of pass numbers. -/
  | passSet (p : PortId) (tag : Byte) (payload : List Byte)
  /-- SET_ZONE (R17). Replaces a zone's capacity after the occupancy and sum checks. -/
  | setZone (p : PortId) (tag : Byte) (payload : List Byte)
  /-- ENTRY_OPEN (R18). Sets a zone's entry to OPEN. -/
  | entryOpen (p : PortId) (tag : Byte) (payload : List Byte)
  /-- ENTRY_CLOSE (R18). Sets a zone's entry to CLOSED. -/
  | entryClose (p : PortId) (tag : Byte) (payload : List Byte)
  /-- CLOSE_NIGHT (R22). Ends the night: reports the totals, then clears the tickets, the used map, the zone counts, the sequence, the clock and the totals. -/
  | closeNight (p : PortId) (tag : Byte) (payload : List Byte)
  /-- TICKET_QUERY (R20). Returns every field of a live ticket. -/
  | ticketQuery (p : PortId) (tag : Byte) (payload : List Byte)
  /-- PASS_QUERY (R20). Returns a pass's permit mark and used mark, and the ticket that carries it. -/
  | passQuery (p : PortId) (tag : Byte) (payload : List Byte)
  /-- ZONE_REPORT (R21). Returns the four zone records. -/
  | zoneReport (p : PortId) (tag : Byte) (payload : List Byte)
  /-- NIGHT_REPORT (R21). Returns the night clock, the sequence, the live ticket count and the night totals. -/
  | nightReport (p : PortId) (tag : Byte) (payload : List Byte)
  /-- SET_LANE (R26). Replaces the four settings of an entry or exit lane that is not busy. -/
  | setLane (p : PortId) (tag : Byte) (payload : List Byte)
  /-- LANE_OPEN (R29). Opens an entry lane to IDLE, or an exit lane to OPEN. -/
  | laneOpen (p : PortId) (tag : Byte) (payload : List Byte)
  /-- LANE_CLOSE (R29). Closes an IDLE entry lane or an OPEN exit lane. -/
  | laneClose (p : PortId) (tag : Byte) (payload : List Byte)
  /-- CANCEL_ADMIT (R41). Withdraws the admission of an ARMED lane, voiding its ticket. -/
  | cancelAdmit (p : PortId) (tag : Byte) (payload : List Byte)
  /-- LANE_RESET (R42). Takes a lane to CLOSED from any state, voiding or committing an admission it holds. -/
  | laneReset (p : PortId) (tag : Byte) (payload : List Byte)
  /-- GATE_REPORT (R46). Returns the lane states and counts, the departures total and the unmatched exits. -/
  | gateReport (p : PortId) (tag : Byte) (payload : List Byte)
  /-- SET_SCREEN (R49). Sets a screen's rate, delay settings and hold-on-sound-loss option. -/
  | setScreen (p : PortId) (tag : Byte) (payload : List Byte)
  /-- ARM_SHOW (R57). Prepares a new show: clock to 0+0, frame monitor, cursor, flags and release flag reset, and the intake opened. -/
  | armShow (p : PortId) (tag : Byte) (payload : List Byte)
  /-- START_SHOW (R58). Sets start pending on an ARMED screen. -/
  | startShow (p : PortId) (tag : Byte) (payload : List Byte)
  /-- HOLD_SHOW (R62). Holds a RUNNING or LOST show with reason REQUEST and asserts the projector pause. -/
  | holdShow (p : PortId) (tag : Byte) (payload : List Byte)
  /-- RESUME_SHOW (R64). Resumes a HELD show, unless it is held for sound that is still down. -/
  | resumeShow (p : PortId) (tag : Byte) (payload : List Byte)
  /-- END_SHOW (R65). Ends a RUNNING, HELD or LOST show. -/
  | endShow (p : PortId) (tag : Byte) (payload : List Byte)
  /-- SCREEN_RESET (R66). Takes a screen to IDLE, closes its intake and windows, flushes its call queue and cuts its playing call. -/
  | screenReset (p : PortId) (tag : Byte) (payload : List Byte)
  /-- SCREEN_QUERY (R68). Returns the screen record, the clock and the frame monitor. -/
  | screenQuery (p : PortId) (tag : Byte) (payload : List Byte)
  /-- LOAD_CUE (R74). Adds a cue to a screen's list at its place, adjusting the cursor. -/
  | loadCue (p : PortId) (tag : Byte) (payload : List Byte)
  /-- DELETE_CUE (R76). Removes a cue from a screen's list, adjusting the cursor. -/
  | deleteCue (p : PortId) (tag : Byte) (payload : List Byte)
  /-- CLEAR_CUES (R77). Empties a list outside a show and clears its flags and cue lamps. -/
  | clearCues (p : PortId) (tag : Byte) (payload : List Byte)
  /-- CUE_QUERY (R78). Returns the list count, cursor, flags, lamps and up to 16 cue records. -/
  | cueQuery (p : PortId) (tag : Byte) (payload : List Byte)
  /-- SET_SOUND (R104). Replaces an intake's water marks and hold time, and re-examines the flow state. -/
  | setSound (p : PortId) (tag : Byte) (payload : List Byte)
  /-- INTAKE_QUERY (R105). Returns an intake's record and counts. -/
  | intakeQuery (p : PortId) (tag : Byte) (payload : List Byte)
  /-- ALIGN_QUERY (R125). Returns an Alignment Unit's settings, mode, positions and counts. -/
  | alignQuery (p : PortId) (tag : Byte) (payload : List Byte)
  /-- CLIP_RESCAN (R128). Starts a new read of the clip directory header, the reply being deferred to its completion. -/
  | clipRescan (p : PortId) (tag : Byte) (payload : List Byte)
  /-- CLIP_RESCAN_DONE (R128). A rescan's read completes: the new directory replaces the old whole, the reading mark clears and the reply is sent. Operand: the bytes read from address 0 of the clip flash. -/
  | clipRescanDone (header : List Byte)
  /-- ANNOUNCE (R133). Adds an announcement of 1 to 8 clips to a screen's call queue. -/
  | announce (p : PortId) (tag : Byte) (payload : List Byte)
  /-- SET_CALLS (R139). Sets a screen's duck gain and call level, at once or held until the duck state is UP. -/
  | setCalls (p : PortId) (tag : Byte) (payload : List Byte)
  /-- CALLS_OPEN (R129). Opens a screen's call window, running the owed fill and possibly starting a call. -/
  | callsOpen (p : PortId) (tag : Byte) (payload : List Byte)
  /-- CALLS_CLOSE (R129). Closes a screen's call window. -/
  | callsClose (p : PortId) (tag : Byte) (payload : List Byte)
  /-- ORDERS_OPEN (R129). Opens a screen's order window. -/
  | ordersOpen (p : PortId) (tag : Byte) (payload : List Byte)
  /-- ORDERS_CLOSE (R129). Closes a screen's order window. -/
  | ordersClose (p : PortId) (tag : Byte) (payload : List Byte)
  /-- CALL_QUERY (R143). Returns a screen's windows, queue, slot, duck state, settings and counts. -/
  | callQuery (p : PortId) (tag : Byte) (payload : List Byte)
  /-- CLIP_QUERY (R141). Returns the clip directory and its marks. -/
  | clipQuery (p : PortId) (tag : Byte) (payload : List Byte)
  /-- SET_EXCITER (R145). Sets an exciter's mute, mode and deviation and, on a change, begins a new settings cycle. Operand: `payload.heard` is what the screen's control line has brought (log 10). -/
  | setExciter (p : PortId) (tag : Byte) (payload : HeardPayload)
  /-- EXCITER_QUERY (R155). Returns an exciter link's record and counts. -/
  | exciterQuery (p : PortId) (tag : Byte) (payload : List Byte)
  /-- SET_KITCHEN (R159). Replaces the five kitchen settings. -/
  | setKitchen (p : PortId) (tag : Byte) (payload : List Byte)
  /-- TAKE_ORDER (R165). Moves the head of the kitchen queue to COOKING and serves a pending release. -/
  | takeOrder (p : PortId) (tag : Byte) (payload : List Byte)
  /-- MARK_READY (R166). Moves a COOKING order to READY on the shelf and asks for its order call. -/
  | markReady (p : PortId) (tag : Byte) (payload : List Byte)
  /-- COLLECT_ORDER (R170). Removes a READY order with outcome COLLECTED. -/
  | collectOrder (p : PortId) (tag : Byte) (payload : List Byte)
  /-- PLACE_ORDER (R160). Checks and places an order, HELD or QUEUED, with a quoted wait. -/
  | placeOrder (p : PortId) (tag : Byte) (payload : List Byte)
  /-- CANCEL_ORDER (R170). Removes an order in any state with reason REQUEST. -/
  | cancelOrder (p : PortId) (tag : Byte) (payload : List Byte)
  /-- ORDER_QUERY (R174). Returns an order's record and its place in its collection. -/
  | orderQuery (p : PortId) (tag : Byte) (payload : List Byte)
  /-- KITCHEN_REPORT (R174). Returns the kitchen queue, the order counts, the release flags, the settings and the totals. -/
  | kitchenReport (p : PortId) (tag : Byte) (payload : List Byte)
  /-- SET_LAMP (R175). Sets a lamp's source, invert and blink settings. -/
  | setLamp (p : PortId) (tag : Byte) (payload : List Byte)
  /-- LAMP_QUERY (R178). Returns the settings, source value and output of every lamp. -/
  | lampQuery (p : PortId) (tag : Byte) (payload : List Byte)
  /-- READ_EVENTS (R181). Reports a port's non-clear event flags and makes its PENDING flags SEEN. -/
  | readEvents (p : PortId) (tag : Byte) (payload : List Byte)
  /-- CLEAR_EVENTS (R182). Clears the named SEEN flags of a port. -/
  | clearEvents (p : PortId) (tag : Byte) (payload : List Byte)
  /-- SET_ATTENTION (R183). Sets the sending port's attention mask. -/
  | setAttention (p : PortId) (tag : Byte) (payload : List Byte)
  /-- PORT_QUERY (R194). Returns a port's role, rate, parser state, FIFO fills, lines and counts. -/
  | portQuery (p : PortId) (tag : Byte) (payload : List Byte)
  /-- UNKNOWN_REQUEST (R192). A taken request whose code names no request is refused UNKNOWN_REQUEST. Operand: the fields of the taken frame. -/
  | unknownRequest (p : PortId) (code tag : Byte) (payload : List Byte)
  /-- NIGHT_CLOCK_ADVANCE (R3). The night clock advances by one second and the ready shelf is examined for recalls and expiries. -/
  | nightClockAdvance
  /-- ENTRY_LOOP_RISE (R31). A filtered rise on an entry loop begins a passage, a tailgater or an unadmitted pass, according to the lane state. -/
  | entryLoopRise (n : LaneId)
  /-- ENTRY_LOOP_FALL (R32). A filtered fall on an entry loop ends a measured passage, a tailgater's passage or a stuck state. Operand: `us` microseconds pass in the lane first (log 3). -/
  | entryLoopFall (n : LaneId) (us : Nat)
  /-- EXIT_LOOP_RISE (R43). A filtered rise on an exit loop starts the stuck timer when the lane is OPEN. -/
  | exitLoopRise (n : ExitId)
  /-- EXIT_LOOP_FALL (R43). A filtered fall on an exit loop in OPEN or STUCK counts an exit. -/
  | exitLoopFall (n : ExitId)
  /-- PASS_WINDOW_EXPIRY (R38). The pass window runs out in ARMED: the ticket is voided, ADMIT_TIMEOUT posted and the lane goes to IDLE. -/
  | passWindowExpiry (n : LaneId)
  /-- GAP_WINDOW_EXPIRY (R34). The gap window runs out in SETTLING and the lane goes to IDLE. -/
  | gapWindowExpiry (n : LaneId)
  /-- ENTRY_STUCK_LIMIT_EXPIRY (R39). The stuck limit runs out in PASSING: LOOP_STUCK is posted, the lane goes to STUCK and an admitted passage is committed UNMEASURED. -/
  | entryStuckLimitExpiry (n : LaneId)
  /-- LONG_LAMP_TIMER_EXPIRY (R33). The long lamp timer runs out and LANE_LONG(n) becomes false. -/
  | longLampTimerExpiry (n : LaneId)
  /-- EXIT_STUCK_TIMER_EXPIRY (R43). An exit lane's stuck timer runs out in OPEN: the lane goes to STUCK and LOOP_STUCK is posted. -/
  | exitStuckTimerExpiry (n : ExitId)
  /-- FRAME_PULSE (R59). A frame pulse is judged by the frame monitor and, if it is accepted, starts, advances or recovers the show with its cue pass. Operand: `us` microseconds pass in the frame monitor first (log 3). -/
  | framePulse (s : ScreenId) (us : Nat)
  /-- SHOW_MARK_EDGE (R58). A rising edge on the show-mark input sets start pending in ARMED. -/
  | showMarkEdge (s : ScreenId)
  /-- STALL_TIMER_EXPIRY (R60). The stall timer runs out: a RUNNING screen goes LOST, a HELD one sets frames stopped, and the sound is paused. -/
  | stallTimerExpiry (s : ScreenId)
  /-- FRAME_MONITOR_STALL (R52). e reaches the stall limit, stops counting and marks the reference STALE. -/
  | frameMonitorStall (s : ScreenId)
  /-- AUDIO_BLOCK_ARRIVAL (R93). An arriving programme block is judged and either placed at the tail of the ring or discarded and counted. Operand: the bytes between two silences of the intake link (R201). -/
  | audioBlockArrival (s : ScreenId) (bytes : List Byte)
  /-- HOLD_TIMER_EXPIRY (R103). The hold timer runs out in HOLDING and HOLD is sent again. -/
  | holdTimerExpiry (s : ScreenId)
  /-- OUTPUT_INSTANT (R114). At each 1/48000 s tick the Alignment Unit chooses a programme sample, the mixer adds any call, and the pair goes to the exciter. Operand: `us` microseconds pass in the frame monitor first (log 3). -/
  | outputInstant (s : ScreenId) (us : Nat)
  /-- CLIP_READ_COMPLETE (R141). A clip block read completes and enters the screen's buffer, or is discarded. Operand: the bytes the clip flash delivered for the read in flight (log 15). -/
  | clipReadComplete (bytes : List Byte)
  /-- EXCITER_ACK (R147). An ACK from the exciter is taken as valid or stale; a valid one updates the link state, the last status and SOUND_UP. Operands: what the control line brought, the ACK's last byte at its end, and the number and flags that the ACK gives (R199, R201). -/
  | exciterAck (m : LineMoment) (number flags : Byte)
  /-- EXCITER_STATUS (R150). A STATUS from the exciter is answered with STATUS_ACK and updates the last status. Operands: what the control line brought, the STATUS's last byte at its end, and the number and flags that the STATUS gives (R199, R201). -/
  | exciterStatus (m : LineMoment) (number flags : Byte)
  /-- EXCITER_BAD_MESSAGE (R150). A damaged, unknown or cut-short message from the exciter is discarded and counted. Operand: what the control line brought, the byte or silence that ends the message at its end (R201). -/
  | exciterBadMessage (m : LineMoment)
  /-- ACK_TIMER_EXPIRY (R148). A send goes unanswered for 25 ms: a retry in UP, or the link is declared lost at 4 unanswered sends. Operand: what the control line brought first (log 10). -/
  | ackTimerExpiry (s : ScreenId) (heard : List LineInput)
  /-- REFRESH_TIMER_EXPIRY (R149). The 1,000 ms refresh timer runs out and a new settings cycle begins. Operand: what the control line brought first (log 10). -/
  | refreshTimerExpiry (s : ScreenId) (heard : List LineInput)
  /-- SETTINGS_SEND_END (R146). The last byte of a SETTINGS send leaves the control line and the ack timer starts if the send is still the latest. Operand: what the control line brought first (log 10). -/
  | settingsSendEnd (m : LineMoment)
  /-- PORT_BYTE_RECEIVED (R187). A byte received on a station port is placed in the receive FIFO, or becomes a break mark or is lost. Operand: the byte and the level of its stop bit. -/
  | portByteReceived (p : PortId) (byte : Byte) (stopHigh : Bool)
  /-- GAP_TIMER_EXPIRY (R187). 5 ms of line silence places a break mark in the receive FIFO. -/
  | gapTimerExpiry (p : PortId)
  /-- PARSER_TAKE (R188). The frame parser takes the next byte or break mark from the receive FIFO through HUNT, LENGTH and BODY. -/
  | parserTake (p : PortId)
  /-- REPLY_BYTE_SENT (R193). A reply byte finishes sending, frees its FIFO place and the next byte starts unless hold-in is asserted. -/
  | replyByteSent (p : PortId)
  /-- HOLD_IN_CHANGE (R193). A change of the hold-in line pauses or resumes the sending of reply bytes. Operand: the new level of the hold-in line. -/
  | holdInChange (p : PortId) (asserted : Bool)
  /-- BLINK_PHASE_CHANGE (R177). The common blink timebase changes the SLOW or FAST phase and the blinking lamps follow. -/
  | blinkPhaseChange
  /-- END_OF_DEVICE_RESET (R185). At the end of device reset the ports read their role and rate straps. The first SETTINGS cycle is sent and starts the refresh timer. The blink timebase and the output instants begin. Operand: the strap levels read, and what each control line brought first (log 10). -/
  | endOfDeviceReset (e : ResetEnd)
  /-- STATUS_ACK_SEND_END (R146). The last byte of a STATUS_ACK leaves the control line, and a waiting SETTINGS or STATUS_ACK message begins to leave. Operand: what the control line brought first (log 10). -/
  | statusAckSendEnd (m : LineMoment)
  deriving DecidableEq, Repr

end Sys2Proof
end

