-- ==== Sys2Proof/Decode.lean ====
section
/-! DEFINITION. Commands spelled by words of the table. The table gives no row any bits, so no word spells a command. -/

namespace Sys2Proof

/-- The command a word spells by the table's bits: none, for no row of spec/opcode_table.json gives bits (log 2). -/
def decodeTableWord (_nbits _w : Nat) : Option Instr := none

end Sys2Proof
end

