-- ==== Sys2Proof/Config.lean ====
section
/-! DEFINITION. What the manual leaves open and an implementation fixes. Nothing here has a body: no proof can see the value. -/

namespace Sys2Proof

/-- The three states of the frame parser (R188). -/
inductive ParserPhase where
  | hunt | length | body
  deriving DecidableEq, Repr, Inhabited

/-- FREE VALUE (log 9). The parser state that PORT_QUERY reports of a port whose parser holds a complete request:
R188 names three states and says only that the complete frame is held for taking (DESIGN CHOICE: left free; safe). -/
opaque Config.phaseWhileHolding : ParserPhase

/-- FREE VALUE (log 21). The four bytes, as a number, by which ALIGN_QUERY gives a last slip that four bytes in two's complement cannot hold:
a hole in the stamps can leave one (R97, R125), and the spec does not say what is sent (DESIGN CHOICE: left free; safe). -/
opaque Config.wideSlip : Int → BitVec 32

end Sys2Proof
end

