-- ==== Sys2Proof/Machine/State.lean ====
section
/-! DEFINITION. The state of the part as plain data, block by block, with its value after device reset. -/

namespace Sys2Proof.Machine

/-- A timer: absent while stopped, else the period it was last started with, in milliseconds unless its field says otherwise (log 4). -/
abbrev Timer := Option Nat

/-! ### Admission Table -/

/-- How an admission was paid (R1); the pass number is present only with PASS. -/
inductive Payment where
  | paid
  | pass (number : Nat)
  | comp
  deriving DecidableEq, Repr

/-- The measured class of an admitted vehicle (R1, R12). -/
inductive VehicleClass where
  | car | long | unmeasured
  deriving DecidableEq, Repr

/-- The state of a live ticket; class and entered-at are present only once it is PRESENT (R1). -/
inductive TicketState where
  | pending
  | present (cls : VehicleClass) (enteredAt : Nat)
  deriving DecidableEq, Repr

/-- One record of the ticket map (R1). -/
structure Ticket where
  number     : Nat
  screen     : ScreenId
  lane       : LaneId
  state      : TicketState
  payment    : Payment
  party      : Nat
  tailgate   : Bool
  openOrders : Nat
  deriving DecidableEq, Repr

/-- One zone record (R5). The full mark is derived. -/
structure Zone where
  capacity : Nat
  isOpen   : Bool
  pending  : Nat
  present  : Nat
  long     : Nat
  deriving DecidableEq, Repr

/-- A map of marks over pass numbers 0..4095 (R7, R8): the marked numbers, strictly rising. -/
abbrev PassMap := List Nat

/-- The night totals of the table (R19). -/
structure NightTotals where
  admitted   : Vector Nat 4
  paid       : Nat
  pass       : Nat
  comp       : Nat
  committed  : Vector Nat 4
  occupants  : Vector Nat 4
  voided     : Vector Nat 4
  departed   : Vector Nat 4
  deriving DecidableEq, Repr

/-! ### Lane Unit -/

/-- The filtered level of a loop input (R27). -/
inductive Loop where
  | clear | occupied
  deriving DecidableEq, Repr

/-- The gate arm output (R25). -/
inductive Arm where
  | lowered | raised
  deriving DecidableEq, Repr

/-- The states of an entry lane (R25). -/
inductive EntryState where
  | closed | idle | armed | passing | settling | stuck
  deriving DecidableEq, Repr

/-- The states of an exit lane (R43). -/
inductive ExitState where
  | closed | isOpen | stuck
  deriving DecidableEq, Repr

/-- The four settings of a lane (R26): seconds, milliseconds, milliseconds, seconds. -/
structure LaneSettings where
  passWindow    : Nat
  gapWindow     : Nat
  longThreshold : Nat
  stuckLimit    : Nat
  deriving DecidableEq, Repr

/-- The counts of an entry lane (R45). -/
structure EntryCounts where
  commits    : Nat
  timeouts   : Nat
  tailgates  : Nat
  unadmitted : Nat
  long       : Nat
  stuck      : Nat
  deriving DecidableEq, Repr

/-- The record of an entry lane (R25). `occupancyUs` is the occupancy in microseconds; the rules read it in whole milliseconds. -/
structure EntryLane where
  state       : EntryState
  admission   : Option Nat
  admitted    : Bool
  lastCommit  : Option Nat
  loop        : Loop
  arm         : Arm
  passTimer   : Timer
  gapTimer    : Timer
  occupancyUs : Nat
  longTimer   : Timer
  settings    : LaneSettings
  counts      : EntryCounts
  deriving DecidableEq, Repr

/-- The record of an exit lane (R43). -/
structure ExitLane where
  state      : ExitState
  loop       : Loop
  stuckTimer : Timer
  settings   : LaneSettings
  exits      : Nat
  stuck      : Nat
  deriving DecidableEq, Repr

/-! ### Show Clock Unit -/

/-- The three frame rates (R48). -/
inductive Rate where
  | fps24 | fps25 | fps30
  deriving DecidableEq, Repr

/-- A show position second+frame (00_scope.md, "Show positions"). -/
structure Pos where
  second : Nat
  frame  : Nat
  deriving DecidableEq, Repr

/-- The screen states (R56). -/
inductive ScreenState where
  | idle | armed | running | held | lost | ended
  deriving DecidableEq, Repr

/-- The hold reasons (R56). -/
inductive HoldReason where
  | cue | request | sound
  deriving DecidableEq, Repr

/-- The reference of the frame monitor (R50). -/
inductive Reference where
  | valid | stale
  deriving DecidableEq, Repr

/-- The screen settings carried by SET_SCREEN (R49). -/
structure ScreenSettings where
  rate       : Rate
  picture    : Nat
  exciter    : Nat
  trim       : Int
  holdOnLoss : Bool
  deriving DecidableEq, Repr

/-- The frame monitor of a screen (R50). -/
structure FrameMonitor where
  e         : Nat
  pLast     : Nat
  reference : Reference
  glitches  : Nat
  late      : Nat
  deriving DecidableEq, Repr

/-- The frame monitor, show clock and screen record of one screen (R49, R50, R53, R56). `stallTimer` holds microseconds. -/
structure Show where
  settings      : ScreenSettings
  monitor       : FrameMonitor
  clock         : Pos
  state         : ScreenState
  startPending  : Bool
  holdReason    : Option HoldReason
  framesStopped : Bool
  stallTimer    : Timer
  clockLimit    : Bool
  losses        : Nat
  pause         : Bool
  deriving DecidableEq, Repr

/-! ### Cue Unit -/

/-- The eight guards (R81). -/
inductive Guard where
  | always | ifA | ifNotA | ifB | ifNotB | ifBoth | ifEither | ifNeither
  deriving DecidableEq, Repr

/-- The thirteen TEST sources (R84). -/
inductive TestSource where
  | one | zero | flagA | flagB | soundUp | audioReady | alignLocked | zoneFull | entryOpen
  | ordersHeld | kitchenHigh | callsPending | lanesQuiet
  deriving DecidableEq, Repr

/-- The four TEST modes (R83). -/
inductive TestMode where
  | set | and | or | xor
  deriving DecidableEq, Repr

/-- A guard flag, the target of a TEST (R73). -/
inductive FlagName where
  | a | b
  deriving DecidableEq, Repr

/-- The twelve cue actions with their arguments (R69). -/
inductive CueAction where
  | test (source : TestSource) (mode : TestMode) (target : FlagName)
  | hold
  | endShow
  | entryOpen
  | entryClose
  | ordersOpen
  | ordersClose
  | kitchenRelease
  | callsOpen
  | callsClose
  | mark (code : Nat)
  | lamp (k : Fin 4) (on : Bool)
  deriving DecidableEq, Repr

/-- What became of a cue in the current or last show (R69). -/
inductive CueOutcome where
  | notReached | executed | skipped | passedOver
  deriving DecidableEq, Repr

/-- One cue record (R69). -/
structure Cue where
  id      : Nat
  pos     : Pos
  guard   : Guard
  action  : CueAction
  outcome : CueOutcome
  deriving DecidableEq, Repr

/-- The cue list of one screen with its cursor, flags and cue lamps (R69, R72, R73). -/
structure CueUnit where
  cues   : List Cue
  cursor : Nat
  flagA  : Bool
  flagB  : Bool
  lamps  : Vector Bool 4
  deriving DecidableEq, Repr

/-! ### Audio Intake -/

/-- A stored block: its stamp, its stamp position (R97) and its 240 sample pairs (R98). -/
structure Block where
  second  : Nat
  frame   : Nat
  offset  : Nat
  asp     : Nat
  samples : List Pair
  deriving DecidableEq, Repr

/-- A message of the return line (R101, R102, R198). -/
inductive FlowMessage where
  | hold (ms : Nat)
  | resume
  deriving DecidableEq, Repr

/-- The settings of an intake (R104). -/
structure SoundSettings where
  high     : Nat
  low      : Nat
  holdTime : Nat
  deriving DecidableEq, Repr

/-- The counts of an intake (R106). -/
structure IntakeCounts where
  accepted  : Nat
  closed    : Nat
  blockBad  : Nat
  seqGap    : Nat
  stampBad  : Nat
  stampBack : Nat
  overruns  : Nat
  holds     : Nat
  resumes   : Nat
  deriving DecidableEq, Repr

/-- The record of an Audio Intake (R90). `returnLine` is the model's record of the messages sent, oldest first (log 11). -/
structure Intake where
  isOpen       : Bool
  ring         : List Block
  lastAccepted : Option Nat
  expected     : Option Nat
  holding      : Bool
  holdTimer    : Timer
  settings     : SoundSettings
  counts       : IntakeCounts
  returnLine   : List FlowMessage
  deriving DecidableEq, Repr

/-! ### Alignment Unit -/

/-- The alignment modes (R112). -/
inductive AlignMode where
  | muted | paused | waiting | locked | catchUp | holdBack
  deriving DecidableEq, Repr

/-- The counts of an Alignment Unit (R125). -/
structure AlignCounts where
  underruns    : Nat
  lateResyncs  : Nat
  earlyResyncs : Nat
  discarded    : Nat
  dropped      : Nat
  repeated     : Nat
  deriving DecidableEq, Repr

/-- The record of an Alignment Unit with its derived delay (R107, R108, R112). -/
structure Align where
  dTenths     : Nat
  clamped     : Bool
  dSamples    : Nat
  mode        : AlignMode
  readPoint   : Nat
  repeatTaken : Bool
  lastSlip    : Option Int
  counts      : AlignCounts
  deriving DecidableEq, Repr

/-! ### Call Unit -/

/-- An entry of a call queue (R130). -/
inductive CallEntry where
  | orderCall (number : Nat)
  | announce (clips : List Nat)
  deriving DecidableEq, Repr

/-- A present entry of the clip directory: start address and length in samples (R127). -/
structure Clip where
  start  : Nat
  length : Nat
  deriving DecidableEq, Repr

/-- The clip directory (R127), with the port and tag of an unanswered CLIP_RESCAN (R128). -/
structure Directory where
  entries : Vector (Option Clip) 32
  valid   : Bool
  reading : Bool
  rescan  : Option (PortId × Byte)
  deriving DecidableEq, Repr

/-- A clip of a composed sequence: its id with the directory entry in force at the start of the call (R135). -/
structure SeqClip where
  id   : Nat
  clip : Clip
  deriving DecidableEq, Repr

/-- A block in a clip buffer: its place among the call's blocks, and its samples (R141). -/
structure ClipBlock where
  index   : Nat
  samples : List Sample
  deriving DecidableEq, Repr

/-- A call in a now-playing slot (R135 to R142). `lead` is the instants of lead left, `block` and `sample` the place of the next clip
sample, `skipping` whether that block was late, `nextRead` the first block neither read nor skipped, `readPending` an ungranted request. -/
structure Playing where
  entry       : CallEntry
  sequence    : List SeqClip
  duck        : Nat
  level       : Nat
  lead        : Nat
  block       : Nat
  sample      : Nat
  skipping    : Bool
  buffer      : List ClipBlock
  nextRead    : Nat
  readPending : Bool
  deriving DecidableEq, Repr

/-- The duck states with the instants spent in a ramp, and the gain from which a ramp up began (R136). -/
inductive DuckState where
  | up
  | rampDown (k : Nat)
  | ducked
  | rampUp (g k : Nat)
  deriving DecidableEq, Repr

/-- The mix settings (R139). -/
structure MixSettings where
  duck  : Nat
  level : Nat
  deriving DecidableEq, Repr

/-- The part of the Call Unit that belongs to one screen (R129, R130, R135, R136, R139, R143). `audioOut` is the model's record of
the last pair sent on the exciter audio output (R154, log 11). -/
structure CallUnit where
  callWindow  : Bool
  orderWindow : Bool
  queue       : List CallEntry
  slot        : Option Playing
  duckState   : DuckState
  gain        : Nat
  settings    : MixSettings
  heldBack    : Option MixSettings
  played      : Nat
  cut         : Nat
  clipLate    : Nat
  saturations : Nat
  audioOut    : Pair
  deriving DecidableEq, Repr

/-- A clip read in flight: its screen, its block among the call's blocks, how many samples it reads, and whether its call still
stands in the slot (R141). -/
structure ClipRead where
  screen : ScreenId
  index  : Nat
  start  : Nat
  count  : Nat
  live   : Bool
  deriving DecidableEq, Repr

/-- The clip reader (R141). -/
structure ClipReader where
  last     : ScreenId
  inFlight : Option ClipRead
  deriving DecidableEq, Repr

/-! ### Exciter Link Unit -/

/-- The link states (R144). -/
inductive LinkState where
  | down | up | lost
  deriving DecidableEq, Repr

/-- The exciter settings (R145). `mono` is mode MONO. -/
structure ExciterSettings where
  mute      : Bool
  mono      : Bool
  deviation : Nat
  deriving DecidableEq, Repr

/-- The exciter's condition as last reported (R144). -/
structure ExciterStatus where
  carrier : Bool
  fault   : Bool
  deriving DecidableEq, Repr

/-- A message of the part on the control line (R199). -/
inductive LineMessage where
  | settings (number : Byte) (settings : ExciterSettings)
  | statusAck (number : Byte)
  deriving DecidableEq, Repr

/-- The collection of a message from the exciter (R201): none being collected, the bytes collected after the 0xE7 that began one, or the
bytes after an unknown kind being ignored until a silence. -/
inductive Collector where
  | idle
  | collecting (got : List Byte)
  | ignoring
  deriving DecidableEq, Repr

/-- The counts of an exciter link (R155). -/
structure LinkCounts where
  sends    : Nat
  retries  : Nat
  valid    : Nat
  stale    : Nat
  statuses : Nat
  bad      : Nat
  losses   : Nat
  deriving DecidableEq, Repr

/-- The record of an Exciter Link Unit (R144) with its control line (R146): the message leaving, those waiting for the line, and
the collection of a message from the exciter (R201). In `latest`, `true` is ANSWERED. -/
structure Link where
  state        : LinkState
  settings     : ExciterSettings
  nextSend     : Byte
  latest       : Option (Byte × Bool)
  unanswered   : Nat
  ackTimer     : Timer
  refreshTimer : Timer
  last         : Option ExciterStatus
  soundUp      : Bool
  counts       : LinkCounts
  leaving      : Option LineMessage
  waiting      : List LineMessage
  collector    : Collector
  deriving DecidableEq, Repr

/-! ### Order Unit -/

/-- The state of a live order, with the field its state carries (R156, R158). -/
inductive OrderState where
  | held (releasePending : Bool)
  | queued
  | cooking
  | ready (readyAt : Nat)
  deriving DecidableEq, Repr

/-- The two pickups (R156). -/
inductive Pickup where
  | now | atBreak
  deriving DecidableEq, Repr

/-- The outcomes with which an order leaves the table (R156). -/
inductive OrderOutcome where
  | collected | voided | departed | showEnded | request | expired
  deriving DecidableEq, Repr

/-- One record of the order table (R156). -/
structure Order where
  number      : Nat
  ticket      : Nat
  screen      : ScreenId
  pickup      : Pickup
  items       : Nat
  prep        : Nat
  state       : OrderState
  origin      : PortId
  placedAt    : Nat
  callsPlayed : Nat
  lastCallEnd : Option Nat
  owed        : Bool
  deriving DecidableEq, Repr

/-- The kitchen settings (R159). -/
structure KitchenSettings where
  high           : Nat
  low            : Nat
  unitSeconds    : Nat
  recallInterval : Nat
  maxCalls       : Nat
  deriving DecidableEq, Repr

/-- The night totals of the Order Unit (R173). -/
structure OrderTotals where
  placedNow   : Nat
  placedBreak : Nat
  collected   : Nat
  voided      : Nat
  departed    : Nat
  showEnded   : Nat
  request     : Nat
  expired     : Nat
  deriving DecidableEq, Repr

/-- The Order Unit (R156 to R164). `table` keeps its records in the order of placing, so that a screen's held list is read from it;
`kitchen` is the kitchen queue head first, `shelf` the ready shelf oldest first. -/
structure OrderUnit where
  table    : List Order
  seq      : Nat
  kitchen  : List Nat
  shelf    : List Nat
  released : Vector Bool 4
  pointer  : ScreenId
  settings : KitchenSettings
  totals   : OrderTotals
  deriving DecidableEq, Repr

/-! ### Lamp Unit -/

/-- The lamp sources with their indexes (R176). -/
inductive LampSource where
  | off
  | on
  | laneReady (n : LaneId)
  | laneArmed (n : LaneId)
  | laneClosed (n : LaneId)
  | laneLong (n : LaneId)
  | zoneFull (s : ScreenId)
  | entryOpen (s : ScreenId)
  | ordersOpen (s : ScreenId)
  | callPlaying (s : ScreenId)
  | screenHeld (s : ScreenId)
  | screenLost (s : ScreenId)
  | soundDown (s : ScreenId)
  | cueLamp (s : ScreenId) (k : Fin 4)
  | kitchenHigh
  | kitchenWork
  | attention (p : PortId)
  deriving DecidableEq, Repr

/-- The blink settings (R175). -/
inductive Blink where
  | steady | slow | fast
  deriving DecidableEq, Repr

/-- One lamp record (R175). -/
structure Lamp where
  source : LampSource
  invert : Bool
  blink  : Blink
  deriving DecidableEq, Repr

/-! ### Attention -/

/-- The 21 event kinds, in the order of the table of R179. -/
inductive EventKind where
  | frameLost | soundLost | showHeld | loopStuck
  | admitTimeout | tailgate | unadmittedPass | zoneFull | longVehicle
  | frameResumed | soundRestored | soundResync | audioOverrun | cueMark | showEnded | clockLimit
  | orderCancelled | orderExpired | kitchenHigh | kitchenLow | kitchenWork
  deriving DecidableEq, Repr

/-- The cause carried by SOUND_LOST and SOUND_RESTORED (R152). -/
inductive SoundCause where
  | link | carrier | rfFault
  deriving DecidableEq, Repr

/-- The detail of a posted event (R179). -/
inductive Detail where
  | screen (s : ScreenId)
  | sound (s : ScreenId) (cause : SoundCause)
  | held (s : ScreenId) (reason : HoldReason)
  | entryLane (n : LaneId)
  | stuckEntry (n : LaneId)
  | stuckExit (n : ExitId)
  | mark (s : ScreenId) (code : Nat)
  | order (number : Nat)
  | fill (n : Nat)
  deriving DecidableEq, Repr

/-- The states of an event flag (R179). -/
inductive FlagState where
  | clear | pending | seen
  deriving DecidableEq, Repr

/-- One event flag (R179). -/
structure Flag where
  state  : FlagState
  count  : Nat
  detail : Option Detail
  deriving DecidableEq, Repr

/-! ### Station Port Unit -/

/-- The four roles (R185). -/
inductive Role where
  | booth | gate | kitchen | service
  deriving DecidableEq, Repr

/-- What stands in a receive FIFO: a byte or a break mark (R187). -/
inductive RxItem where
  | byte (b : Byte)
  | mark
  deriving DecidableEq, Repr

/-- The frame parser (R188): in BODY, the frame's length and the bytes collected after it. -/
inductive Parser where
  | hunt
  | length
  | body (len : Nat) (got : List Byte)
  deriving DecidableEq, Repr

/-- A complete request: code, tag and payload of its frame (R188, R196). -/
structure Request where
  code    : Byte
  tag     : Byte
  payload : List Byte
  deriving DecidableEq, Repr

/-- The counts of a port (R194). -/
structure PortCounts where
  taken     : Nat
  refused   : Nat
  check     : Nat
  abandoned : Nat
  hunted    : Nat
  line      : Nat
  overruns  : Nat
  deriving DecidableEq, Repr

/-- The record of a station port (R185) with its event flags, mask (FAULT, GATE, SHOW, KITCHEN; true is ENABLED) and attention
line (R179, R183, R184). `fast` is 460,800 baud. -/
structure Port where
  role        : Role
  fast        : Bool
  parser      : Parser
  held        : Option Request
  rx          : List RxItem
  lastBreak   : Bool
  gapTimer    : Timer
  tx          : List Byte
  sending     : Bool
  holdIn      : Bool
  holdOut     : Bool
  outstanding : Bool
  counts      : PortCounts
  flags       : Vector Flag 21
  mask        : Vector Bool 4
  attention   : Bool
  deriving DecidableEq, Repr

/-! ### The part -/

/-- The whole state of the part, with the queue of commands waiting (log 2). `blink` is the place in the blink cycle in eighths
of 125 ms, absent until the end of device reset (R177). -/
structure State where
  pending    : List Instr
  inReset    : Bool
  startup    : Bool
  tickets    : List Ticket
  nextTicket : Option Nat
  nightClock : Nat
  zones      : Vector Zone 4
  permits    : PassMap
  used       : PassMap
  totals     : NightTotals
  entry      : Vector EntryLane 4
  exits      : Vector ExitLane 2
  shows      : Vector Show 4
  cues       : Vector CueUnit 4
  intakes    : Vector Intake 4
  aligns     : Vector Align 4
  calls      : Vector CallUnit 4
  dir        : Directory
  reader     : ClipReader
  links      : Vector Link 4
  orders     : OrderUnit
  lamps      : Vector Lamp 12
  blink      : Option (Fin 8)
  ports      : Vector Port 3
  deriving DecidableEq, Repr

/-- The faults of the part: none. The manual names no condition that stops the part; a request that may not be carried out is
refused with a status in its reply (R193). No meaning can answer with a fault (safe: nothing the part does is cut off). -/
inductive Fault where
  deriving DecidableEq, Repr

/-- The refusals of the model. -/
inductive Refusal where
  /-- Raised by an arm of `exec` that has no meaning yet, with the row's mnemonic; no arm does (safe: the machine stops). -/
  | notModelled (mnemonic : String)
  deriving DecidableEq, Repr

/-! ### Reset values -/

/-- A zone after device reset (R5). -/
def Zone.reset : Zone := { capacity := 0, isOpen := false, pending := 0, present := 0, long := 0 }

/-- The night totals after device reset and CLOSE_NIGHT (R19). -/
def NightTotals.zero : NightTotals :=
  { admitted := .replicate 4 0, paid := 0, pass := 0, comp := 0, committed := .replicate 4 0
    occupants := .replicate 4 0, voided := .replicate 4 0, departed := .replicate 4 0 }

/-- The default lane settings (R26). -/
def LaneSettings.reset : LaneSettings := { passWindow := 45, gapWindow := 1500, longThreshold := 4000, stuckLimit := 90 }

/-- The entry counts after device reset and CLOSE_NIGHT (R45). -/
def EntryCounts.zero : EntryCounts := { commits := 0, timeouts := 0, tailgates := 0, unadmitted := 0, long := 0, stuck := 0 }

/-- An entry lane after device reset, its loop at the level found at the input (R25, R27). -/
def EntryLane.reset (level : Loop) : EntryLane :=
  { state := .closed, admission := none, admitted := false, lastCommit := none, loop := level, arm := .lowered
    passTimer := none, gapTimer := none, occupancyUs := 0, longTimer := none, settings := .reset, counts := .zero }

/-- An exit lane after device reset, its loop at the level found at the input (R43, R27). -/
def ExitLane.reset (level : Loop) : ExitLane :=
  { state := .closed, loop := level, stuckTimer := none, settings := .reset, exits := 0, stuck := 0 }

/-- A screen's frame monitor, clock and record after device reset (R48, R49, R50, R53, R56, R107). -/
def Show.reset : Show :=
  { settings := { rate := .fps24, picture := 0, exciter := 0, trim := 0, holdOnLoss := false }
    monitor := { e := 166668, pLast := 41667, reference := .stale, glitches := 0, late := 0 }
    clock := { second := 0, frame := 0 }, state := .idle, startPending := false, holdReason := none
    framesStopped := false, stallTimer := none, clockLimit := false, losses := 0, pause := false }

/-- A cue list after device reset (R69, R72, R73). -/
def CueUnit.reset : CueUnit := { cues := [], cursor := 0, flagA := false, flagB := false, lamps := .replicate 4 false }

/-- The intake counts at device reset and at an opening (R106). -/
def IntakeCounts.zero : IntakeCounts :=
  { accepted := 0, closed := 0, blockBad := 0, seqGap := 0, stampBad := 0, stampBack := 0, overruns := 0, holds := 0, resumes := 0 }

/-- An intake after device reset (R90). -/
def Intake.reset : Intake :=
  { isOpen := false, ring := [], lastAccepted := none, expected := none, holding := false, holdTimer := none
    settings := { high := 28, low := 16, holdTime := 200 }, counts := .zero, returnLine := [] }

/-- The alignment counts at device reset and ARM_SHOW (R125). -/
def AlignCounts.zero : AlignCounts :=
  { underruns := 0, lateResyncs := 0, earlyResyncs := 0, discarded := 0, dropped := 0, repeated := 0 }

/-- An Alignment Unit after device reset (R107, R108, R112). -/
def Align.reset : Align :=
  { dTenths := 0, clamped := false, dSamples := 0, mode := .muted, readPoint := 0, repeatTaken := false, lastSlip := none, counts := .zero }

/-- The clip directory after device reset: being read, every entry absent (R127). The header-valid mark is false until the start-up read
completes (DESIGN CHOICE, log 22: R127 gives it at the completion only). -/
def Directory.reset : Directory := { entries := .replicate 32 none, valid := false, reading := true, rescan := none }

/-- A screen's call state after device reset (R129, R130, R136, R139, R143). -/
def CallUnit.reset : CallUnit :=
  { callWindow := false, orderWindow := false, queue := [], slot := none, duckState := .up, gain := 256
    settings := { duck := 32, level := 256 }, heldBack := none, played := 0, cut := 0, clipLate := 0, saturations := 0, audioOut := silence }

/-- The clip reader after device reset: it counts from screen 3 (R141). -/
def ClipReader.reset : ClipReader := { last := 3, inFlight := none }

/-- The link counts after device reset (R155). -/
def LinkCounts.zero : LinkCounts := { sends := 0, retries := 0, valid := 0, stale := 0, statuses := 0, bad := 0, losses := 0 }

/-- An exciter link after device reset (R144). -/
def Link.reset : Link :=
  { state := .down, settings := { mute := false, mono := false, deviation := 75 }, nextSend := 0, latest := none, unanswered := 0
    ackTimer := none, refreshTimer := none, last := none, soundUp := false, counts := .zero, leaving := none, waiting := [], collector := .idle }

/-- The order totals after device reset and CLOSE_NIGHT (R173). -/
def OrderTotals.zero : OrderTotals :=
  { placedNow := 0, placedBreak := 0, collected := 0, voided := 0, departed := 0, showEnded := 0, request := 0, expired := 0 }

/-- The Order Unit after device reset (R156, R157, R159, R163, R164, R173). -/
def OrderUnit.reset : OrderUnit :=
  { table := [], seq := 1, kitchen := [], shelf := [], released := .replicate 4 false, pointer := 3
    settings := { high := 40, low := 8, unitSeconds := 20, recallInterval := 300, maxCalls := 3 }, totals := .zero }

/-- A lamp after device reset (R175). -/
def Lamp.reset : Lamp := { source := .off, invert := false, blink := .steady }

/-- A flag that records nothing (R179). -/
def Flag.none : Flag := { state := .clear, count := 0, detail := Option.none }

/-- The port counts after device reset (R194). -/
def PortCounts.zero : PortCounts := { taken := 0, refused := 0, check := 0, abandoned := 0, hunted := 0, line := 0, overruns := 0 }

/-- A port after device reset, its hold-in input at the level found (R185, R179, R183, R184). Role and rate stand at what low straps
give until the straps are read (DESIGN CHOICE, unsafe: log 7); the gap timer is stopped (DESIGN CHOICE: log 8). -/
def Port.reset (holdIn : Bool) : Port :=
  { role := .booth, fast := false, parser := .hunt, held := none, rx := [], lastBreak := false, gapTimer := none, tx := [], sending := false
    holdIn := holdIn, holdOut := true, outstanding := false, counts := .zero, flags := .replicate 21 Flag.none, mask := .replicate 4 true
    attention := false }

/-- The part right after device reset: every block at its reset values, every loop input CLEAR and every hold-in line released
(DESIGN CHOICE, unsafe: log 5 and 6), the clip directory being read and the start-up hold in force (R127, R185, R190). -/
def State.reset : State :=
  { pending := [], inReset := true, startup := true
    tickets := [], nextTicket := some 1, nightClock := 0, zones := .replicate 4 .reset, permits := [], used := [], totals := .zero
    entry := .replicate 4 (.reset .clear), exits := .replicate 2 (.reset .clear), shows := .replicate 4 .reset, cues := .replicate 4 .reset
    intakes := .replicate 4 .reset, aligns := .replicate 4 .reset, calls := .replicate 4 .reset, dir := .reset, reader := .reset
    links := .replicate 4 .reset, orders := .reset, lamps := .replicate 12 .reset, blink := none, ports := .replicate 3 (.reset false) }

end Sys2Proof.Machine
end

