-- ==== Sys2Proof/Machine/Ops.lean ====
section
/-! DEFINITION. The named operations over the part's records: update of one instance, saturating counts, and look-ups by number. -/

namespace Sys2Proof.Machine

/-- The vector with `f` applied at place `i`. -/
def upd {α : Type} {n : Nat} (v : Vector α n) (i : Fin n) (f : α → α) : Vector α n := v.set i (f v[i])

/-- `n + k`, staying at `max` ("saturating" counts of the conventions). -/
def satAdd (max n k : Nat) : Nat := min max (n + k)

/-- A 16-bit saturating count raised by one. -/
def inc16 (n : Nat) : Nat := satAdd 65535 n 1

/-- A 32-bit saturating count raised by one. -/
def inc32 (n : Nat) : Nat := satAdd 4294967295 n 1

/-- The sum over the four screens. -/
def sum4 (v : Vector Nat 4) : Nat := v[0] + v[1] + v[2] + v[3]

/-! ### Updates of one record -/

def State.modZone (i : ScreenId) (f : Zone → Zone) (s : State) : State := { s with zones := upd s.zones i f }
def State.modEntry (i : LaneId) (f : EntryLane → EntryLane) (s : State) : State := { s with entry := upd s.entry i f }
def State.modExit (i : ExitId) (f : ExitLane → ExitLane) (s : State) : State := { s with exits := upd s.exits i f }
def State.modShow (i : ScreenId) (f : Show → Show) (s : State) : State := { s with shows := upd s.shows i f }
def State.modCues (i : ScreenId) (f : CueUnit → CueUnit) (s : State) : State := { s with cues := upd s.cues i f }
def State.modIntake (i : ScreenId) (f : Intake → Intake) (s : State) : State := { s with intakes := upd s.intakes i f }
def State.modAlign (i : ScreenId) (f : Align → Align) (s : State) : State := { s with aligns := upd s.aligns i f }
def State.modCalls (i : ScreenId) (f : CallUnit → CallUnit) (s : State) : State := { s with calls := upd s.calls i f }
def State.modLink (i : ScreenId) (f : Link → Link) (s : State) : State := { s with links := upd s.links i f }
def State.modPort (i : PortId) (f : Port → Port) (s : State) : State := { s with ports := upd s.ports i f }
def State.modLamp (i : Fin 12) (f : Lamp → Lamp) (s : State) : State := { s with lamps := upd s.lamps i f }
def State.modTotals (f : NightTotals → NightTotals) (s : State) : State := { s with totals := f s.totals }
def State.modOrders (f : OrderUnit → OrderUnit) (s : State) : State := { s with orders := f s.orders }
def State.modTickets (f : List Ticket → List Ticket) (s : State) : State := { s with tickets := f s.tickets }
def State.modDir (f : Directory → Directory) (s : State) : State := { s with dir := f s.dir }
def State.modReader (f : ClipReader → ClipReader) (s : State) : State := { s with reader := f s.reader }

/-! ### Tickets and orders by number -/

/-- The live ticket with the number, if there is one (R1). -/
def State.ticket? (s : State) (number : Nat) : Option Ticket := s.tickets.find? (·.number == number)

/-- The live order with the number, if there is one (R156). -/
def State.order? (s : State) (number : Nat) : Option Order := s.orders.table.find? (·.number == number)

/-- The ticket with the number is changed by `f`; other tickets stay. -/
def State.modTicket (number : Nat) (f : Ticket → Ticket) (s : State) : State :=
  s.modTickets (·.map fun t => if t.number = number then f t else t)

/-- The order with the number is changed by `f`; other orders stay. -/
def State.modOrder (number : Nat) (f : Order → Order) (s : State) : State :=
  s.modOrders fun o => { o with table := o.table.map fun r => if r.number = number then f r else r }

/-! ### Marks over pass numbers -/

/-- Every number from `lo` to `hi` marked, both included (R7); the map stays strictly rising. -/
def PassMap.setRange (lo hi : Nat) (m : PassMap) : PassMap :=
  m.filter (· < lo) ++ List.range' lo (hi + 1 - lo) ++ m.filter (hi < ·)

/-- Every number from `lo` to `hi` cleared, both included (R7). -/
def PassMap.clearRange (lo hi : Nat) (m : PassMap) : PassMap := m.filter fun n => n < lo || hi < n

/-- Whether the mark of a pass number is set. -/
def PassMap.isSet (m : PassMap) (n : Nat) : Bool := m.contains n

/-- The form a pass map keeps: strictly rising numbers within 0..4095 (R7, R8). -/
def PassMap.wf (m : PassMap) : Bool := m.all (· < 4096) && decide (m.Pairwise (· < ·))

/-! ### Zones -/

/-- A zone's occupancy: its pending count plus its present count (R5). -/
def Zone.occupancy (z : Zone) : Nat := z.pending + z.present

/-- A zone's full mark: its occupancy equals its capacity (R6). -/
def Zone.full (z : Zone) : Bool := z.occupancy == z.capacity

/-! ### Show positions -/

/-- One position is later than another when its second is greater, or the seconds are equal and its frame is greater. -/
def Pos.later (p q : Pos) : Bool := q.second < p.second || (p.second == q.second && q.frame < p.frame)

/-- A screen is in a show while it is RUNNING, HELD or LOST (R56). -/
def ScreenState.inShow : ScreenState → Bool
  | .running | .held | .lost => true
  | .idle | .armed | .ended => false

end Sys2Proof.Machine
end

