-- ==== Sys2Proof/Machine/Flags.lean ====
section
/-! DEFINITION. Event flags and attention lines: what a post does to the flags of the three ports, and when a line is asserted. -/

namespace Sys2Proof.Machine

/-- The 21 event kinds in the order of the table of R179. -/
def eventKinds : List EventKind :=
  [.frameLost, .soundLost, .showHeld, .loopStuck,
   .admitTimeout, .tailgate, .unadmittedPass, .zoneFull, .longVehicle,
   .frameResumed, .soundRestored, .soundResync, .audioOverrun, .cueMark, .showEnded, .clockLimit,
   .orderCancelled, .orderExpired, .kitchenHigh, .kitchenLow, .kitchenWork]

/-- The place of a kind in the table of R179. -/
def EventKind.index : EventKind → Fin 21
  | .frameLost => 0 | .soundLost => 1 | .showHeld => 2 | .loopStuck => 3
  | .admitTimeout => 4 | .tailgate => 5 | .unadmittedPass => 6 | .zoneFull => 7 | .longVehicle => 8
  | .frameResumed => 9 | .soundRestored => 10 | .soundResync => 11 | .audioOverrun => 12 | .cueMark => 13 | .showEnded => 14
  | .clockLimit => 15 | .orderCancelled => 16 | .orderExpired => 17 | .kitchenHigh => 18 | .kitchenLow => 19 | .kitchenWork => 20

/-- The class of a kind (R179): 0 FAULT, 1 GATE, 2 SHOW, 3 KITCHEN. -/
def EventKind.cls (k : EventKind) : Fin 4 :=
  if k.index.val < 4 then 0 else if k.index.val < 9 then 1 else if k.index.val < 16 then 2 else 3

/-- The flag of a kind at a port. -/
def Port.flag (p : Port) (k : EventKind) : Flag := p.flags[k.index]

/-- The condition of R184: some flag whose class is ENABLED is PENDING or SEEN. -/
def Port.wantsAttention (p : Port) : Bool :=
  eventKinds.any fun k => p.mask[k.cls] && !((p.flag k).state == .clear)

/-- The attention line examined (R184). -/
def Port.examine (p : Port) : Port := { p with attention := p.wantsAttention }

/-- What a post does to its flag (R180). -/
def Flag.post (d : Detail) (f : Flag) : Flag := { state := .pending, count := satAdd 255 f.count 1, detail := some d }

/-- A post at one port: the flag changes and the line is examined (R180, R184). -/
def Port.post (k : EventKind) (d : Detail) (p : Port) : Port := { p with flags := upd p.flags k.index (Flag.post d) }.examine

/-- A post reaches the flag of its kind at every port in the same handling (R180). It examines the attention lines during start-up as at any
other time, so that an event posted within the start-up hold asserts them by R184 (DESIGN CHOICE, log 23: R190 has them released throughout
start-up, with every flag CLEAR as its reason). -/
def State.post (k : EventKind) (d : Detail) (s : State) : State :=
  { s with ports := #v[(s.ports[0]).post k d, (s.ports[1]).post k d, (s.ports[2]).post k d] }

/-- READ_EVENTS at a flag: PENDING becomes SEEN (R181). -/
def Flag.read (f : Flag) : Flag := if f.state = .pending then { f with state := .seen } else f

/-- CLEAR_EVENTS at a named flag: SEEN becomes CLEAR (R182). -/
def Flag.clear (f : Flag) : Flag := if f.state = .seen then Flag.none else f

/-- The class of highest priority that has a PENDING flag at the port (R181). -/
def Port.highestPending (p : Port) : Option (Fin 4) :=
  (eventKinds.find? fun k => (p.flag k).state == .pending).map EventKind.cls

end Sys2Proof.Machine
end

