-- ==== Sys2Proof/Machine/Rates.lean ====
section
/-! DEFINITION. The quantities a frame rate fixes (R48), the applied delay (R107, R108), and the passing of time in a frame monitor. -/

namespace Sys2Proof.Machine

/-- Frames per second. -/
def Rate.fps : Rate → Nat
  | .fps24 => 24
  | .fps25 => 25
  | .fps30 => 30

/-- P_nom: 1,000,000 / fps rounded to the nearest microsecond. -/
def Rate.pNom (r : Rate) : Nat := (1000000 + r.fps / 2) / r.fps

/-- P_lo: floor(P_nom × 97 / 100). -/
def Rate.pLo (r : Rate) : Nat := r.pNom * 97 / 100

/-- P_hi: ceiling(P_nom × 103 / 100). -/
def Rate.pHi (r : Rate) : Nat := (r.pNom * 103 + 99) / 100

/-- The stall limit: 4 × P_nom. -/
def Rate.stallLimit (r : Rate) : Nat := 4 * r.pNom

/-- Sample pairs per frame: 48000 div fps. -/
def Rate.spf (r : Rate) : Nat := 48000 / r.fps

/-- The sum of the delay settings: picture latency − exciter latency + trim (R107). -/
def ScreenSettings.delaySum (t : ScreenSettings) : Int := (t.picture : Int) - (t.exciter : Int) + t.trim

/-- The sum clamped into 0..1250 (R107). -/
def ScreenSettings.dTenths (t : ScreenSettings) : Nat := (min 1250 (max 0 t.delaySum)).toNat

/-- DELAY_CLAMPED: the sum lies outside 0..1250 (R107). -/
def ScreenSettings.delayClamped (t : ScreenSettings) : Bool := decide (t.delaySum < 0 ∨ 1250 < t.delaySum)

/-- The applied delay in sample pairs (R108). -/
def delaySamples (tenths : Nat) : Nat := (tenths * 48 + 5) / 10

/-- The delay quantities formed from the settings, in the handling of an accepted SET_SCREEN (R107, R108). -/
def Align.setDelay (t : ScreenSettings) (a : Align) : Align :=
  { a with dTenths := t.dTenths, clamped := t.delayClamped, dSamples := delaySamples t.dTenths }

/-- `us` microseconds pass: e counts up and stops at the stall limit, where the reference becomes STALE (R50, R52, log 3). -/
def FrameMonitor.elapse (r : Rate) (us : Nat) (m : FrameMonitor) : FrameMonitor :=
  let e := min r.stallLimit (m.e + us)
  { m with e := e, reference := if e = r.stallLimit then .stale else m.reference }

/-- `us` microseconds pass in a screen's frame monitor. -/
def Show.elapse (us : Nat) (w : Show) : Show := { w with monitor := w.monitor.elapse w.settings.rate us }

/-- `us` microseconds pass in an entry lane: the occupancy is timed in PASSING (R31, R35, log 3). -/
def EntryLane.elapse (us : Nat) (l : EntryLane) : EntryLane :=
  if l.state = .passing then { l with occupancyUs := l.occupancyUs + us } else l

end Sys2Proof.Machine
end

