-- ==== Sys2Proof/Machine/Wire.lean ====
section
/-! DEFINITION. The byte layouts of 12_wire_formats.md: fields, the check, station frames, audio blocks, flow messages, exciter
messages and the clip directory header. -/

namespace Sys2Proof.Machine

/-! ### Fields (R195) -/

/-- A quantity within 0..255: 1 byte. -/
def u8 (n : Nat) : List Byte := [BitVec.ofNat 8 n]

/-- A quantity within 0..65535: 2 bytes, high byte first. -/
def u16 (n : Nat) : List Byte := [BitVec.ofNat 8 (n / 256), BitVec.ofNat 8 n]

/-- A clip start address or clip length: 3 bytes. -/
def u24 (n : Nat) : List Byte := [BitVec.ofNat 8 (n / 65536), BitVec.ofNat 8 (n / 256), BitVec.ofNat 8 n]

/-- A quantity beyond 65535: 4 bytes. -/
def u32 (n : Nat) : List Byte := u16 (n / 65536) ++ u16 n

/-- Trim: signed, two's complement, 2 bytes. -/
def i16 (z : Int) : List Byte := u16 (z % 65536).toNat

/-- Slip: signed, two's complement, 4 bytes. A slip beyond what they hold is sent as a free value (DESIGN CHOICE, log 21). -/
def i32 (z : Int) : List Byte :=
  if -2147483648 ≤ z ∧ z ≤ 2147483647 then u32 (z % 4294967296).toNat else u32 (Config.wideSlip z).toNat

/-- A mark named false, true. -/
def flagByte (b : Bool) : List Byte := u8 (if b then 1 else 0)

/-- A show position: second, then frame. -/
def posBytes (p : Pos) : List Byte := u16 p.second ++ u8 p.frame

/-- A field that may be absent: a presence byte, then the field when it is present. -/
def optBytes {α : Type} (f : α → List Byte) : Option α → List Byte
  | none => u8 0
  | some x => u8 1 ++ f x

/-- A list of varying length: a count byte, then the elements. -/
def listBytes {α : Type} (f : α → List Byte) (xs : List α) : List Byte := u8 xs.length ++ xs.flatMap f

/-- A named value: its place in the list where the owning rule names the values. -/
def enumByte {α : Type} [DecidableEq α] (names : List α) (x : α) : List Byte := u8 (names.idxOf x)

/-- Two bytes, high byte first, as a number. -/
def word16 (hi lo : Byte) : Nat := hi.toNat * 256 + lo.toNat

/-- Three bytes, high byte first, as a number. -/
def word24 (a b c : Byte) : Nat := (a.toNat * 256 + b.toNat) * 256 + c.toNat

/-! ### The check (R195) -/

/-- One shift of the check register: 0x1021 is combined in when the outgoing top bit is 1. -/
def crcShift (r : BitVec 16) : BitVec 16 := if r.msb then (r <<< 1) ^^^ 0x1021#16 else r <<< 1

/-- One byte combined into the check register and shifted through. -/
def crcByte (r : BitVec 16) (b : Byte) : BitVec 16 :=
  crcShift <| crcShift <| crcShift <| crcShift <| crcShift <| crcShift <| crcShift <| crcShift (r ^^^ (b.zeroExtend 16 <<< 8))

/-- The bytes combined one after another, from a register. The register is taken apart before each byte so that the kernel holds a
number and not a growing term; `crcFrom_eq_foldl` says that this is the plain fold of `crcByte`. -/
def crcFrom (r : BitVec 16) : List Byte → BitVec 16
  | [] => r
  | b :: bs =>
    match r.toNat with
    | 0 => crcFrom (crcByte 0#16 b) bs
    | n + 1 => crcFrom (crcByte (BitVec.ofNat 16 (n + 1)) b) bs

/-- The CRC-16 over a list of bytes. -/
def crc16 (bytes : List Byte) : BitVec 16 := crcFrom 0xFFFF#16 bytes

/-- The check as sent, high byte first. -/
def checkBytes (bytes : List Byte) : List Byte := u16 (crc16 bytes).toNat

/-- Whether a received check agrees with the one computed over the bytes. -/
def checkAgrees (bytes : List Byte) (hi lo : Byte) : Bool := checkBytes bytes == [hi, lo]

/-! ### Station frames (R186, R193, R196) -/

/-- The start byte of a frame. -/
def startByte : Byte := 0xC3#8

/-- The bytes the check of a frame covers: from the length through the payload, `rest` being what follows the length. -/
def framed (rest : List Byte) : List Byte := u8 rest.length ++ rest

/-- A frame whose length counts `rest`. -/
def frame (rest : List Byte) : List Byte := startByte :: framed rest ++ checkBytes (framed rest)

/-- The frame of a request. -/
def Request.frame (r : Request) : List Byte := Machine.frame (r.code :: r.tag :: r.payload)

/-- A reply frame: the request's code plus 0x80 modulo 256, its tag unchanged, the status, the payload. -/
def replyFrame (code tag : Byte) (status : Nat) (payload : List Byte) : List Byte :=
  frame ((code + 0x80#8) :: tag :: u8 status ++ payload)

/-! ### Audio intake link (R198, R201) -/

/-- The sample pairs spelled by a run of bytes, each left then right, high byte first. -/
def pairsOf : List Byte → List Pair
  | a :: b :: c :: d :: rest => (a ++ b, c ++ d) :: pairsOf rest
  | _ => []

/-- The mono samples spelled by a run of bytes, high byte first (R200). -/
def samplesOf : List Byte → List Sample
  | a :: b :: rest => (a ++ b) :: samplesOf rest
  | _ => []

/-- The bytes of a sample pair. -/
def pairBytes (p : Pair) : List Byte := u16 p.1.toNat ++ u16 p.2.toNat

/-- The fields of a block that passes its check. -/
structure BlockFields where
  sequence : Nat
  second   : Nat
  frame    : Nat
  offset   : Nat
  samples  : List Pair
  deriving DecidableEq, Repr

/-- The fields a run of bytes spells, between the sync and the check. -/
def blockFields : List Byte → Option BlockFields
  | q1 :: q0 :: s1 :: s0 :: f :: o1 :: o0 :: rest =>
    some { sequence := word16 q1 q0, second := word16 s1 s0, frame := f.toNat, offset := word16 o1 o0, samples := pairsOf rest }
  | _ => none

/-- A block as received between two silences: absent when it fails its check (R94, R201). Bytes after the 971st are ignored. -/
def readBlock : List Byte → Option BlockFields
  | 0xA5#8 :: 0x5A#8 :: rest =>
    match (rest.drop 967).take 2 with
    | [hi, lo] => if checkAgrees (rest.take 967) hi lo then blockFields (rest.take 967) else none
    | _ => none
  | _ => none

/-- The bytes the check of a block covers. -/
def BlockFields.covered (b : BlockFields) : List Byte :=
  u16 b.sequence ++ u16 b.second ++ u8 b.frame ++ u16 b.offset ++ b.samples.flatMap pairBytes

/-- A block as the server sends it. -/
def BlockFields.bytes (b : BlockFields) : List Byte := [0xA5#8, 0x5A#8] ++ b.covered ++ checkBytes b.covered

/-- HOLD and RESUME as sent on the return line. -/
def FlowMessage.bytes : FlowMessage → List Byte
  | .hold ms => 0xA5#8 :: (u8 1 ++ u16 ms) ++ checkBytes (u8 1 ++ u16 ms)
  | .resume => 0xA5#8 :: (u8 2 ++ u16 0) ++ checkBytes (u8 2 ++ u16 0)

/-! ### Exciter control line (R199, R201) -/

/-- SETTINGS and STATUS_ACK as sent on the control line. -/
def LineMessage.bytes : LineMessage → List Byte
  | .settings n t =>
    let body := 0x10#8 :: n :: (flagByte t.mute ++ flagByte t.mono ++ u8 t.deviation)
    0xE7#8 :: body ++ checkBytes body
  | .statusAck n => 0xE7#8 :: [0x11#8, n] ++ checkBytes [0x11#8, n]

/-- The flags byte of ACK and STATUS: carrier-on in its lowest bit, RF-fault in the bit above; the other bits are ignored. -/
def statusOfFlags (flags : Byte) : ExciterStatus := { carrier := flags.getLsbD 0, fault := flags.getLsbD 1 }

/-- What a message from an exciter turns out to be at its end: an ACK or a STATUS with its fields, or damaged (R150, R201). -/
inductive ExciterMessage where
  | ack (number flags : Byte)
  | status (number flags : Byte)
  | bad
  deriving DecidableEq, Repr

/-- The kinds of the messages that an exciter sends: ACK and STATUS. -/
def exciterKind (kind : Byte) : Bool := kind == 0x90#8 || kind == 0x91#8

/-- The message whose bytes after the 0xE7 have all been collected. -/
def exciterMessage : List Byte → ExciterMessage
  | [kind, number, flags, hi, lo] =>
    if checkAgrees [kind, number, flags] hi lo then
      if kind = 0x90#8 then .ack number flags else if kind = 0x91#8 then .status number flags else .bad
    else .bad
  | _ => .bad

/-- One input of the line at the collection, with the message it ends: a message begins at 0xE7 while none is collected; an unknown kind
ends it at its kind byte, what follows being ignored until a silence; a silence inside it cuts it short (R201). -/
def Collector.take (x : LineInput) (c : Collector) : Collector × Option ExciterMessage :=
  match c, x with
  | .idle, .byte b => (if b = 0xE7#8 then .collecting [] else .idle, none)
  | .collecting got, .byte b =>
    if got.isEmpty && !exciterKind b then (.ignoring, some .bad)
    else if got.length < 4 then (.collecting (got ++ [b]), none)
    else (.idle, some (exciterMessage (got ++ [b])))
  | .collecting _, .silence => (.idle, some .bad)
  | .ignoring, .byte _ => (.ignoring, none)
  | .idle, .silence | .ignoring, .silence => (.idle, none)

/-- The collection after inputs that end no message. An input that would end one is not taken here, nor any after it: it belongs to the
row of the message it ends. -/
def Collector.hear : List LineInput → Collector → Collector
  | [], c => c
  | x :: xs, c =>
    match c.take x with
    | (c, none) => Collector.hear xs c
    | (_, some _) => c

/-- The message that the last of the inputs ends, with the collection after it; absent when that input ends none or an earlier one does. -/
def Collector.ends : List LineInput → Collector → Option (Collector × ExciterMessage)
  | [], _ => none
  | x :: xs, c =>
    match c.take x with
    | (c, none) => Collector.ends xs c
    | (c, some m) => if xs.isEmpty then some (c, m) else none

/-! ### Clip directory header (R127, R200, R201) -/

/-- The entry of one clip: present when marked used, with a length in 1..480000 and lying within the flash. -/
def clipEntry : List Byte → Option Clip
  | [used, a2, a1, a0, l2, l1, l0] =>
    let start := word24 a2 a1 a0
    let length := word24 l2 l1 l0
    if used = 1#8 ∧ 1 ≤ length ∧ length ≤ 480000 ∧ start + 2 * length ≤ 16777216 then some { start, length } else none
  | _ => none

/-- The 32 entries of a header in clip id order, absent when the header is not valid. -/
def readHeader (bytes : List Byte) : Option (Vector (Option Clip) 32) :=
  match bytes.drop 227 with
  | [hi, lo] =>
    if bytes.take 3 = [0x57#8, 0xDC#8, 1#8] ∧ checkAgrees (bytes.take 227) hi lo then
      some (Vector.ofFn fun k => clipEntry ((bytes.drop (3 + 7 * k.val)).take 7))
    else none
  | _ => none

end Sys2Proof.Machine
end

