-- ==== Sys2Proof/Machine/IntakeOps.lean ====
section
/-! DEFINITION. The operations of an Audio Intake: opening and closing, the judging of a block, and the flow control toward the server. -/

namespace Sys2Proof.Machine

/-- A count of the intake changed. -/
def Intake.count (f : IntakeCounts → IntakeCounts) (k : Intake) : Intake := { k with counts := f k.counts }

/-- The fill: the number of blocks in the ring (R90). -/
def Intake.fill (k : Intake) : Nat := k.ring.length

/-- HOLD sent with the hold time in force: HOLDING, counted, the hold timer started at the full hold time (R99, R101, R103). -/
def Intake.sendHold (k : Intake) : Intake :=
  { k with returnLine := k.returnLine ++ [FlowMessage.hold k.settings.holdTime], holding := true, holdTimer := some k.settings.holdTime }.count
    fun c => { c with holds := inc16 c.holds }

/-- RESUME sent: FLOWING, counted, the hold timer stopped (R91, R102). -/
def Intake.sendResume (k : Intake) : Intake :=
  { k with returnLine := k.returnLine ++ [FlowMessage.resume], holding := false, holdTimer := none }.count
    fun c => { c with resumes := inc16 c.resumes }

/-- The flow state examined after an accepted block (R101). -/
def Intake.examineRise (k : Intake) : Intake := if !k.holding ∧ k.settings.high ≤ k.fill then k.sendHold else k

/-- The flow state examined after the fill has fallen (R102). -/
def Intake.examineFall (k : Intake) : Intake := if k.holding ∧ k.fill ≤ k.settings.low then k.sendResume else k

/-- The opening of the intake by ARM_SHOW (R91). -/
def Intake.openUp (k : Intake) : Intake :=
  let k := { k with ring := [], isOpen := true, lastAccepted := none, expected := none, counts := .zero }
  if k.holding then k.sendResume else k

/-- The closing of the intake (R91): the flow state is kept and no message is sent. -/
def Intake.close (k : Intake) : Intake := { k with ring := [], isOpen := false, holdTimer := none }

/-- The stamp position of a well-formed block (R97). -/
def stampPosition (r : Rate) (b : BlockFields) : Nat := (b.second * r.fps + b.frame) * r.spf + b.offset

/-- Whether a stamp is well formed at the rate (R96). -/
def stampOk (r : Rate) (b : BlockFields) : Bool := b.frame < r.fps && b.offset < r.spf

/-- Step 3 of R93: the sequence compared and the expected sequence moved on (R95). -/
def Intake.judgeSequence (b : BlockFields) (k : Intake) : Intake :=
  let k := match k.expected with
    | some n => if n = b.sequence then k else k.count fun c => { c with seqGap := inc16 c.seqGap }
    | none => k
  { k with expected := some ((b.sequence + 1) % 65536) }

/-- Whether a stamp position is below the last accepted position + 240 (R97). -/
def Intake.isBack (asp : Nat) (k : Intake) : Bool :=
  match k.lastAccepted with
  | some last => asp < last + 240
  | none => false

/-- Step 7: the block placed at the tail of the ring, then the flow state examined (R98, R101). -/
def Intake.accept (asp : Nat) (b : BlockFields) (k : Intake) : Intake :=
  let block : Block := { second := b.second, frame := b.frame, offset := b.offset, asp, samples := b.samples }
  { k with ring := k.ring ++ [block], lastAccepted := some asp }.count (fun c => { c with accepted := inc16 c.accepted }) |>.examineRise

/-- An overrun: the block is lost, HOLD is sent again and the timer started again (R99). -/
def Intake.overrun (k : Intake) : Intake := (k.count fun c => { c with overruns := inc16 c.overruns }).sendHold

/-- An arriving block judged by the steps of R93; the second component says whether it was an overrun. -/
def Intake.arrive (r : Rate) (bytes : List Byte) (k : Intake) : Intake × Bool :=
  if !k.isOpen then (k.count fun c => { c with closed := inc16 c.closed }, false)
  else match readBlock bytes with
  | none => (k.count fun c => { c with blockBad := inc16 c.blockBad }, false)
  | some b =>
    let k := k.judgeSequence b
    if !stampOk r b then (k.count fun c => { c with stampBad := inc16 c.stampBad }, false)
    else if k.isBack (stampPosition r b) then (k.count fun c => { c with stampBack := inc16 c.stampBack }, false)
    else if 32 ≤ k.fill then (k.overrun, true)
    else (k.accept (stampPosition r b) b, false)

/-- SET_SOUND: the settings replaced and, with the intake OPEN, the flow state examined against the new marks (R104). -/
def Intake.setSound (t : SoundSettings) (k : Intake) : Intake :=
  let k := { k with settings := t }
  if !k.isOpen then k else if k.holding then k.examineFall else k.examineRise

/-- Every flush of the ring sets the read point to 0 and repeat taken to false (R112). -/
def Align.flushed (a : Align) : Align := { a with readPoint := 0, repeatTaken := false }

/-- A screen's intake opened, its ring flushed (R57, R91). -/
def State.openIntake (i : ScreenId) (s : State) : State := (s.modIntake i Intake.openUp).modAlign i Align.flushed

/-- A screen's intake closed, its ring flushed (R65, R66, R91). -/
def State.closeIntake (i : ScreenId) (s : State) : State := (s.modIntake i Intake.close).modAlign i Align.flushed

end Sys2Proof.Machine
end

