-- ==== Sys2Proof/Machine/CallOps.lean ====
section
/-! DEFINITION. The operations of the Call Unit: call queues, owed fill, the start, end and cut of a call, and the clip reader. -/

namespace Sys2Proof.Machine

/-! ### Clip sequences -/

/-- The decimal digits of an order number, from the first that is not zero. -/
def orderDigits (n : Nat) : List Nat :=
  if n < 10 then [n] else if n < 100 then [n / 10, n % 10] else [n / 100, n / 10 % 10, n % 10]

/-- The clip ids an entry is composed of, before absent clips are left out (R135). -/
def CallEntry.clipIds : CallEntry → List Nat
  | .orderCall n => [12, 10] ++ orderDigits n ++ [11]
  | .announce clips => clips

/-- The directory entry of a clip id. -/
def Directory.clip? (d : Directory) (id : Nat) : Option Clip := if h : id < 32 then d.entries[id] else none

/-- The sequence composed from the directory in force; clips absent are left out (R135). -/
def Directory.compose (d : Directory) (e : CallEntry) : List SeqClip :=
  e.clipIds.filterMap fun id => (d.clip? id).map fun clip => { id, clip }

/-- The blocks of a clip: (L + 239) div 240 (R141). -/
def Clip.blocks (c : Clip) : Nat := (c.length + 239) / 240

/-- The blocks of a call. -/
def totalBlocks (cs : List SeqClip) : Nat := (cs.map fun c => c.clip.blocks).sum

/-- The start address and sample count of a block of a call, counted from 0 through its sequence, clip after clip (R141). -/
def blockAt : List SeqClip → Nat → Option (Nat × Nat)
  | [], _ => none
  | c :: cs, k =>
    if k < c.clip.blocks then some (c.clip.start + 480 * k, min 240 (c.clip.length - 240 * k))
    else blockAt cs (k - c.clip.blocks)

/-! ### Queues -/

/-- Whether an order call of the order stands in the screen's queue or now-playing slot (R131, R167). -/
def CallUnit.hasCallOf (n : Nat) (c : CallUnit) : Bool :=
  c.queue.contains (.orderCall n) || (match c.slot with | some p => p.entry == .orderCall n | none => false)

/-- An entry joins the tail of a queue. -/
def CallUnit.join (e : CallEntry) (c : CallUnit) : CallUnit := { c with queue := c.queue ++ [e] }

/-- The Order Unit asks for an order's call: satisfied as it stands, queued, or the order marked owed (R131). -/
def State.enqueueCall (i : ScreenId) (n : Nat) (s : State) : State :=
  if (s.calls[i]).hasCallOf n then s
  else if (s.calls[i]).queue.length < 16 then s.modCalls i (·.join (.orderCall n))
  else s.modOrder n fun o => { o with owed := true }

/-- The screen's owed order that stands earliest on the ready shelf (R132). -/
def State.nextOwed (i : ScreenId) (s : State) : Option Nat :=
  s.orders.shelf.find? fun n => match s.order? n with
    | some o => o.owed && o.screen == i
    | none => false

/-- Up to `k` owed orders of the screen fill the queue while it has room (R132). -/
def State.owedFillFor : Nat → ScreenId → State → State
  | 0, _, s => s
  | k + 1, i, s =>
    if (s.calls[i]).queue.length < 16 then
      match s.nextOwed i with
      | some n => State.owedFillFor k i ((s.modOrder n fun o => { o with owed := false }).modCalls i (·.join (.orderCall n)))
      | none => s
    else s

/-- The owed fill of a screen (R132). It fills all the room the queue has, whatever its cause, the call window OPEN or CLOSED (DESIGN CHOICE,
log 24: R132 fills while there is room, yet says that one departure brings in at most one, and R134 that the orders of a flush wait until
the window is opened again). -/
def State.owedFill (i : ScreenId) (s : State) : State := State.owedFillFor 16 i s

/-- An order's queued call withdrawn from its screen's queue (R134). -/
def State.withdrawCall (i : ScreenId) (n : Nat) (s : State) : State :=
  s.modCalls i fun c => { c with queue := c.queue.filter fun e => !(e == .orderCall n) }

/-! ### The end and the start of a call -/

/-- "Call played": a live READY order counts the call; any other report is discarded (R167). -/
def State.reportPlayed (e : CallEntry) (s : State) : State :=
  match e with
  | .announce _ => s
  | .orderCall n => s.modOrder n fun o =>
      match o.state with
      | .ready _ => { o with callsPlayed := o.callsPlayed + 1, lastCallEnd := some s.nightClock }
      | _ => o

/-- The calls played count of a screen rises by one (R137). -/
def State.countPlayed (i : ScreenId) (s : State) : State := s.modCalls i fun c => { c with played := inc16 c.played }

/-- The conditions that a start and a follow-on share: window OPEN, SOUND_UP, the directory not being read, an entry queued. -/
def State.mayCall (i : ScreenId) (s : State) : Bool :=
  (s.calls[i]).callWindow && (s.links[i]).soundUp && !s.dir.reading && !(s.calls[i]).queue.isEmpty

/-- The conditions under which the head call starts from UP (R135). -/
def State.canStart (i : ScreenId) (s : State) : Bool :=
  (s.calls[i]).slot.isNone && (s.calls[i]).duckState == .up && s.mayCall i

/-- A call as it enters the slot: its lead of 480 instants ahead of it, and its first block asked for (R135, R136, R141). -/
def Playing.atStart (e : CallEntry) (seq : List SeqClip) (m : MixSettings) : Playing :=
  { entry := e, sequence := seq, duck := m.duck, level := m.level, lead := 480, block := 0, sample := 0, skipping := false
    buffer := [], nextRead := 0, readPending := true }

/-- The head entry leaves the queue for the slot, the duck state becoming `duck`; a call whose composed sequence is empty ends at
once, reported and counted (R135, log 16). The owed fill then runs. -/
def State.takeHead (i : ScreenId) (m : MixSettings) (duck : DuckState) (s : State) : State :=
  match (s.calls[i]).queue with
  | [] => s
  | e :: rest =>
    let s := s.modCalls i fun c => { c with queue := rest }
    let seq := s.dir.compose e
    let s := if seq.isEmpty then (s.reportPlayed e).countPlayed i
      else s.modCalls i fun c => { c with slot := some (.atStart e seq m), duckState := duck }
    s.owedFill i

/-- The most entries that can leave a screen's queue in one handling: those in it, and those the owed fill can bring. -/
def State.callFuel (i : ScreenId) (s : State) : Nat := (s.calls[i]).queue.length + s.orders.shelf.length

/-- Calls start while the conditions of R135 hold; one that does not end at once holds the slot. -/
def State.startCalls : Nat → ScreenId → State → State
  | 0, _, s => s
  | k + 1, i, s =>
    if s.canStart i then State.startCalls k i (s.takeHead i (s.calls[i]).settings (.rampDown 0)) else s

/-- The head call of a screen starts if a handling leaves the conditions of R135 true. -/
def State.startScreen (i : ScreenId) (s : State) : State := State.startCalls (s.callFuel i) i s

/-- After a call's end the next entry enters the slot at once with the settings latched, the duck state kept DUCKED; with none to
enter, the duck state becomes RAMP_UP from the duck gain (R137). -/
def State.followOn : Nat → ScreenId → MixSettings → State → State
  | 0, i, m, s => if (s.calls[i]).slot.isSome then s else s.modCalls i fun c => { c with duckState := .rampUp m.duck 0 }
  | k + 1, i, m, s =>
    if (s.calls[i]).slot.isSome then s
    else if s.mayCall i then State.followOn k i m (s.takeHead i m .ducked)
    else s.modCalls i fun c => { c with duckState := .rampUp m.duck 0 }

/-! ### The clip reader (R141) -/

/-- A read in flight for the screen no longer has its call in the slot: its block will be discarded. -/
def ClipReader.orphan (i : ScreenId) (r : ClipReader) : ClipReader :=
  { r with inFlight := r.inFlight.map fun f => if f.screen = i then { f with live := false } else f }

/-- Whether a read of the call in the screen's slot is in flight. -/
def ClipReader.serves (i : ScreenId) (r : ClipReader) : Bool :=
  match r.inFlight with
  | some f => f.live && f.screen == i
  | none => false

/-- A screen whose slot holds a call asks for its next block when it has no request outstanding, a free buffer place and blocks left. -/
def Playing.ask (serving : Bool) (p : Playing) : Playing :=
  if !p.readPending && !serving && p.buffer.length < 2 && p.nextRead < totalBlocks p.sequence then { p with readPending := true } else p

/-- The request of one screen renewed. -/
def State.askRead (i : ScreenId) (s : State) : State :=
  s.modCalls i fun c => { c with slot := c.slot.map (·.ask (s.reader.serves i)) }

/-- Whether a screen has a request the reader has not granted. -/
def State.readWanted (i : ScreenId) (s : State) : Bool :=
  match (s.calls[i]).slot with
  | some p => p.readPending
  | none => false

/-- One request granted: the block is in flight until its completion. -/
def State.grant (i : ScreenId) (s : State) : State :=
  match (s.calls[i]).slot with
  | none => s
  | some p =>
    match blockAt p.sequence p.nextRead with
    | none => s
    | some (start, count) =>
      (s.modCalls i fun c => { c with slot := some { p with readPending := false, nextRead := p.nextRead + 1 } }).modReader fun _ =>
        { last := i, inFlight := some { screen := i, index := p.nextRead, start, count, live := true } }

/-- The free reader grants the pending request of the first screen after the one it last served; none while the directory is read. -/
def State.grantRead (s : State) : State :=
  if s.reader.inFlight.isSome || s.dir.reading then s
  else match [s.reader.last + 1, s.reader.last + 2, s.reader.last + 3, s.reader.last].find? fun i => s.readWanted i with
    | some i => s.grant i
    | none => s

/-- Every screen's request renewed, and the reader set to work. -/
def State.serveReads (s : State) : State :=
  ((((s.askRead 0).askRead 1).askRead 2).askRead 3).grantRead

/-- The calls that a handling leaves able to start, started on every screen, and the reads they ask for (R135, R141). -/
def State.startAll (s : State) : State :=
  ((((s.startScreen 0).startScreen 1).startScreen 2).startScreen 3).serveReads

/-! ### Windows, cut and flush -/

/-- CALLS_OPEN: a change from CLOSED to OPEN runs the owed fill and is an occasion to start a call (R129, R132). -/
def State.openCalls (i : ScreenId) (s : State) : State :=
  if (s.calls[i]).callWindow then s
  else (((s.modCalls i fun c => { c with callWindow := true }).owedFill i).startScreen i).serveReads

/-- CALLS_CLOSE: a call in the slot plays to its end (R129). -/
def State.closeCalls (i : ScreenId) (s : State) : State := s.modCalls i fun c => { c with callWindow := false }

/-- The order window set (R129). -/
def State.setOrderWindow (i : ScreenId) (isOpen : Bool) (s : State) : State := s.modCalls i fun c => { c with orderWindow := isOpen }

/-- An order whose call was flushed or cut is marked owed, if it is live (R134, R138). -/
def State.markOwed (e : CallEntry) (s : State) : State :=
  match e with
  | .orderCall n => s.modOrder n fun o => { o with owed := true }
  | .announce _ => s

/-- The call in the slot cut at once, with no report, its order owed, the gain ramping up from the gain in force (R138). -/
def State.cutCall (i : ScreenId) (s : State) : State :=
  match (s.calls[i]).slot with
  | none => s
  | some p =>
    ((s.modCalls i fun c => { c with slot := none, duckState := .rampUp c.gain 0, cut := inc16 c.cut }).markOwed p.entry).modReader
      (·.orphan i)

/-- SCREEN_RESET's flush of a queue: every order whose call is removed is marked owed, announcements are lost (R134). -/
def State.flushQueue (i : ScreenId) (s : State) : State :=
  ((s.calls[i]).queue.foldl (fun s e => s.markOwed e) s).modCalls i fun c => { c with queue := [] }

end Sys2Proof.Machine
end

