-- ==== Sys2Proof/Machine/OrderOps.lean ====
section
/-! DEFINITION. The operations of the Order Unit: its collections, the kitchen queue's fill and levels, releases, removal, recall and expiry. -/

namespace Sys2Proof.Machine

/-! ### Collections -/

/-- Whether an order is HELD, release pending or not. -/
def Order.isHeld (o : Order) : Bool := match o.state with | .held _ => true | _ => false

/-- Whether an order is HELD and release pending. -/
def Order.isPending (o : Order) : Bool := match o.state with | .held p => p | _ => false

/-- Whether an order is QUEUED or COOKING. -/
def Order.inKitchen (o : Order) : Bool := match o.state with | .queued | .cooking => true | _ => false

/-- Whether an order is READY. -/
def Order.isReady (o : Order) : Bool := match o.state with | .ready _ => true | _ => false

/-- The held list of a screen, oldest placed first (R158). -/
def OrderUnit.heldList (i : ScreenId) (u : OrderUnit) : List Order := u.table.filter fun o => o.isHeld && o.screen == i

/-- The fill of the kitchen queue (R158). -/
def OrderUnit.fill (u : OrderUnit) : Nat := u.kitchen.length

/-- The fill is at or above the high level (R162). -/
def OrderUnit.isHigh (u : OrderUnit) : Bool := u.settings.high ≤ u.fill

/-- The crossings between the fill before a handling and the fill after it, each posted at most once (R162). -/
def State.postCrossings (before : Nat) (s : State) : State :=
  let after := s.orders.fill
  let s := if before < s.orders.settings.high ∧ s.orders.settings.high ≤ after then s.post .kitchenHigh (.fill after) else s
  let s := if s.orders.settings.low < before ∧ after ≤ s.orders.settings.low then s.post .kitchenLow (.fill after) else s
  if before = 0 ∧ 0 < after then s.post .kitchenWork (.fill after) else s

/-- A held order becomes QUEUED and joins the tail of the kitchen queue. -/
def State.joinKitchen (n : Nat) (s : State) : State :=
  (s.modOrder n fun o => { o with state := .queued }).modOrders fun u => { u with kitchen := u.kitchen ++ [n] }

/-! ### Kitchen release (R163, R164) -/

/-- One held order of a release: to the queue while it holds fewer than 48, else release pending in its place. -/
def State.releaseOne (s : State) (o : Order) : State :=
  if s.orders.fill < 48 then s.joinKitchen o.number else s.modOrder o.number fun o => { o with state := .held true }

/-- The kitchen release of a screen; with the flag already set it changes nothing (R163). -/
def State.kitchenRelease (i : ScreenId) (s : State) : State :=
  if s.orders.released[i] then s
  else
    let before := s.orders.fill
    let moved := (s.orders.heldList i).filter fun o => !o.isPending
    let s := s.modOrders fun u => { u with released := upd u.released i fun _ => true }
    (moved.foldl State.releaseOne s).postCrossings before

/-- The oldest release-pending order of a screen. -/
def OrderUnit.oldestPending (i : ScreenId) (u : OrderUnit) : Option Order := (u.heldList i).find? Order.isPending

/-- One service step: the oldest release-pending order of the first screen after the pointer that has one joins the queue (R164). -/
def State.serviceStep (s : State) : State :=
  let p := s.orders.pointer
  match [p + 1, p + 2, p + 3, p].find? fun i => (s.orders.oldestPending i).isSome with
  | none => s
  | some i =>
    match s.orders.oldestPending i with
    | none => s
    | some o => (s.joinKitchen o.number).modOrders fun u => { u with pointer := i }

/-- One service step for each slot freed. -/
def State.serviceSteps : Nat → State → State
  | 0, s => s
  | k + 1, s => State.serviceSteps k s.serviceStep

/-! ### Removal (R169 to R172) -/

/-- The night total of an outcome rises by one (R173). -/
def OrderTotals.countOutcome (out : OrderOutcome) (t : OrderTotals) : OrderTotals :=
  match out with
  | .collected => { t with collected := inc16 t.collected }
  | .voided => { t with voided := inc16 t.voided }
  | .departed => { t with departed := inc16 t.departed }
  | .showEnded => { t with showEnded := inc16 t.showEnded }
  | .request => { t with request := inc16 t.request }
  | .expired => { t with expired := inc16 t.expired }

/-- The event a removal posts: ORDER_CANCELLED for a cancellation, ORDER_EXPIRED for an expiry, none for a collection. -/
def State.postRemoval (out : OrderOutcome) (n : Nat) (s : State) : State :=
  match out with
  | .collected => s
  | .expired => s.post .orderExpired (.order n)
  | .voided | .departed | .showEnded | .request => s.post .orderCancelled (.order n)

/-- One order leaves its collection and the table, with its marks, its call withdrawn and its ticket's count lowered (R4, R169). -/
def State.removeOne (out : OrderOutcome) (s : State) (o : Order) : State :=
  let s := s.modOrders fun u =>
    { u with table := u.table.filter (fun r => r.number != o.number), kitchen := u.kitchen.filter (· != o.number)
             shelf := u.shelf.filter (· != o.number), totals := u.totals.countOutcome out }
  let s := s.modTicket o.ticket fun t => { t with openOrders := t.openOrders - 1 }
  (s.withdrawCall o.screen o.number).postRemoval out o.number

/-- The owed fill of a screen from whose queue, of `before` entries, a handling withdrew one (R132, R134). Orders owed since a flush come in
by it too, all that there is room for, the window CLOSED or not (DESIGN CHOICE, log 24). -/
def State.fillIfShrunk (i : ScreenId) (before : Nat) (s : State) : State :=
  if (s.calls[i]).queue.length < before then s.owedFill i else s

/-- Orders removed in one handling: all of them first, then one service step per slot freed, then the crossings, compared once, and
the owed fill of the queues that lost an entry (R169). -/
def State.removeOrders (out : OrderOutcome) (os : List Order) (s : State) : State :=
  let r := os.foldl (State.removeOne out) s
  let t := (State.serviceSteps (s.orders.fill - r.orders.fill) r).postCrossings s.orders.fill
  let length := fun i : ScreenId => (s.calls[i]).queue.length
  (((t.fillIfShrunk 0 (length 0)).fillIfShrunk 1 (length 1)).fillIfShrunk 2 (length 2)).fillIfShrunk 3 (length 3)

/-- Every live order naming a ticket, in the order of placing (R171). -/
def State.ordersOf (ticket : Nat) (s : State) : List Order := s.orders.table.filter (·.ticket == ticket)

/-- The end of a show cancels the screen's HELD orders that are not release pending (R172). -/
def State.cancelHeld (i : ScreenId) (s : State) : State :=
  s.removeOrders .showEnded ((s.orders.heldList i).filter fun o => !o.isPending)

/-! ### Recall and expiry (R167, R168) -/

/-- Whether an order is due at an advance of the night clock. -/
def State.isDue (o : Order) (s : State) : Bool :=
  match o.lastCallEnd with
  | none => false
  | some last => !(s.calls[o.screen]).hasCallOf o.number && !o.owed && last + s.orders.settings.recallInterval ≤ s.nightClock

/-- One order of the ready shelf examined: a due one is recalled, or expires once it has had max calls. -/
def State.examineOrder (s : State) (n : Nat) : State :=
  match s.order? n with
  | none => s
  | some o =>
    if !s.isDue o then s
    else if o.callsPlayed < s.orders.settings.maxCalls then s.enqueueCall o.screen o.number
    else s.removeOrders .expired [o]

/-- The ready shelf examined from its oldest order to its newest. -/
def State.examineShelf (s : State) : State := s.orders.shelf.foldl State.examineOrder s

/-! ### Numbers and quotes (R157, R161) -/

/-- Whether an order call of the number stands in some now-playing slot. -/
def State.numberPlaying (n : Nat) (s : State) : Bool :=
  s.calls.toList.any fun c => match c.slot with
    | some p => p.entry == .orderCall n
    | none => false

/-- The `k`-th number counted from the one the sequence holds, 999 going round to 1. -/
def numberAfter (seq k : Nat) : Nat := (seq - 1 + k) % 999 + 1

/-- The number a successful PLACE_ORDER issues: the first, counting from the sequence, that is free (R157). -/
def State.nextOrderNumber (s : State) : Nat :=
  (((List.range 999).map (numberAfter s.orders.seq)).find? fun n => (s.order? n).isNone && !s.numberPlaying n).getD s.orders.seq

/-- The quoted wait: the prep units of every QUEUED and COOKING order times the unit seconds, at most 5999 (R161). -/
def OrderUnit.quote (u : OrderUnit) : Nat := min 5999 (((u.table.filter Order.inKitchen).map (·.prep)).sum * u.settings.unitSeconds)

end Sys2Proof.Machine
end

