-- ==== Sys2Proof/Machine/ShowOps.lean ====
section
/-! DEFINITION. The operations of the Show Clock Unit: the judging of a pulse, the advance of the clock, holds, stalls and the end of a show. -/

namespace Sys2Proof.Machine

/-- The alignment mode of a screen set (R113). -/
def State.setMode (i : ScreenId) (m : AlignMode) (s : State) : State := s.modAlign i fun a => { a with mode := m }

/-- PAUSED becomes WAITING when the pulses return or a stopped show resumes (R113). -/
def Align.unpause (a : Align) : Align := if a.mode = .paused then { a with mode := .waiting } else a

/-- The stall timer started at the stall limit (R60). -/
def Show.startStall (w : Show) : Show := { w with stallTimer := some w.settings.rate.stallLimit }

/-! ### The frame monitor (R51) -/

/-- The four judgements of a pulse. -/
inductive Judgement where
  | glitch | measured | late | unmeasured
  deriving DecidableEq, Repr

/-- A pulse judged against e as it stands. -/
def FrameMonitor.judge (r : Rate) (m : FrameMonitor) : Judgement :=
  if m.e < r.pLo then .glitch
  else match m.reference with
    | .stale => .unmeasured
    | .valid => if m.e ≤ r.pHi then .measured else .late

/-- The effect of a judgement on the frame monitor. -/
def FrameMonitor.pulse (r : Rate) (m : FrameMonitor) : FrameMonitor :=
  match m.judge r with
  | .glitch => { m with glitches := inc16 m.glitches }
  | .measured => { m with pLast := m.e, e := 0 }
  | .late => { m with pLast := r.pHi, late := inc16 m.late, e := 0 }
  | .unmeasured => { m with reference := .valid, e := 0 }

/-- e reaches the stall limit: the reference becomes STALE (R52). -/
def Show.monitorStall (w : Show) : Show :=
  { w with monitor := { w.monitor with e := w.settings.rate.stallLimit, reference := .stale } }

/-! ### The show clock (R53, R54) -/

/-- Whether the clock stands at its last position 65535+(fps − 1). -/
def Show.saturated (w : Show) : Bool := w.clock.second == 65535 && w.clock.frame == w.settings.rate.fps - 1

/-- The clock moved on by one frame. -/
def Show.advance (w : Show) : Show :=
  if w.clock.frame + 1 < w.settings.rate.fps then { w with clock := { w.clock with frame := w.clock.frame + 1 } }
  else { w with clock := { second := w.clock.second + 1, frame := 0 } }

/-- A pulse that finds the clock saturated: the first of a show posts CLOCK_LIMIT (R54). -/
def State.clockLimit (i : ScreenId) (s : State) : State :=
  if (s.shows[i]).clockLimit then s
  else (s.modShow i fun w => { w with clockLimit := true }).post .clockLimit (.screen i)

/-! ### Holds, stalls, ends -/

/-- A show held from RUNNING or LOST: the pause asserted and SHOW_HELD posted; from LOST frames stopped is set (R62, R63). -/
def State.holdShow (i : ScreenId) (reason : HoldReason) (s : State) : State :=
  (s.modShow i fun w =>
    { w with state := .held, holdReason := some reason, pause := true, framesStopped := w.state == .lost }).post
      .showHeld (.held i reason)

/-- A held show resumed: the pause released and the stall timer started, measured from the resume (R64, R113). -/
def State.resumeShow (i : ScreenId) (s : State) : State :=
  let stopped := (s.shows[i]).framesStopped
  let s := s.modShow i fun w =>
    { w with state := .running, holdReason := none, pause := false, framesStopped := false }.startStall
  if stopped then s.modAlign i Align.unpause else s

/-- The screen record out of any show: state as given, no hold, the stall timer stopped, the pause released (R65, R66). -/
def Show.leave (st : ScreenState) (w : Show) : Show :=
  { w with state := st, holdReason := none, framesStopped := false, stallTimer := none, pause := false }

/-- The end of a show: ENDED, the sound muted, the intake closed and flushed, the screen's HELD orders cancelled, posted (R65). -/
def State.endShow (i : ScreenId) (s : State) : State :=
  ((((s.modShow i (Show.leave .ended)).closeIntake i).setMode i .muted).cancelHeld i).post .showEnded (.screen i)

/-- Expiry of the stall timer, by the state it finds (R60). -/
def State.stallExpiry (i : ScreenId) (s : State) : State :=
  let w := s.shows[i]
  if w.stallTimer.isNone then s
  else
    let s := s.modShow i fun w => { w with stallTimer := none }
    match w.state with
    | .running =>
      ((s.modShow i fun w => { w with state := .lost, losses := inc16 w.losses }).setMode i .paused).post .frameLost (.screen i)
    | .held => (s.modShow i fun w => { w with framesStopped := true }).setMode i .paused
    | .idle | .armed | .lost | .ended => s

/-- A fall of SOUND_UP as the Show Clock Unit takes it: a RUNNING show with the option ON is held with reason SOUND (R63). -/
def State.soundLossHold (i : ScreenId) (s : State) : State :=
  if (s.shows[i]).state = .running ∧ (s.shows[i]).settings.holdOnLoss then s.holdShow i .sound else s

end Sys2Proof.Machine
end

