-- ==== Sys2Proof/Machine/LinkOps.lean ====
section
/-! DEFINITION. The operations of an Exciter Link Unit: the control line, SETTINGS sends and cycles, the loss of the link, and SOUND_UP
with what its changes do in other blocks. -/

namespace Sys2Proof.Machine

/-- A count of the link changed. -/
def Link.count (f : LinkCounts → LinkCounts) (k : Link) : Link := { k with counts := f k.counts }

/-! ### The control line (R146) -/

/-- A message from the exciter is arriving: the line is not free (R146). -/
def Link.receiving (k : Link) : Bool := match k.collector with | .collecting _ => true | .idle | .ignoring => false

/-- Inputs of the line that end no message, taken before a handling in which a message of the part may leave (R146, R201, log 10). -/
def Link.hear (heard : List LineInput) (k : Link) : Link := { k with collector := k.collector.hear heard }

/-- A message made by the part: it leaves at once when the line is free, else it waits behind those made before it. -/
def Link.emit (m : LineMessage) (k : Link) : Link :=
  if k.leaving.isNone ∧ !k.receiving ∧ k.waiting.isEmpty then { k with leaving := some m } else { k with waiting := k.waiting ++ [m] }

/-- The next waiting message begins to leave when the line is free. -/
def Link.release (k : Link) : Link :=
  if k.leaving.isSome ∨ k.receiving then k
  else match k.waiting with
    | [] => k
    | m :: rest => { k with leaving := some m, waiting := rest }

/-- A message from the exciter is complete or discarded: the line is free of it, and a waiting message begins to leave. -/
def Link.received (c : Collector) (k : Link) : Link := { k with collector := c }.release

/-- A SETTINGS send: the next number taken, the latest send UNANSWERED, an earlier ack timer stopped (R146). -/
def Link.makeSend (k : Link) : Link :=
  let n := k.nextSend
  let k : Link := { k with nextSend := n + 1, latest := some (n, false), ackTimer := none
                           unanswered := if k.state = .up then k.unanswered + 1 else k.unanswered }
  (k.count fun c => { c with sends := inc16 c.sends }).emit (.settings n k.settings)

/-- Whether the SETTINGS send leaving is still the latest: sends leave in the order in which they were made, so it is while none waits
(R146). -/
def Link.isLatest (k : Link) : Bool := k.waiting.all fun m => match m with | .settings _ _ => false | .statusAck _ => true

/-- The end of a SETTINGS send: the ack timer starts at 25 ms if the send is still the latest; then the next message leaves (R146). -/
def Link.settingsSendEnd (k : Link) : Link :=
  match k.leaving with
  | some (.settings _ _) =>
    { k with leaving := none, ackTimer := if k.isLatest then some 25 else k.ackTimer }.release
  | _ => k

/-- The end of a STATUS_ACK: the next message leaves. -/
def Link.statusAckSendEnd (k : Link) : Link :=
  match k.leaving with
  | some (.statusAck _) => { k with leaving := none }.release
  | _ => k

/-! ### SOUND_UP (R151, R152) -/

/-- SOUND_UP as the link state and the last status give it (R151). -/
def Link.deriveSound (k : Link) : Bool :=
  k.state == .up && match k.last with
    | some t => t.carrier && !t.fault
    | none => false

/-- SOUND_UP derived anew. A fall holds the show as R63 gives and cuts the screen's call; a rise runs the owed fill and starts the
head call (R151). -/
def State.deriveSound (i : ScreenId) (s : State) : State :=
  let was := (s.links[i]).soundUp
  let now := (s.links[i]).deriveSound
  let s := s.modLink i fun k => { k with soundUp := now }
  if was && !now then ((s.soundLossHold i).cutCall i).serveReads
  else if !was && now then ((s.owedFill i).startScreen i).serveReads
  else s

/-- The link declared lost: LOST, counted, SOUND_LOST with cause LINK, SOUND_UP derived anew (R148, R152). -/
def State.loseLink (i : ScreenId) (s : State) : State :=
  ((s.modLink i fun k => { k with state := .lost }.count fun c => { c with losses := inc16 c.losses }).post
    .soundLost (.sound i .link)).deriveSound i

/-- A cycle: a send that restarts the refresh timer. One that falls due in UP with 4 sends unanswered declares the link lost first
(R148, R149). -/
def State.cycle (i : ScreenId) (s : State) : State :=
  let s := if (s.links[i]).state = .up ∧ 4 ≤ (s.links[i]).unanswered then s.loseLink i else s
  s.modLink i fun k => { k.makeSend with refreshTimer := some 1000 }

/-- Expiry of the ack timer: a retry in UP with fewer than 4 unanswered, the loss of the link with 4, nothing else in DOWN and LOST (R148). -/
def State.ackExpiry (i : ScreenId) (s : State) : State :=
  let k := s.links[i]
  if k.ackTimer.isNone then s
  else
    let s := s.modLink i fun k => { k with ackTimer := none }
    if k.state = .up then
      if k.unanswered < 4 then s.modLink i fun k => k.makeSend.count fun c => { c with retries := inc16 c.retries }
      else s.loseLink i
    else s

/-- The event of a change of SOUND_UP at a new last status, in UP with no change of link state (R152). -/
def State.postStatusChange (i : ScreenId) (old new : Option ExciterStatus) (was now : Bool) (s : State) : State :=
  let fault := fun t : Option ExciterStatus => match t with | some t => t.fault | none => false
  let carrier := fun t : Option ExciterStatus => match t with | some t => t.carrier | none => false
  if was && !now then s.post .soundLost (.sound i (if !fault old && fault new then .rfFault else .carrier))
  else if !was && now then s.post .soundRestored (.sound i (if !carrier old && carrier new then .carrier else .rfFault))
  else s

/-- A new last status taken in UP: SOUND_UP derived anew, its change posted (R150, R151, R152). -/
def State.takeStatus (i : ScreenId) (t : ExciterStatus) (s : State) : State :=
  let old := (s.links[i]).last
  let was := (s.links[i]).soundUp
  let s := s.modLink i fun k => { k with last := some t }
  if (s.links[i]).state = .up then
    (s.postStatusChange i old (some t) was (s.links[i]).deriveSound).deriveSound i
  else s

/-- A valid ACK (R147). -/
def State.validAck (i : ScreenId) (number : Byte) (t : ExciterStatus) (s : State) : State :=
  let found := (s.links[i]).state
  let s := s.modLink i fun k =>
    { k with latest := some (number, true), ackTimer := none, unanswered := 0 }.count fun c => { c with valid := inc16 c.valid }
  match found with
  | .up => s.takeStatus i t
  | .down => (s.modLink i fun k => { k with state := .up, last := some t }).deriveSound i
  | .lost => ((s.modLink i fun k => { k with state := .up, last := some t }).post .soundRestored (.sound i .link)).deriveSound i

/-- An ACK judged valid or stale (R147). -/
def State.takeAck (i : ScreenId) (number : Byte) (t : ExciterStatus) (s : State) : State :=
  if (s.links[i]).latest = some (number, false) then s.validAck i number t
  else s.modLink i (·.count fun c => { c with stale := inc16 c.stale })

/-- A STATUS: answered with STATUS_ACK, counted, its condition taken (R150). -/
def State.takeStatusMessage (i : ScreenId) (number : Byte) (t : ExciterStatus) (s : State) : State :=
  (s.modLink i fun k => (k.emit (.statusAck number)).count fun c => { c with statuses := inc16 c.statuses }).takeStatus i t

end Sys2Proof.Machine
end

