-- ==== Sys2Proof/Machine/TicketOps.lean ====
section
/-! DEFINITION. The operations of the Admission Table that lanes and requests share: commit, tailgate report, removal, void. -/

namespace Sys2Proof.Machine

/-- ZONE_FULL is posted when the full mark of a zone has risen since `before` (R6). -/
def State.postFullRise (before : Bool) (i : ScreenId) (s : State) : State :=
  if !before && (s.zones[i]).full then s.post .zoneFull (.screen i) else s

/-- A commit: the ticket becomes PRESENT with its class and the night clock, its zone's counts and totals move (R12). -/
def State.commit (number : Nat) (cls : VehicleClass) (s : State) : State :=
  match s.ticket? number with
  | none => s
  | some t =>
    let s := s.modTicket number fun t => { t with state := .present cls s.nightClock }
    let s := s.modZone t.screen fun z =>
      { z with pending := z.pending - 1, present := z.present + 1, long := z.long + (if cls = .long then 1 else 0) }
    s.modTotals fun n =>
      { n with committed := upd n.committed t.screen inc16, occupants := upd n.occupants t.screen fun k => satAdd 1048575 k t.party }

/-- A tailgate report: the named ticket is marked if it is still live (R13). -/
def State.tailgateReport (number : Nat) (s : State) : State := s.modTicket number fun t => { t with tailgate := true }

/-- A ticket leaves the map, its pass's used mark cleared (R8, R14, R15). -/
def State.dropTicket (t : Ticket) (s : State) : State :=
  let s := s.modTickets (·.filter fun r => r.number != t.number)
  match t.payment with
  | .pass n => { s with used := s.used.clearRange n n }
  | .paid | .comp => s

/-- A void: the ticket's orders are cancelled, the ticket removed, its zone place and pass released (R14). -/
def State.void (number : Nat) (s : State) : State :=
  match s.ticket? number with
  | none => s
  | some t =>
    let s := (s.removeOrders .voided (s.ordersOf number)).dropTicket t
    let s := s.modZone t.screen fun z => { z with pending := z.pending - 1 }
    s.modTotals fun n => { n with voided := upd n.voided t.screen inc16 }

/-- A departure of a PRESENT ticket (R15). -/
def State.departTicket (t : Ticket) (cls : VehicleClass) (s : State) : State :=
  let s := (s.removeOrders .departed (s.ordersOf t.number)).dropTicket t
  let s := s.modZone t.screen fun z => { z with present := z.present - 1, long := z.long - (if cls = .long then 1 else 0) }
  s.modTotals fun n => { n with departed := upd n.departed t.screen inc16 }

end Sys2Proof.Machine
end

