-- ==== Sys2Proof/Machine/CueOps.lean ====
section
/-! DEFINITION. The operations of the Cue Unit: the place of a cue, guards, TEST sources and modes, the actions, and the pass over a position. -/

namespace Sys2Proof.Machine

/-! ### The list (R70, R72) -/

/-- The index at which a cue of the position is placed: after every cue whose position is earlier or the same (R70). -/
def placeOf (p : Pos) (cues : List Cue) : Nat := (cues.takeWhile fun c => !c.pos.later p).length

/-- A cue placed in its list, the cursor raised by one when its index is below it (R70, R72). -/
def CueUnit.load (c : Cue) (u : CueUnit) : CueUnit :=
  let k := placeOf c.pos u.cues
  { u with cues := u.cues.take k ++ c :: u.cues.drop k, cursor := if k < u.cursor then u.cursor + 1 else u.cursor }

/-- The index of the cue with the id, if the list holds it. -/
def CueUnit.indexOf? (id : Nat) (u : CueUnit) : Option Nat := u.cues.findIdx? (·.id == id)

/-- The cue at an index removed, the cursor lowered by one when the index is below it (R72, R76). -/
def CueUnit.delete (k : Nat) (u : CueUnit) : CueUnit :=
  { u with cues := u.cues.eraseIdx k, cursor := if k < u.cursor then u.cursor - 1 else u.cursor }

/-- ARM_SHOW at the Cue Unit: cursor 0, flags false, every outcome NOT_REACHED; list and lamps kept (R57, R69, R72, R73). -/
def CueUnit.rearm (u : CueUnit) : CueUnit :=
  { u with cues := u.cues.map fun c => { c with outcome := .notReached }, cursor := 0, flagA := false, flagB := false }

/-- CLEAR_CUES at the Cue Unit (R77). -/
def CueUnit.clear (_ : CueUnit) : CueUnit := .reset

/-- The outcome of the cue at an index set, and the cursor moved past it (R80, R82). -/
def CueUnit.pass (k : Nat) (out : CueOutcome) (u : CueUnit) : CueUnit :=
  { u with cues := u.cues.modify k fun c => { c with outcome := out } }

/-! ### Guards and TEST (R81, R83, R84) -/

/-- Whether a guard holds over flags A and B. -/
def Guard.holds (a b : Bool) : Guard → Bool
  | .always => true
  | .ifA => a
  | .ifNotA => !a
  | .ifB => b
  | .ifNotB => !b
  | .ifBoth => a && b
  | .ifEither => a || b
  | .ifNeither => !a && !b

/-- A flag's new value from its present value and a source. -/
def TestMode.apply (m : TestMode) (flag source : Bool) : Bool :=
  match m with
  | .set => source
  | .and => flag && source
  | .or => flag || source
  | .xor => flag != source

/-- Whether an entry lane holds an admission of the screen in ARMED, or in PASSING for the admitted vehicle (R47). -/
def State.laneBusyFor (i : ScreenId) (l : EntryLane) (s : State) : Bool :=
  (l.state == .armed || (l.state == .passing && l.admitted)) &&
    match l.admission.bind s.ticket? with
    | some t => t.screen == i
    | none => false

/-- The TEST source LANES_QUIET of a screen (R47). -/
def State.lanesQuiet (i : ScreenId) (s : State) : Bool := !(s.entry.toList.any fun l => s.laneBusyFor i l)

/-- The TEST source AUDIO_READY of a screen (R84, R100). -/
def State.audioReady (i : ScreenId) (s : State) : Bool := (s.aligns[i]).dSamples + 240 ≤ (s.intakes[i]).fill * 240

/-- A TEST source as it stands at its turn (R84). -/
def State.testSource (i : ScreenId) (src : TestSource) (s : State) : Bool :=
  match src with
  | .one => true
  | .zero => false
  | .flagA => (s.cues[i]).flagA
  | .flagB => (s.cues[i]).flagB
  | .soundUp => (s.links[i]).soundUp
  | .audioReady => s.audioReady i
  | .alignLocked => (s.aligns[i]).mode == .locked
  | .zoneFull => (s.zones[i]).full
  | .entryOpen => (s.zones[i]).isOpen
  | .ordersHeld => !(s.orders.heldList i).isEmpty
  | .kitchenHigh => s.orders.isHigh
  | .callsPending => !(s.calls[i]).queue.isEmpty || (s.calls[i]).slot.isSome
  | .lanesQuiet => s.lanesQuiet i

/-- A TEST action sets its target flag and nothing else (R83). -/
def State.runTest (i : ScreenId) (src : TestSource) (m : TestMode) (target : FlagName) (s : State) : State :=
  let v := s.testSource i src
  match target with
  | .a => s.modCues i fun u => { u with flagA := m.apply u.flagA v }
  | .b => s.modCues i fun u => { u with flagB := m.apply u.flagB v }

/-! ### Actions (R82, R85 to R88) -/

/-- A zone's entry set (R18). -/
def State.setEntry (i : ScreenId) (isOpen : Bool) (s : State) : State := s.modZone i fun z => { z with isOpen := isOpen }

/-- A cue action carried out by the block that owns its state; where that block would refuse, the state stays (R85, R86, R87). -/
def State.runAction (i : ScreenId) (a : CueAction) (s : State) : State :=
  match a with
  | .test src m target => s.runTest i src m target
  | .hold => if (s.shows[i]).state = .running then s.holdShow i .cue else s
  | .endShow => if (s.shows[i]).state.inShow then s.endShow i else s
  | .entryOpen => s.setEntry i true
  | .entryClose => s.setEntry i false
  | .ordersOpen => s.setOrderWindow i true
  | .ordersClose => s.setOrderWindow i false
  | .kitchenRelease => s.kitchenRelease i
  | .callsOpen => s.openCalls i
  | .callsClose => s.closeCalls i
  | .mark code => s.post .cueMark (.mark i code)
  | .lamp k on => s.modCues i fun u => { u with lamps := upd u.lamps k fun _ => on }

/-- The cursor of a screen's list moved past the cue at it. -/
def State.passCursor (i : ScreenId) (s : State) : State := s.modCues i fun u => { u with cursor := u.cursor + 1 }

/-- The outcome of the cue at an index set. -/
def State.setOutcome (i : ScreenId) (k : Nat) (out : CueOutcome) (s : State) : State := s.modCues i fun u => u.pass k out

/-- After an END: every later cue at the position passed over (R82). -/
def State.passOver : Nat → ScreenId → Pos → State → State
  | 0, _, _, s => s
  | n + 1, i, p, s =>
    match (s.cues[i]).cues[(s.cues[i]).cursor]? with
    | some c =>
      if c.pos = p then State.passOver n i p ((s.setOutcome i (s.cues[i]).cursor .passedOver).passCursor i) else s
    | none => s

/-- The turns of the cues at the position from the cursor onward (R80). -/
def State.passFor : Nat → ScreenId → Pos → State → State
  | 0, _, _, s => s
  | n + 1, i, p, s =>
    let k := (s.cues[i]).cursor
    match (s.cues[i]).cues[k]? with
    | none => s
    | some c =>
      if c.pos = p then
        let s := s.passCursor i
        if c.guard.holds (s.cues[i]).flagA (s.cues[i]).flagB then
          let s := (s.runAction i c.action).setOutcome i k .executed
          if c.action = .endShow then State.passOver n i p s else State.passFor n i p s
        else State.passFor n i p (s.setOutcome i k .skipped)
      else s

/-- A pass over the screen's list at the position its clock has just taken (R79, R80). -/
def State.cuePass (i : ScreenId) (s : State) : State := State.passFor (s.cues[i]).cues.length i (s.shows[i]).clock s

/-! ### An accepted pulse (R54, R58, R59, R61) -/

/-- The advance of an accepted pulse with its pass; at the saturated clock no advance and no pass, but CLOCK_LIMIT once. -/
def State.advanceClock (i : ScreenId) (s : State) : State :=
  if (s.shows[i]).saturated then s.clockLimit i else (s.modShow i Show.advance).cuePass i

/-- The show starts at 0+0 (R58, R113). -/
def State.startShow (i : ScreenId) (s : State) : State :=
  ((s.modShow i fun w => { w with state := .running, startPending := false }.startStall).setMode i .waiting).cuePass i

/-- The pulse that recovers a LOST show (R61, R113). -/
def State.recoverShow (i : ScreenId) (s : State) : State :=
  (((s.modShow i fun w => { w with state := .running }.startStall).modAlign i Align.unpause).post .frameResumed (.screen i)).advanceClock i

/-- An accepted pulse by the state it finds (R59). -/
def State.acceptedPulse (i : ScreenId) (s : State) : State :=
  let w := s.shows[i]
  match w.state with
  | .idle | .ended => s
  | .armed => if w.startPending then s.startShow i else s
  | .running => (s.modShow i Show.startStall).advanceClock i
  | .held =>
    let s := if w.framesStopped then s.modAlign i Align.unpause else s
    (s.modShow i fun w => { w with framesStopped := false }.startStall).advanceClock i
  | .lost => s.recoverShow i

/-- A frame pulse taken `us` microseconds later: judged, and when accepted given its effect (R51, R59). -/
def State.framePulse (i : ScreenId) (us : Nat) (s : State) : State :=
  let s := s.modShow i (·.elapse us)
  let w := s.shows[i]
  let s := s.modShow i fun w => { w with monitor := w.monitor.pulse w.settings.rate }
  if w.monitor.judge w.settings.rate = .glitch then s else s.acceptedPulse i

end Sys2Proof.Machine
end

