-- ==== Sys2Proof/Machine/LaneOps.lean ====
section
/-! DEFINITION. The operations of the Lane Unit: what each loop edge, timer expiry and reset does to a lane and what it hands the table. -/

namespace Sys2Proof.Machine

/-- A count of an entry lane changed. -/
def EntryLane.count (f : EntryCounts → EntryCounts) (l : EntryLane) : EntryLane := { l with counts := f l.counts }

/-- The lane armed for a ticket: ARMED, arm raised, the pass window running at its full setting (R30). -/
def EntryLane.armFor (ticket : Nat) (l : EntryLane) : EntryLane :=
  { l with state := .armed, admission := some ticket, arm := .raised, passTimer := some (l.settings.passWindow * 1000) }

/-- The admitted vehicle's passage begins (R31). -/
def EntryLane.beginPassage (l : EntryLane) : EntryLane :=
  { l with state := .passing, admitted := true, passTimer := none, occupancyUs := 0 }

/-- A tailgater's passage begins, the arm staying lowered and the last commit kept (R35). -/
def EntryLane.beginTailgate (l : EntryLane) : EntryLane :=
  { l with state := .passing, admitted := false, admission := none, arm := .lowered, gapTimer := none, occupancyUs := 0 }.count
    fun c => { c with tailgates := inc16 c.tailgates }

/-- A vehicle has left the loop: SETTLING, the gap window running at its full setting (R32, R36). The admitted passage flag speaks
of PASSING and is false outside it (log 17); the occupancy keeps its last value until the next rise (DESIGN CHOICE, log 20). -/
def EntryLane.settle (l : EntryLane) : EntryLane :=
  { l with state := .settling, admitted := false, arm := .lowered, gapTimer := some l.settings.gapWindow }

/-- The lane back to IDLE with the arm lowered and nothing held (R34, R38, R40, R41); the occupancy keeps its last value (DESIGN CHOICE,
log 20). -/
def EntryLane.toIdle (l : EntryLane) : EntryLane :=
  { l with state := .idle, admission := none, admitted := false, lastCommit := none, arm := .lowered, passTimer := none, gapTimer := none }

/-- The lane STUCK with the arm raised (R39); the occupancy timing stops and its value stays (DESIGN CHOICE, log 20). -/
def EntryLane.toStuck (l : EntryLane) : EntryLane :=
  { l with state := .stuck, admission := none, admitted := false, lastCommit := none, arm := .raised }.count
    fun c => { c with stuck := inc16 c.stuck }

/-- The lane CLOSED with every timer stopped and nothing held; settings and counts kept (R42). The occupancy keeps
its last value (DESIGN CHOICE, log 20). -/
def EntryLane.toClosed (l : EntryLane) : EntryLane :=
  { l with state := .closed, admission := none, admitted := false, lastCommit := none, arm := .lowered
           passTimer := none, gapTimer := none, longTimer := none }

/-- The class of a measured passage: LONG at or above the long threshold (R32). -/
def EntryLane.classify (l : EntryLane) : VehicleClass :=
  if l.settings.longThreshold ≤ l.occupancyUs / 1000 then .long else .car

/-- The commit of a lane's admission handed to the table and counted (R12, R45). -/
def State.commitAdmission (n : LaneId) (cls : VehicleClass) (s : State) : State :=
  match (s.entry[n]).admission with
  | none => s
  | some t => (s.commit t cls).modEntry n (·.count fun c => { c with commits := inc16 c.commits })

/-- The further effects of a LONG commit: counted, posted, the long lamp timer started at 10 s (R33). -/
def State.longCommit (n : LaneId) (s : State) : State :=
  (s.modEntry n fun l => { l with longTimer := some 10000 }.count fun c => { c with long := inc16 c.long }).post .longVehicle (.entryLane n)

/-- The fall that ends a measured passage (R32). -/
def State.endPassage (n : LaneId) (s : State) : State :=
  let cls := (s.entry[n]).classify
  let s := s.commitAdmission n cls
  let s := s.modEntry n fun l => { l.settle with lastCommit := l.admission, admission := none }
  if cls = .long then s.longCommit n else s

/-- A filtered rise of an entry loop, by the lane state it finds (R31, R35, R37). -/
def State.entryRise (n : LaneId) (s : State) : State :=
  let l := s.entry[n]
  if l.loop = .occupied then s
  else
    let s := s.modEntry n fun l => { l with loop := .occupied }
    match l.state with
    | .armed => s.modEntry n EntryLane.beginPassage
    | .settling =>
      let s := (s.modEntry n EntryLane.beginTailgate).post .tailgate (.entryLane n)
      match l.lastCommit with
      | some t => s.tailgateReport t
      | none => s
    | .idle | .closed =>
      (s.modEntry n (·.count fun c => { c with unadmitted := inc16 c.unadmitted })).post .unadmittedPass (.entryLane n)
    | .passing | .stuck => s

/-- A filtered fall of an entry loop, by the lane state it finds (R32, R36, R37, R40). -/
def State.entryFall (n : LaneId) (us : Nat) (s : State) : State :=
  let l := s.entry[n]
  if l.loop = .clear then s
  else
    let s := s.modEntry n fun l => { l.elapse us with loop := .clear }
    match l.state with
    | .passing => if l.admitted then s.endPassage n else s.modEntry n EntryLane.settle
    | .stuck => s.modEntry n EntryLane.toIdle
    | .idle | .closed | .armed | .settling => s

/-- Expiry of the pass window in ARMED: the ticket voided, counted, posted, the lane IDLE (R38). -/
def State.passWindowExpiry (n : LaneId) (s : State) : State :=
  let l := s.entry[n]
  if l.state = .armed ∧ l.passTimer.isSome then
    let s := match l.admission with
      | some t => s.void t
      | none => s
    (s.modEntry n fun l => l.toIdle.count fun c => { c with timeouts := inc16 c.timeouts }).post .admitTimeout (.entryLane n)
  else s

/-- Expiry of the gap window in SETTLING: IDLE (R34). -/
def State.gapWindowExpiry (n : LaneId) (s : State) : State :=
  let l := s.entry[n]
  if l.state = .settling ∧ l.gapTimer.isSome then s.modEntry n EntryLane.toIdle else s

/-- Expiry of the stuck limit in PASSING (R39). -/
def State.entryStuckExpiry (n : LaneId) (s : State) : State :=
  let l := s.entry[n]
  if l.state = .passing then
    let s := if l.admitted then s.commitAdmission n .unmeasured else s
    (s.modEntry n EntryLane.toStuck).post .loopStuck (.stuckEntry n)
  else s

/-- Expiry of the long lamp timer: the lamp source becomes false (R33). -/
def State.longLampExpiry (n : LaneId) (s : State) : State := s.modEntry n fun l => { l with longTimer := none }

/-- The ticket that a LANE_RESET voids or commits, if any (R42). -/
def EntryLane.resetTicket (l : EntryLane) : Option Nat :=
  match l.state with
  | .armed => l.admission
  | .passing => if l.admitted then l.admission else none
  | .closed | .idle | .settling | .stuck => none

/-- LANE_RESET of an entry lane: what it hands to the table by the state found, then CLOSED (R42). -/
def State.resetEntry (n : LaneId) (s : State) : State :=
  let l := s.entry[n]
  let s := match l.state, l.resetTicket with
    | .armed, some t => s.void t
    | .passing, some _ => s.commitAdmission n .unmeasured
    | _, _ => s
  s.modEntry n EntryLane.toClosed

/-! ### Exit lanes (R43, R44) -/

/-- The stuck timer started at the stuck limit. -/
def ExitLane.startTimer (x : ExitLane) : ExitLane := { x with stuckTimer := some (x.settings.stuckLimit * 1000) }

/-- A filtered rise of an exit loop. -/
def ExitLane.rise (x : ExitLane) : ExitLane :=
  if x.loop = .occupied then x
  else
    let x := { x with loop := .occupied }
    if x.state = .isOpen then x.startTimer else x

/-- A filtered fall of an exit loop: one exit in OPEN and in STUCK. -/
def ExitLane.fall (x : ExitLane) : ExitLane :=
  if x.loop = .clear then x
  else
    let x := { x with loop := .clear }
    match x.state with
    | .closed => x
    | .isOpen => { x with stuckTimer := none, exits := inc16 x.exits }
    | .stuck => { x with state := .isOpen, exits := inc16 x.exits }

/-- Expiry of an exit lane's stuck timer in OPEN. -/
def State.exitStuckExpiry (n : ExitId) (s : State) : State :=
  let x := s.exits[n]
  if x.state = .isOpen ∧ x.stuckTimer.isSome then
    (s.modExit n fun x => { x with state := .stuck, stuckTimer := none, stuck := inc16 x.stuck }).post .loopStuck (.stuckExit n)
  else s

/-- LANE_OPEN of an exit lane: CLOSED to OPEN, the stuck timer started if the loop is OCCUPIED. -/
def ExitLane.openUp (x : ExitLane) : ExitLane :=
  if x.state = .closed then
    let x := { x with state := .isOpen }
    if x.loop = .occupied then x.startTimer else x
  else x

/-- LANE_CLOSE of an OPEN exit lane and LANE_RESET of any: CLOSED, the stuck timer stopped. -/
def ExitLane.toClosed (x : ExitLane) : ExitLane := { x with state := .closed, stuckTimer := none }

end Sys2Proof.Machine
end

