-- ==== Sys2Proof/Machine/Operands.lean ====
section
/-! DEFINITION. The operands of the requests: named values in the order their owning rules name them (R195), the roles of the
catalogue (11_station_ports.md), the lengths that agree (R192, R197), and each payload's fields with their ranges. A payload whose
fields are not all in range has no arguments, and its request is refused RANGE. -/

namespace Sys2Proof.Machine

/-! ### Named values, in the order of their owning rules (R195) -/

def marks : List Bool := [false, true]
/-- OFF, ON (R49, R145, R175). -/
def offOn : List Bool := [false, true]
/-- ON, OFF: the order in which R69 and R73 name the settings of a cue lamp. -/
def onOff : List Bool := [true, false]
/-- OPEN, CLOSED (R5, R90, R129). -/
def openClosed : List Bool := [true, false]
/-- SET, CLEAR (R7). -/
def setClear : List Bool := [true, false]
/-- ENABLED, DISABLED (R183). -/
def enabledDisabled : List Bool := [true, false]
/-- ANSWERED, UNANSWERED (R144). -/
def answeredNames : List Bool := [true, false]
/-- FLOWING, HOLDING (R90). -/
def flowNames : List Bool := [false, true]
/-- LIT, DARK (R175). -/
def litDark : List Bool := [true, false]
/-- STEREO, MONO (R145). -/
def stereoMono : List Bool := [false, true]
def classNames : List VehicleClass := [.car, .long, .unmeasured]
def loopNames : List Loop := [.clear, .occupied]
def armNames : List Arm := [.lowered, .raised]
def entryStateNames : List EntryState := [.closed, .idle, .armed, .passing, .settling, .stuck]
def exitStateNames : List ExitState := [.closed, .isOpen, .stuck]
def screenStateNames : List ScreenState := [.idle, .armed, .running, .held, .lost, .ended]
def holdReasonNames : List HoldReason := [.cue, .request, .sound]
def referenceNames : List Reference := [.valid, .stale]
def guardNames : List Guard := [.always, .ifA, .ifNotA, .ifB, .ifNotB, .ifBoth, .ifEither, .ifNeither]
def testSourceNames : List TestSource :=
  [.one, .zero, .flagA, .flagB, .soundUp, .audioReady, .alignLocked, .zoneFull, .entryOpen, .ordersHeld, .kitchenHigh, .callsPending,
   .lanesQuiet]
def testModeNames : List TestMode := [.set, .and, .or, .xor]
def flagNames : List FlagName := [.a, .b]
def cueOutcomeNames : List CueOutcome := [.notReached, .executed, .skipped, .passedOver]
def alignModeNames : List AlignMode := [.muted, .paused, .waiting, .locked, .catchUp, .holdBack]
def linkStateNames : List LinkState := [.down, .up, .lost]
def pickupNames : List Pickup := [.now, .atBreak]
def blinkNames : List Blink := [.steady, .slow, .fast]
def roleNames : List Role := [.booth, .gate, .kitchen, .service]
def phaseNames : List ParserPhase := [.hunt, .length, .body]
def flagStateNames : List FlagState := [.clear, .pending, .seen]
def causeNames : List SoundCause := [.link, .carrier, .rfFault]

/-- PENDING, PRESENT (R1). -/
def TicketState.byte : TicketState → List Byte
  | .pending => u8 0
  | .present _ _ => u8 1

/-- PAID, PASS, COMP (R1). -/
def Payment.byte : Payment → List Byte
  | .paid => u8 0
  | .pass _ => u8 1
  | .comp => u8 2

/-- HELD, QUEUED, COOKING, READY (R156). -/
def OrderState.byte : OrderState → List Byte
  | .held _ => u8 0
  | .queued => u8 1
  | .cooking => u8 2
  | .ready _ => u8 3

/-- UP, RAMP_DOWN, DUCKED, RAMP_UP (R136). -/
def DuckState.byte : DuckState → List Byte
  | .up => u8 0
  | .rampDown _ => u8 1
  | .ducked => u8 2
  | .rampUp _ _ => u8 3

/-- A cue action by its place in the list of R69. -/
def CueAction.byte : CueAction → List Byte
  | .test _ _ _ => u8 0
  | .hold => u8 1
  | .endShow => u8 2
  | .entryOpen => u8 3
  | .entryClose => u8 4
  | .ordersOpen => u8 5
  | .ordersClose => u8 6
  | .kitchenRelease => u8 7
  | .callsOpen => u8 8
  | .callsClose => u8 9
  | .mark _ => u8 10
  | .lamp _ _ => u8 11

/-- The argument of a cue action, present for TEST, MARK and LAMP only (R69). -/
def CueAction.argument : CueAction → Option (List Byte)
  | .test source mode target => some (enumByte testSourceNames source ++ enumByte testModeNames mode ++ enumByte flagNames target)
  | .mark code => some (u8 code)
  | .lamp k on => some (u8 k.val ++ enumByte onOff on)
  | _ => none

/-- A lamp source by its place in the table of R176. -/
def LampSource.byte : LampSource → List Byte
  | .off => u8 0
  | .on => u8 1
  | .laneReady _ => u8 2
  | .laneArmed _ => u8 3
  | .laneClosed _ => u8 4
  | .laneLong _ => u8 5
  | .zoneFull _ => u8 6
  | .entryOpen _ => u8 7
  | .ordersOpen _ => u8 8
  | .callPlaying _ => u8 9
  | .screenHeld _ => u8 10
  | .screenLost _ => u8 11
  | .soundDown _ => u8 12
  | .cueLamp _ _ => u8 13
  | .kitchenHigh => u8 14
  | .kitchenWork => u8 15
  | .attention _ => u8 16

/-- The index of a lamp source, where the source takes one (R175). -/
def LampSource.indexBytes : LampSource → Option (List Byte)
  | .laneReady n | .laneArmed n | .laneClosed n | .laneLong n => some (u8 n.val)
  | .zoneFull s | .entryOpen s | .ordersOpen s | .callPlaying s | .screenHeld s | .screenLost s | .soundDown s => some (u8 s.val)
  | .cueLamp s k => some (u8 s.val ++ u8 k.val)
  | .attention p => some (u8 p.val)
  | .off | .on | .kitchenHigh | .kitchenWork => none

/-- The detail of an event as READ_EVENTS reports it (R179, R181). -/
def Detail.bytes : Detail → List Byte
  | .screen s => u8 s.val
  | .sound s c => u8 s.val ++ enumByte causeNames c
  | .held s r => u8 s.val ++ enumByte holdReasonNames r
  | .entryLane n => u8 n.val
  | .stuckEntry n => u8 0 ++ u8 n.val
  | .stuckExit n => u8 1 ++ u8 n.val
  | .mark s code => u8 s.val ++ u8 code
  | .order n => u16 n
  | .fill n => u8 n

/-! ### Status codes (R193) and replies -/

/-- The status codes in the order of the status table of R193. -/
inductive Status where
  | ok | badLength | unknownRequest | notPermitted | range | screenState | listFull | duplicateId | cuePast | noSuchCue
  | laneBusy | laneState | entryClosed | zoneFull | zoneOccupied | passUnknown | passInUse | noSuchTicket | ticketState | ticketLimit
  | tableFull | sequenceExhausted | windowClosed | kitchenFull | queueEmpty | noSuchOrder | orderState | queueFull | soundDown
  | nightActive | clipUnknown | clipBusy
  deriving DecidableEq, Repr

/-- A status code's place in the status table, OK being 0 (R195). -/
def Status.code : Status → Nat
  | .ok => 0 | .badLength => 1 | .unknownRequest => 2 | .notPermitted => 3 | .range => 4 | .screenState => 5 | .listFull => 6
  | .duplicateId => 7 | .cuePast => 8 | .noSuchCue => 9 | .laneBusy => 10 | .laneState => 11 | .entryClosed => 12 | .zoneFull => 13
  | .zoneOccupied => 14 | .passUnknown => 15 | .passInUse => 16 | .noSuchTicket => 17 | .ticketState => 18 | .ticketLimit => 19
  | .tableFull => 20 | .sequenceExhausted => 21 | .windowClosed => 22 | .kitchenFull => 23 | .queueEmpty => 24 | .noSuchOrder => 25
  | .orderState => 26 | .queueFull => 27 | .soundDown => 28 | .nightActive => 29 | .clipUnknown => 30 | .clipBusy => 31

/-- What an owning block answers: OK with a payload, a refusal with its status, or nothing yet (CLIP_RESCAN, R128). -/
inductive Reply where
  | ok (payload : List Byte)
  | refuse (status : Status)
  | deferred
  deriving DecidableEq, Repr

/-! ### Roles (the catalogue of 11_station_ports.md) -/

/-- A set of roles: SERVICE may send every request, the others as listed. -/
def roles (booth gate kitchen : Bool) : Role → Bool
  | .booth => booth
  | .gate => gate
  | .kitchen => kitchen
  | .service => true

def rolesAll : Role → Bool := roles true true true
def rolesB : Role → Bool := roles true false false
def rolesG : Role → Bool := roles false true false
def rolesK : Role → Bool := roles false false true
def rolesBK : Role → Bool := roles true false true
def rolesGK : Role → Bool := roles false true true

/-- Whether a code names a request of the part: 0x01 for ADMIT to 0x39 for PORT_QUERY (R195). -/
def knownCode (code : Byte) : Bool := 1 ≤ code.toNat && code.toNat ≤ 0x39

/-! ### Fields -/

/-- A one-byte index below `n`. -/
def index? (n : Nat) (b : Byte) : Option (Fin n) := if h : b.toNat < n then some ⟨b.toNat, h⟩ else none

/-- A quantity within its range. -/
def within (lo hi v : Nat) : Option Nat := if lo ≤ v ∧ v ≤ hi then some v else none

/-- A named value by its place; one beyond its list is out of range (R195). -/
def named {α : Type} (names : List α) (b : Byte) : Option α := names[b.toNat]?

/-- A signed 2-byte quantity. -/
def signed16 (hi lo : Byte) : Int := if word16 hi lo < 32768 then (word16 hi lo : Int) else (word16 hi lo : Int) - 65536

/-- A signed quantity within its range. -/
def withinInt (lo hi v : Int) : Option Int := if lo ≤ v ∧ v ≤ hi then some v else none

/-- The frame rate, sent as its number of frames per second (R195). -/
def rate? (b : Byte) : Option Rate :=
  if b = 24#8 then some .fps24 else if b = 25#8 then some .fps25 else if b = 30#8 then some .fps30 else none

/-! ### Lengths that agree (R192, R197) -/

/-- A payload of exactly `n` bytes. -/
def lengthIs (n : Nat) (pl : List Byte) : Bool := pl.length == n

/-- ADMIT: a pass number follows exactly when the payment is PASS. -/
def admitLength : List Byte → Bool
  | _ :: _ :: payment :: _ :: rest => rest.length == (if payment = 1#8 then 2 else 0)
  | _ => false

/-- LOAD_CUE: TEST, MARK and LAMP call for their arguments; a selector outside its list calls for no further fields. -/
def loadCueLength : List Byte → Bool
  | _ :: _ :: _ :: _ :: _ :: _ :: action :: rest =>
    rest.length == (if action = 0#8 then 3 else if action = 10#8 then 1 else if action = 11#8 then 2 else 0)
  | _ => false

/-- SET_LAMP: lane, screen and port sources call for one index byte, CUE_LAMP for two. -/
def setLampLength : List Byte → Bool
  | _ :: source :: _ :: _ :: rest =>
    rest.length == (if source = 13#8 then 2 else if (2 ≤ source.toNat ∧ source.toNat ≤ 12) ∨ source = 16#8 then 1 else 0)
  | _ => false

/-- ANNOUNCE: one clip id per count. -/
def announceLength : List Byte → Bool
  | _ :: count :: rest => rest.length == count.toNat
  | _ => false

/-- CLEAR_EVENTS: one kind per count. -/
def clearEventsLength : List Byte → Bool
  | count :: rest => rest.length == count.toNat
  | _ => false

/-! ### Arguments with their ranges -/

/-- A payload that is one index. -/
def indexArg (n : Nat) : List Byte → Option (Fin n)
  | [b] => index? n b
  | _ => none

/-- A ticket number 1..65535 (R15, R20, R41). -/
def ticketArg : List Byte → Option Nat
  | [hi, lo] => within 1 65535 (word16 hi lo)
  | _ => none

/-- An order number 1..999 (R166, R170, R174). -/
def orderArg : List Byte → Option Nat
  | [hi, lo] => within 1 999 (word16 hi lo)
  | _ => none

/-- A pass number 0..4095 (R20). -/
def passArg : List Byte → Option Nat
  | [hi, lo] => within 0 4095 (word16 hi lo)
  | _ => none

/-- The fields of ADMIT (R9). -/
structure AdmitArgs where
  lane    : LaneId
  screen  : ScreenId
  payment : Payment
  party   : Nat
  deriving DecidableEq, Repr

/-- The payment of an ADMIT with its pass number. -/
def paymentArg (b : Byte) (rest : List Byte) : Option Payment :=
  if b = 0#8 then some .paid
  else if b = 1#8 then (passArg rest).map .pass
  else if b = 2#8 then some .comp
  else none

def admitArgs : List Byte → Option AdmitArgs
  | lane :: screen :: payment :: party :: rest => do
    let lane ← index? 4 lane
    let screen ← index? 4 screen
    let payment ← paymentArg payment rest
    let party ← within 1 15 party.toNat
    some { lane, screen, payment, party }
  | _ => none

/-- The fields of PASS_SET (R7): first, last, and whether the marks are set. -/
def passSetArgs : List Byte → Option (Nat × Nat × Bool)
  | [f1, f0, l1, l0, setting] => do
    let first ← within 0 4095 (word16 f1 f0)
    let last ← within first 4095 (word16 l1 l0)
    let setting ← named setClear setting
    some (first, last, setting)
  | _ => none

/-- The fields of SET_ZONE (R17). -/
def setZoneArgs : List Byte → Option (ScreenId × Nat)
  | [screen, c1, c0] => do
    let screen ← index? 4 screen
    let capacity ← within 0 2048 (word16 c1 c0)
    some (screen, capacity)
  | _ => none

/-- A lane named by kind and number (R26): entry lane 0..3 or exit lane 0..1. -/
inductive LaneName where
  | entry (n : LaneId)
  | exit (n : ExitId)
  deriving DecidableEq, Repr

/-- Kind ENTRY or EXIT, then a number within the range of the kind (R26, R197). -/
def laneName? (kind number : Byte) : Option LaneName :=
  if kind = 0#8 then (index? 4 number).map .entry
  else if kind = 1#8 then (index? 2 number).map .exit
  else none

def laneArg : List Byte → Option LaneName
  | [kind, number] => laneName? kind number
  | _ => none

/-- The fields of SET_LANE with the ranges of R26. -/
def setLaneArgs : List Byte → Option (LaneName × LaneSettings)
  | [kind, number, p1, p0, g1, g0, l1, l0, s1, s0] => do
    let lane ← laneName? kind number
    let passWindow ← within 5 255 (word16 p1 p0)
    let gapWindow ← within 200 5000 (word16 g1 g0)
    let longThreshold ← within 500 20000 (word16 l1 l0)
    let stuckLimit ← within 10 600 (word16 s1 s0)
    some (lane, { passWindow, gapWindow, longThreshold, stuckLimit })
  | _ => none

/-- The fields of SET_SCREEN (R49). -/
def setScreenArgs : List Byte → Option (ScreenId × ScreenSettings)
  | [screen, rate, p1, p0, e1, e0, t1, t0, option] => do
    let screen ← index? 4 screen
    let rate ← rate? rate
    let picture ← within 0 2000 (word16 p1 p0)
    let exciter ← within 0 2000 (word16 e1 e0)
    let trim ← withinInt (-500) 500 (signed16 t1 t0)
    let holdOnLoss ← named offOn option
    some (screen, { rate, picture, exciter, trim, holdOnLoss })
  | _ => none

/-- The action of a LOAD_CUE with its argument (R69, R197). -/
def cueActionArg (action : Byte) (rest : List Byte) : Option CueAction :=
  match action.toNat, rest with
  | 0, [source, mode, target] => do
    let source ← named testSourceNames source
    let mode ← named testModeNames mode
    let target ← named flagNames target
    some (.test source mode target)
  | 1, [] => some .hold
  | 2, [] => some .endShow
  | 3, [] => some .entryOpen
  | 4, [] => some .entryClose
  | 5, [] => some .ordersOpen
  | 6, [] => some .ordersClose
  | 7, [] => some .kitchenRelease
  | 8, [] => some .callsOpen
  | 9, [] => some .callsClose
  | 10, [code] => some (.mark code.toNat)
  | 11, [k, setting] => do
    let k ← index? 4 k
    let on ← named onOff setting
    some (.lamp k on)
  | _, _ => none

/-- The fields of LOAD_CUE (R74), but for the check of the frame against the screen's rate. -/
structure LoadCueArgs where
  screen : ScreenId
  id     : Nat
  pos    : Pos
  guard  : Guard
  action : CueAction
  deriving DecidableEq, Repr

def loadCueArgs : List Byte → Option LoadCueArgs
  | screen :: id :: s1 :: s0 :: frame :: guard :: action :: rest => do
    let screen ← index? 4 screen
    let id ← within 1 255 id.toNat
    let guard ← named guardNames guard
    let action ← cueActionArg action rest
    some { screen, id, pos := { second := word16 s1 s0, frame := frame.toNat }, guard, action }
  | _ => none

/-- The fields of DELETE_CUE (R76). -/
def deleteCueArgs : List Byte → Option (ScreenId × Nat)
  | [screen, id] => do
    let screen ← index? 4 screen
    let id ← within 1 255 id.toNat
    some (screen, id)
  | _ => none

/-- The fields of CUE_QUERY (R78). -/
def cueQueryArgs : List Byte → Option (ScreenId × Nat)
  | [screen, first] => do
    let screen ← index? 4 screen
    let first ← within 0 63 first.toNat
    some (screen, first)
  | _ => none

/-- The fields of SET_SOUND (R104): the low mark is at most the high mark minus 2. -/
def setSoundArgs : List Byte → Option (ScreenId × SoundSettings)
  | [screen, high, low, h1, h0] => do
    let screen ← index? 4 screen
    let high ← within 2 32 high.toNat
    let low ← within 0 (high - 2) low.toNat
    let holdTime ← within 10 1000 (word16 h1 h0)
    some (screen, { high, low, holdTime })
  | _ => none

/-- The fields of ANNOUNCE (R133): 1 to 8 clip ids, each 0..31. -/
def announceArgs : List Byte → Option (ScreenId × List Nat)
  | screen :: count :: ids => do
    let screen ← index? 4 screen
    let _ ← within 1 8 count.toNat
    if ids.all (·.toNat < 32) then some (screen, ids.map (·.toNat)) else none
  | _ => none

/-- The fields of SET_CALLS (R139). -/
def setCallsArgs : List Byte → Option (ScreenId × MixSettings)
  | [screen, d1, d0, l1, l0] => do
    let screen ← index? 4 screen
    let duck ← within 0 256 (word16 d1 d0)
    let level ← within 0 256 (word16 l1 l0)
    some (screen, { duck, level })
  | _ => none

/-- The fields of SET_EXCITER (R145). -/
def setExciterArgs : List Byte → Option (ScreenId × ExciterSettings)
  | [screen, mute, mode, deviation] => do
    let screen ← index? 4 screen
    let mute ← named offOn mute
    let mono ← named stereoMono mode
    let deviation ← within 0 100 deviation.toNat
    some (screen, { mute, mono, deviation })
  | _ => none

/-- The fields of SET_KITCHEN (R159): the low level is below the high level. -/
def setKitchenArgs : List Byte → Option KitchenSettings
  | [high, low, u1, u0, r1, r0, calls] => do
    let high ← within 1 48 high.toNat
    let low ← within 0 (high - 1) low.toNat
    let unitSeconds ← within 1 60 (word16 u1 u0)
    let recallInterval ← within 60 900 (word16 r1 r0)
    let maxCalls ← within 1 4 calls.toNat
    some { high, low, unitSeconds, recallInterval, maxCalls }
  | _ => none

/-- The fields of PLACE_ORDER (R160). -/
structure PlaceOrderArgs where
  ticket : Nat
  pickup : Pickup
  items  : Nat
  prep   : Nat
  deriving DecidableEq, Repr

def placeOrderArgs : List Byte → Option PlaceOrderArgs
  | [t1, t0, pickup, items, prep] => do
    let ticket ← within 1 65535 (word16 t1 t0)
    let pickup ← named pickupNames pickup
    let items ← within 1 15 items.toNat
    let prep ← within 1 255 prep.toNat
    some { ticket, pickup, items, prep }
  | _ => none

/-- A lamp source by its place in the table of R176, with its index (R175, R197). -/
def lampSourceArg (source : Byte) (rest : List Byte) : Option LampSource :=
  match source.toNat, rest with
  | 0, [] => some .off
  | 1, [] => some .on
  | 2, [n] => (index? 4 n).map .laneReady
  | 3, [n] => (index? 4 n).map .laneArmed
  | 4, [n] => (index? 4 n).map .laneClosed
  | 5, [n] => (index? 4 n).map .laneLong
  | 6, [s] => (index? 4 s).map .zoneFull
  | 7, [s] => (index? 4 s).map .entryOpen
  | 8, [s] => (index? 4 s).map .ordersOpen
  | 9, [s] => (index? 4 s).map .callPlaying
  | 10, [s] => (index? 4 s).map .screenHeld
  | 11, [s] => (index? 4 s).map .screenLost
  | 12, [s] => (index? 4 s).map .soundDown
  | 13, [s, k] => do
    let s ← index? 4 s
    let k ← index? 4 k
    some (.cueLamp s k)
  | 14, [] => some .kitchenHigh
  | 15, [] => some .kitchenWork
  | 16, [p] => (index? 3 p).map .attention
  | _, _ => none

/-- The fields of SET_LAMP (R175). -/
def setLampArgs : List Byte → Option (Fin 12 × Lamp)
  | lamp :: source :: invert :: blink :: rest => do
    let lamp ← index? 12 lamp
    let source ← lampSourceArg source rest
    let invert ← named offOn invert
    let blink ← named blinkNames blink
    some (lamp, { source, invert, blink })
  | _ => none

/-- The kinds of CLEAR_EVENTS (R182): any of the 21, none named twice. -/
def clearEventsArgs : List Byte → Option (List EventKind)
  | _ :: kinds => do
    let kinds ← kinds.mapM (named eventKinds)
    if kinds.Nodup then some kinds else none
  | _ => none

/-- The four settings of SET_ATTENTION, FAULT first (R183). -/
def setAttentionArgs : List Byte → Option (Vector Bool 4)
  | [a, b, c, d] => do
    let a ← named enabledDisabled a
    let b ← named enabledDisabled b
    let c ← named enabledDisabled c
    let d ← named enabledDisabled d
    some #v[a, b, c, d]
  | _ => none

end Sys2Proof.Machine
end

