-- ==== Sys2Proof/Machine/PortOps.lean ====
section
/-! DEFINITION. The operations of a station port: its FIFOs and hold lines, the frame parser, the taking of a request with the port's
three checks, and the reply. -/

namespace Sys2Proof.Machine

/-- Whether an item of the receive FIFO is a byte. -/
def RxItem.isByte : RxItem → Bool
  | .byte _ => true
  | .mark => false

/-- The fill of the receive FIFO: its bytes, break marks not counted (R189). -/
def Port.rxFill (p : Port) : Nat := p.rx.countP RxItem.isByte

/-- A count of the port changed. -/
def Port.count (f : PortCounts → PortCounts) (p : Port) : Port := { p with counts := f p.counts }

/-- A break mark placed at the tail of the receive FIFO (R187). -/
def Port.placeMark (p : Port) : Port := { p with rx := p.rx ++ [RxItem.mark], lastBreak := true }

/-- A byte placed at the tail; one that brings the fill to 192 asserts the hold-out line (R187, R189). -/
def Port.placeByte (b : Byte) (p : Port) : Port :=
  let q := { p with rx := p.rx ++ [RxItem.byte b], lastBreak := false }
  { q with holdOut := q.holdOut || decide (192 ≤ q.rxFill) }

/-- A byte received on the line: placed, replaced by a break mark when its stop bit is low, or lost to a full FIFO (R187). -/
def Port.receive (b : Byte) (stopHigh : Bool) (p : Port) : Port :=
  let p := { p with gapTimer := some 5 }
  if !stopHigh then (p.count fun c => { c with line := inc16 c.line }).placeMark
  else if 256 ≤ p.rxFill then p.count fun c => { c with overruns := inc16 c.overruns }
  else p.placeByte b

/-- Expiry of the gap timer: a break mark, unless the last thing placed is one (R187). -/
def Port.gapExpiry (p : Port) : Port :=
  match p.gapTimer with
  | none => p
  | some _ => if p.lastBreak then { p with gapTimer := none } else { p with gapTimer := none }.placeMark

/-! ### The frame parser (R188) -/

/-- A frame abandoned: discarded with no reply. -/
def Port.abandon (p : Port) : Port := { p with parser := .hunt }.count fun c => { c with abandoned := inc16 c.abandoned }

/-- The frame whose length byte is `len` and whose later bytes, check included, are `got`: held for taking when its check agrees. -/
def Port.completeFrame (len : Nat) (got : List Byte) (p : Port) : Port :=
  let p := { p with parser := .hunt }
  match got.take len, got.drop len with
  | code :: tag :: payload, [hi, lo] =>
    if checkAgrees (u8 len ++ got.take len) hi lo then { p with held := some { code, tag, payload } }
    else p.count fun c => { c with check := inc16 c.check }
  | _, _ => p.count fun c => { c with check := inc16 c.check }

/-- One byte taken by the parser. -/
def Port.parseByte (b : Byte) (p : Port) : Port :=
  match p.parser with
  | .hunt =>
    if b = startByte then { p with parser := .length } else p.count fun c => { c with hunted := inc16 c.hunted }
  | .length =>
    if 2 ≤ b.toNat ∧ b.toNat ≤ 250 then { p with parser := .body b.toNat [] } else p.abandon
  | .body len got =>
    if len + 2 ≤ (got ++ [b]).length then p.completeFrame len (got ++ [b]) else { p with parser := .body len (got ++ [b]) }

/-- One break mark taken by the parser: dropped in HUNT, the frame abandoned in LENGTH and BODY. -/
def Port.parseMark (p : Port) : Port :=
  match p.parser with
  | .hunt => p
  | .length | .body _ _ => p.abandon

/-- The hold-out line after a byte is taken: released at a fill of 64 (R189). -/
def Port.releaseHoldOut (p : Port) : Port := { p with holdOut := p.holdOut && decide (64 < p.rxFill) }

/-- The parser takes the head of the receive FIFO, unless it holds a complete request (R188, R191). -/
def Port.parserTake (p : Port) : Port :=
  match p.held, p.rx with
  | none, .byte b :: rest => { p with rx := rest }.releaseHoldOut.parseByte b
  | none, .mark :: rest => { p with rx := rest }.parseMark
  | _, _ => p

/-- The end of the start-up hold: the line is released when the fill is below 192 (R190). -/
def Port.endStartupHold (p : Port) : Port := { p with holdOut := decide (192 ≤ p.rxFill) }

/-! ### Replies (R193) -/

/-- A byte begins to leave when one waits and hold-in is released. -/
def Port.startSending (p : Port) : Port := { p with sending := p.sending || (!p.holdIn && !p.tx.isEmpty) }

/-- A reply frame joins the tail of the reply FIFO whole, and its request is no longer outstanding. -/
def Port.reply (bytes : List Byte) (p : Port) : Port := { p with tx := p.tx ++ bytes, outstanding := false }.startSending

/-- The byte being sent is finished and frees its place; the next one starts unless hold-in is asserted. -/
def Port.byteSent (p : Port) : Port :=
  if p.sending then { p with tx := p.tx.tail, sending := false }.startSending else p

/-- A change of the hold-in line; on its release sending resumes. -/
def Port.setHoldIn (level : Bool) (p : Port) : Port := { p with holdIn := level }.startSending

/-! ### Taking a request (R191, R192) -/

/-- The two conditions of R191: no earlier request outstanding, and at least 254 bytes free of the 512 of the reply FIFO. -/
def Port.canTake (p : Port) : Bool := !p.outstanding && decide (p.tx.length + 254 ≤ 512)

/-- A port whose receiver is at rest: hunting, nothing received and waiting, nothing held. -/
def Port.atRest (p : Port) : Bool := p.parser = .hunt && p.rx.isEmpty && p.held.isNone

/-- What becomes of a request command at its port (log 1). -/
inductive Offer where
  /-- No such request stands at the port: nothing happens. -/
  | absent
  /-- Its frame is complete and held for taking. -/
  | waits (p : Port)
  /-- The port takes it. -/
  | taken (p : Port)

/-- The port with a request taken: no longer held, outstanding, counted (R185, R194). -/
def Port.take (p : Port) : Port := { p with held := none, outstanding := true }.count fun c => { c with taken := inc16 c.taken }

/-- A request command offered to its port. A held request is taken when it is the one named and R191's conditions hold. At a port at
rest the command stands for the arrival of the whole frame, parsed as it comes, and then for its taking or its being held (log 1). -/
def Port.offer (startup : Bool) (r : Request) (p : Port) : Offer :=
  if startup then .absent
  else match p.held with
  | some h => if h = r ∧ p.canTake then .taken p.take else .absent
  | none =>
    if p.atRest ∧ r.payload.length ≤ 248 then
      let q := { p with gapTimer := some 5, lastBreak := false }
      if p.canTake then .taken q.take else .waits { q with held := some r }
    else .absent

/-- The reply of a handling joins the port's reply FIFO; a deferred one leaves the request outstanding (R128, R193). -/
def State.answer (p : PortId) (code tag : Byte) (r : Reply) (s : State) : State :=
  match r with
  | .ok payload => s.modPort p (·.reply (replyFrame code tag Status.ok.code payload))
  | .refuse status => s.modPort p (·.reply (replyFrame code tag status.code []))
  | .deferred => s

/-- A request refused by the port's own checks (R192, R194). -/
def State.refuseAtPort (p : PortId) (code tag : Byte) (status : Status) (s : State) : State :=
  (s.modPort p (·.count fun c => { c with refused := inc16 c.refused })).answer p code tag (.refuse status)

/-- One request from its port to its reply: offered and taken (R191), checked for role and length (R192), then handled whole by its
owning block, whose reply leaves by the same port (R193). -/
def serve (p : PortId) (code tag : Byte) (payload : List Byte) (may : Role → Bool) (lengthOk : List Byte → Bool)
    (body : List Byte → State → State × Reply) (s : State) : Host.Outcome State Fault Refusal :=
  match (s.ports[p]).offer s.startup { code, tag, payload } with
  | .absent => .next s
  | .waits q => .next (s.modPort p fun _ => q)
  | .taken q =>
    let s := s.modPort p fun _ => q
    if !may q.role then .next (s.refuseAtPort p code tag .notPermitted)
    else if !lengthOk payload then .next (s.refuseAtPort p code tag .badLength)
    else
      let r := body payload s
      .next (r.1.answer p code tag r.2)

/-- A handling over the arguments of a payload: RANGE when a field is out of its range, and nothing changes. -/
def ranged {α : Type} (args : List Byte → Option α) (body : α → State → State × Reply) (payload : List Byte) (s : State) :
    State × Reply :=
  match args payload with
  | none => (s, .refuse .range)
  | some a => body a s

end Sys2Proof.Machine
end

