-- ==== Sys2Proof/Machine/Admissions.lean ====
section
/-! DEFINITION. The requests of the Admission Table (01_admissions_zones_and_passes.md) and the advance of the night clock. -/

namespace Sys2Proof.Machine

/-! ### Replies -/

/-- The fields of four 16-bit totals, one per screen. -/
def perScreen (f : Nat → List Byte) (v : Vector Nat 4) : List Byte := v.toList.flatMap f

/-- Every total of R19 in the order of its table. -/
def NightTotals.bytes (t : NightTotals) : List Byte :=
  perScreen u16 t.admitted ++ u16 t.paid ++ u16 t.pass ++ u16 t.comp ++ perScreen u16 t.committed ++ perScreen u32 t.occupants ++
    perScreen u16 t.voided ++ perScreen u16 t.departed

/-- The class of a ticket, absent while PENDING. -/
def Ticket.cls? (t : Ticket) : Option VehicleClass := match t.state with | .present c _ => some c | .pending => none

/-- The entered-at value of a ticket, absent while PENDING. -/
def Ticket.enteredAt? (t : Ticket) : Option Nat := match t.state with | .present _ a => some a | .pending => none

/-- The pass number of a ticket, present only with payment PASS. -/
def Ticket.pass? (t : Ticket) : Option Nat := match t.payment with | .pass n => some n | .paid | .comp => none

/-- Every field of a ticket record, in the order of R1. -/
def Ticket.bytes (t : Ticket) : List Byte :=
  u16 t.number ++ u8 t.screen.val ++ u8 t.lane.val ++ t.state.byte ++ t.payment.byte ++ optBytes u16 t.pass? ++ u8 t.party ++
    optBytes (enumByte classNames) t.cls? ++ optBytes u16 t.enteredAt? ++ flagByte t.tailgate ++ u8 t.openOrders

/-- The record of a zone as ZONE_REPORT gives it (R21). -/
def Zone.bytes (z : Zone) : List Byte :=
  u16 z.capacity ++ enumByte openClosed z.isOpen ++ u16 z.pending ++ u16 z.present ++ u16 z.long ++ flagByte z.full

/-! ### ADMIT (R9, R10) -/

/-- The first state check of R9: the lane is IDLE. -/
def EntryLane.admitCheck (l : EntryLane) : Option Status :=
  match l.state with
  | .idle => none
  | .closed | .stuck => some .laneState
  | .armed | .passing | .settling => some .laneBusy

/-- Checks 4 and 5 of R9, made for payment PASS alone. -/
def State.passCheck (p : Payment) (s : State) : Option Status :=
  match p with
  | .pass n => if !s.permits.isSet n then some .passUnknown else if s.used.isSet n then some .passInUse else none
  | .paid | .comp => none

/-- The state checks of R9 in their order; the first that fails gives the status. -/
def State.admitCheck (a : AdmitArgs) (s : State) : Option Status :=
  let z := s.zones[a.screen]
  (s.entry[a.lane]).admitCheck.or <|
  (if z.isOpen then none else some .entryClosed).or <|
  (if z.occupancy < z.capacity then none else some .zoneFull).or <|
  (s.passCheck a.payment).or <|
  (if s.tickets.length < 2048 then none else some .tableFull).or <|
  (if s.nextTicket.isSome then none else some .sequenceExhausted)

/-- The ticket an ADMIT creates (R10). -/
def AdmitArgs.ticket (number : Nat) (a : AdmitArgs) : Ticket :=
  { number, screen := a.screen, lane := a.lane, state := .pending, payment := a.payment, party := a.party, tailgate := false, openOrders := 0 }

/-- The sequence advanced past a number; after 65535 it is exhausted (R2). -/
def advanceTicket (number : Nat) : Option Nat := if number < 65535 then some (number + 1) else none

/-- The admitted totals of a screen and a payment kind each rise by one (R10, R19). -/
def NightTotals.addAdmission (i : ScreenId) (p : Payment) (t : NightTotals) : NightTotals :=
  let t := { t with admitted := upd t.admitted i inc16 }
  match p with
  | .paid => { t with paid := inc16 t.paid }
  | .pass _ => { t with pass := inc16 t.pass }
  | .comp => { t with comp := inc16 t.comp }

/-- The used mark set for payment PASS (R8). -/
def State.markUsed (p : Payment) (s : State) : State :=
  match p with
  | .pass n => { s with used := s.used.setRange n n }
  | .paid | .comp => s

/-- The effects of an accepted ADMIT with the number issued (R10, R30). -/
def State.admitTicket (number : Nat) (a : AdmitArgs) (s : State) : State :=
  let before := (s.zones[a.screen]).full
  let s := { s with nextTicket := advanceTicket number }
  let s := s.modTickets (· ++ [a.ticket number])
  let s := (s.modZone a.screen fun z => { z with pending := z.pending + 1 }).markUsed a.payment
  let s := (s.modTotals (·.addAdmission a.screen a.payment)).modEntry a.lane (·.armFor number)
  s.postFullRise before a.screen

/-- ADMIT at the Admission Table (R9, R10). -/
def State.admitBody (a : AdmitArgs) (s : State) : State × Reply :=
  match s.admitCheck a, s.nextTicket with
  | some e, _ => (s, .refuse e)
  | none, some number => (s.admitTicket number a, .ok (u16 number))
  | none, none => (s, .refuse .sequenceExhausted)

/-- ADMIT (R9). -/
def execAdmit (p : PortId) (tag : Byte) (payload : List Byte) (s : State) : Host.Outcome State Fault Refusal :=
  serve p 0x01 tag payload rolesG admitLength (ranged admitArgs State.admitBody) s

/-! ### DEPART (R15) -/

/-- DEPART at the Admission Table: only a PRESENT ticket departs. -/
def State.departBody (number : Nat) (s : State) : State × Reply :=
  match s.ticket? number with
  | none => (s, .refuse .noSuchTicket)
  | some t =>
    match t.state with
    | .pending => (s, .refuse .ticketState)
    | .present cls enteredAt =>
      ((s.departTicket t cls).startAll,
        .ok (u8 t.screen.val ++ enumByte classNames cls ++ u16 enteredAt ++ flagByte t.tailgate ++ u8 (s.ordersOf number).length))

/-- DEPART (R15). -/
def execDepart (p : PortId) (tag : Byte) (payload : List Byte) (s : State) : Host.Outcome State Fault Refusal :=
  serve p 0x02 tag payload rolesG (lengthIs 2) (ranged ticketArg State.departBody) s

/-! ### PASS_SET (R7), SET_ZONE (R17), ENTRY_OPEN and ENTRY_CLOSE (R18) -/

/-- PASS_SET at the Admission Table; the reply counts the marks now set. -/
def State.passSetBody (a : Nat × Nat × Bool) (s : State) : State × Reply :=
  let m := if a.2.2 then s.permits.setRange a.1 a.2.1 else s.permits.clearRange a.1 a.2.1
  ({ s with permits := m }, .ok (u16 m.length))

/-- PASS_SET (R7). -/
def execPassSet (p : PortId) (tag : Byte) (payload : List Byte) (s : State) : Host.Outcome State Fault Refusal :=
  serve p 0x03 tag payload rolesG (lengthIs 5) (ranged passSetArgs State.passSetBody) s

/-- The sum of the four capacities with one replaced (R17). -/
def State.capacityWith (i : ScreenId) (capacity : Nat) (s : State) : Nat :=
  sum4 (upd (s.zones.map (·.capacity)) i fun _ => capacity)

/-- SET_ZONE at the Admission Table (R17). -/
def State.setZoneBody (a : ScreenId × Nat) (s : State) : State × Reply :=
  let z := s.zones[a.1]
  if a.2 < z.occupancy then (s, .refuse .zoneOccupied)
  else if 2048 < s.capacityWith a.1 a.2 then (s, .refuse .range)
  else
    ((s.modZone a.1 fun z => { z with capacity := a.2 }).postFullRise z.full a.1, .ok (u16 a.2 ++ u16 z.occupancy))

/-- SET_ZONE (R17). -/
def execSetZone (p : PortId) (tag : Byte) (payload : List Byte) (s : State) : Host.Outcome State Fault Refusal :=
  serve p 0x04 tag payload rolesG (lengthIs 3) (ranged setZoneArgs State.setZoneBody) s

/-- ENTRY_OPEN and ENTRY_CLOSE at the Admission Table: the setting now in force is answered. -/
def State.setEntryBody (isOpen : Bool) (i : ScreenId) (s : State) : State × Reply :=
  (s.setEntry i isOpen, .ok (enumByte openClosed isOpen))

/-- ENTRY_OPEN (R18). -/
def execEntryOpen (p : PortId) (tag : Byte) (payload : List Byte) (s : State) : Host.Outcome State Fault Refusal :=
  serve p 0x05 tag payload rolesG (lengthIs 1) (ranged (indexArg 4) (State.setEntryBody true)) s

/-- ENTRY_CLOSE (R18). -/
def execEntryClose (p : PortId) (tag : Byte) (payload : List Byte) (s : State) : Host.Outcome State Fault Refusal :=
  serve p 0x06 tag payload rolesG (lengthIs 1) (ranged (indexArg 4) (State.setEntryBody false)) s

/-! ### CLOSE_NIGHT (R22, R23) -/

/-- Whether the night may close: every screen IDLE or ENDED, every entry lane CLOSED or IDLE. -/
def State.nightQuiet (s : State) : Bool :=
  s.shows.toList.all (fun w => w.state == .idle || w.state == .ended) &&
    s.entry.toList.all fun l => l.state == .closed || l.state == .idle

/-- A zone after CLOSE_NIGHT: its capacity kept (R22). -/
def Zone.closeNight (z : Zone) : Zone := { Zone.reset with capacity := z.capacity }

/-- The order book after CLOSE_NIGHT: release flags, pointer and settings kept (R23, R159, R163, R164). -/
def OrderUnit.closeNight (u : OrderUnit) : OrderUnit :=
  { u with table := [], seq := 1, kitchen := [], shelf := [], totals := .zero }

/-- The changes of an accepted CLOSE_NIGHT (R22, R23). -/
def State.closeNight (s : State) : State :=
  { s with
    tickets := [], used := [], zones := s.zones.map Zone.closeNight, nextTicket := some 1, nightClock := 0, totals := .zero
    orders := s.orders.closeNight
    calls := s.calls.map fun c => { c with queue := [] }
    entry := s.entry.map fun l => { l with counts := .zero }
    exits := s.exits.map fun x => { x with exits := 0, stuck := 0 } }

/-- CLOSE_NIGHT at the Admission Table. -/
def State.closeNightBody (_ : List Byte) (s : State) : State × Reply :=
  if s.nightQuiet then (s.closeNight, .ok (s.totals.bytes ++ u16 s.nightClock ++ u16 s.tickets.length))
  else (s, .refuse .nightActive)

/-- CLOSE_NIGHT (R22). -/
def execCloseNight (p : PortId) (tag : Byte) (payload : List Byte) (s : State) : Host.Outcome State Fault Refusal :=
  serve p 0x07 tag payload rolesG (lengthIs 0) State.closeNightBody s

/-! ### Queries (R20, R21) -/

/-- TICKET_QUERY at the Admission Table. -/
def State.ticketQueryBody (number : Nat) (s : State) : State × Reply :=
  match s.ticket? number with
  | some t => (s, .ok t.bytes)
  | none => (s, .refuse .noSuchTicket)

/-- TICKET_QUERY (R20). -/
def execTicketQuery (p : PortId) (tag : Byte) (payload : List Byte) (s : State) : Host.Outcome State Fault Refusal :=
  serve p 0x08 tag payload rolesAll (lengthIs 2) (ranged ticketArg State.ticketQueryBody) s

/-- The live ticket that carries a pass (R8). -/
def State.passTicket? (n : Nat) (s : State) : Option Ticket := s.tickets.find? fun t => t.pass? == some n

/-- PASS_QUERY at the Admission Table. -/
def State.passQueryBody (n : Nat) (s : State) : State × Reply :=
  (s, .ok (flagByte (s.permits.isSet n) ++ flagByte (s.used.isSet n) ++
    optBytes u16 (if s.used.isSet n then (s.passTicket? n).map (·.number) else none)))

/-- PASS_QUERY (R20). -/
def execPassQuery (p : PortId) (tag : Byte) (payload : List Byte) (s : State) : Host.Outcome State Fault Refusal :=
  serve p 0x09 tag payload rolesAll (lengthIs 2) (ranged passArg State.passQueryBody) s

/-- ZONE_REPORT at the Admission Table. -/
def State.zoneReportBody (_ : List Byte) (s : State) : State × Reply := (s, .ok (s.zones.toList.flatMap Zone.bytes))

/-- ZONE_REPORT (R21). -/
def execZoneReport (p : PortId) (tag : Byte) (payload : List Byte) (s : State) : Host.Outcome State Fault Refusal :=
  serve p 0x0A tag payload rolesAll (lengthIs 0) State.zoneReportBody s

/-- NIGHT_REPORT at the Admission Table. The indication that the sequence is exhausted is the next ticket number as an absent field: its
presence byte 0 and no number (DESIGN CHOICE, log 12: R21 says only that there is an indication). -/
def State.nightReportBody (_ : List Byte) (s : State) : State × Reply :=
  (s, .ok (u16 s.nightClock ++ optBytes u16 s.nextTicket ++ u16 s.tickets.length ++ s.totals.bytes))

/-- NIGHT_REPORT (R21). -/
def execNightReport (p : PortId) (tag : Byte) (payload : List Byte) (s : State) : Host.Outcome State Fault Refusal :=
  serve p 0x0B tag payload rolesAll (lengthIs 0) State.nightReportBody s

/-! ### The night clock (R3, R167) -/

/-- An advance of the night clock: one second on, and the ready shelf examined; at 65535 it stays. -/
def State.advanceNight (s : State) : State :=
  if s.nightClock < 65535 then ({ s with nightClock := s.nightClock + 1 }.examineShelf).startAll else s

/-- NIGHT_CLOCK_ADVANCE (R3). -/
def execNightClockAdvance (s : State) : Host.Outcome State Fault Refusal := .next s.advanceNight

end Sys2Proof.Machine
end

