-- ==== Sys2Proof/Machine/AlignOps.lean ====
section
/-! DEFINITION. The operations of an Alignment Unit: the picture and audio positions, and what one output instant does to the ring, the
mode, the counts and the sample handed to the mixer. -/

namespace Sys2Proof.Machine

/-! ### Positions (R109, R111) -/

/-- The frame count F of a show clock: second × fps + frame (R55). -/
def Show.frameCount (w : Show) : Nat := w.clock.second * w.settings.rate.fps + w.clock.frame

/-- The three cases in which the interpolation is held at spf − 1 (R109). -/
def Show.standing (w : Show) : Bool := w.state == .lost || (w.state == .held && w.framesStopped) || w.clockLimit

/-- The interpolation: the smaller of spf − 1 and floor(e × spf / P_last), or spf − 1 while the picture stands (R109). -/
def Show.interp (w : Show) : Nat :=
  let r := w.settings.rate
  if w.standing then r.spf - 1 else min (r.spf - 1) (w.monitor.e * r.spf / w.monitor.pLast)

/-- The picture sample position: F × spf + interp (R109). -/
def Show.psp (w : Show) : Nat := w.frameCount * w.settings.rate.spf + w.interp

/-- The slip of the sample at a position: PSP − (position + D_samples) (R111). -/
def slipAt (psp position delay : Nat) : Int := (psp : Int) - ((position : Int) + (delay : Int))

/-! ### One output instant -/

/-- What an instant works on and leaves: the pair emitted, the ring, the unit, and whether a resync was made. -/
structure Sounding where
  out    : Pair
  ring   : List Block
  align  : Align
  resync : Bool
  deriving DecidableEq, Repr

/-- A count of the unit changed. -/
def Align.count (f : AlignCounts → AlignCounts) (a : Align) : Align := { a with counts := f a.counts }

/-- The sample of a block at an index. -/
def Block.sampleAt (b : Block) (k : Nat) : Pair := b.samples.getD k silence

/-- The read point moved to `k`, nothing being due again there (log 13). -/
def Align.moveTo (k : Nat) (a : Align) : Align := { a with readPoint := k, repeatTaken := false }

/-- WAITING at a read point, silence going out. -/
def waitAt (k : Nat) (ring : List Block) (a : Align) (resync : Bool) : Sounding :=
  { out := silence, ring, align := { a.moveTo k with mode := .waiting }, resync }

/-- The sample at the read point emitted, the read point moving on; past 239 the head block leaves the ring (R116). -/
def emitNext (b : Block) (rest : List Block) (a : Align) (resync : Bool) : Sounding :=
  let out := b.sampleAt a.readPoint
  if 239 ≤ a.readPoint then { out, ring := rest, align := a.moveTo 0, resync }
  else { out, ring := b :: rest, align := a.moveTo (a.readPoint + 1), resync }

/-- A resync toward a later position: blocks wholly before the target are discarded and counted, and the outcome follows from what is
left (R119). -/
def resyncLate (psp : Nat) (ring : List Block) (a : Align) : Sounding :=
  let target := psp - a.dSamples
  let left := ring.dropWhile fun b => b.asp + 239 < target
  let a := a.count fun c =>
    { c with lateResyncs := inc16 c.lateResyncs, discarded := satAdd 65535 c.discarded (ring.length - left.length) }
  match left with
  | [] => waitAt 0 [] a true
  | b :: rest =>
    if b.asp ≤ target then emitNext b rest { a.moveTo (target - b.asp) with mode := .locked, lastSlip := some 0 } true
    else waitAt 0 (b :: rest) a true

/-- A resync to wait: the head block kept whole, silence (R120). -/
def resyncEarly (ring : List Block) (a : Align) : Sounding :=
  waitAt 0 ring (a.count fun c => { c with earlyResyncs := inc16 c.earlyResyncs }) true

/-- An underrun: silence, WAITING with the read point at 0 (R121). -/
def underrun (a : Align) : Sounding := waitAt 0 [] (a.count fun c => { c with underruns := inc16 c.underruns }) false

/-- The mode for a block from the mode before and the slip at its start (the table of R115). -/
def nextMode (before : AlignMode) (slip : Int) : AlignMode :=
  if slip > 24 then .catchUp
  else if slip < -24 then .holdBack
  else match before with
    | .catchUp => if slip > 8 then .catchUp else .locked
    | .holdBack => if slip < -8 then .holdBack else .locked
    | .muted | .paused | .waiting | .locked => .locked

/-- A block start with the read point at 0: the slip recorded, then a resync or the block's mode and its first sample (R115). -/
def blockStart (before : AlignMode) (psp spf : Nat) (b : Block) (rest : List Block) (a : Align) : Sounding :=
  let slip := slipAt psp b.asp a.dSamples
  let a := { a.moveTo 0 with lastSlip := some slip }
  if slip > 2 * (spf : Int) then resyncLate psp (b :: rest) a
  else if slip < -(2 * (spf : Int)) then resyncEarly (b :: rest) a
  else emitNext b rest { a with mode := nextMode before slip } false

/-- A sample dropped in CATCH_UP is counted (R116). -/
def Align.countDrop (a : Align) : Align := a.count fun c => { c with dropped := inc32 c.dropped }

/-- An instant within a block, the read point not at 0 (R116). -/
def withinBlock (psp spf : Nat) (b : Block) (rest : List Block) (a : Align) : Sounding :=
  match a.mode with
  | .catchUp =>
    if a.readPoint = 119 then emitNext b rest (a.countDrop.moveTo 120) false
    else if a.readPoint = 239 then
      match rest with
      | [] => underrun a.countDrop
      | next :: rest => blockStart .catchUp psp spf next rest a.countDrop
    else emitNext b rest a false
  | .holdBack =>
    if a.readPoint = 119 ∨ a.readPoint = 239 then
      if a.repeatTaken then emitNext b rest (a.count fun c => { c with repeated := inc32 c.repeated }) false
      else { out := b.sampleAt a.readPoint, ring := b :: rest, align := { a with repeatTaken := true }, resync := false }
    else emitNext b rest a false
  | .muted | .paused | .waiting | .locked => emitNext b rest a false

/-- An instant in WAITING (R118). -/
def waitingInstant (psp spf : Nat) (ring : List Block) (a : Align) : Sounding :=
  match ring with
  | [] => { out := silence, ring := [], align := a, resync := false }
  | b :: rest =>
    let slip := slipAt psp (b.asp + a.readPoint) a.dSamples
    if slip < 0 then { out := silence, ring := b :: rest, align := a, resync := false }
    else if slip > 2 * (spf : Int) then resyncLate psp (b :: rest) a
    else if a.readPoint = 0 then blockStart .locked psp spf b rest a
    else emitNext b rest { a with mode := .locked } false

/-- One output instant at the Alignment Unit, by its mode (R114). -/
def Align.instant (psp spf : Nat) (ring : List Block) (a : Align) : Sounding :=
  match a.mode with
  | .muted | .paused => { out := silence, ring, align := a, resync := false }
  | .waiting => waitingInstant psp spf ring a
  | .locked | .catchUp | .holdBack =>
    match ring with
    | [] => underrun a
    | b :: rest => if a.readPoint = 0 then blockStart a.mode psp spf b rest a else withinBlock psp spf b rest a

/-- The instant of a screen as its state stands: PSP formed anew, the unit's own step (R109, R114). -/
def State.sounding (i : ScreenId) (s : State) : Sounding :=
  (s.aligns[i]).instant (s.shows[i]).psp (s.shows[i]).settings.rate.spf (s.intakes[i]).ring

/-- The ring as an instant leaves it; when the fill has fallen the flow state is examined once, at the end (R100, R102). -/
def Intake.afterInstant (ring : List Block) (k : Intake) : Intake :=
  if ring.length < k.ring.length then { k with ring := ring }.examineFall else { k with ring := ring }

/-- The Alignment Unit's part of an output instant; SOUND_RESYNC is posted at a resync (R114, R119, R120). -/
def State.alignInstant (i : ScreenId) (s : State) : State :=
  let r := s.sounding i
  let s := (s.modAlign i fun _ => r.align).modIntake i (·.afterInstant r.ring)
  if r.resync then s.post .soundResync (.screen i) else s

end Sys2Proof.Machine
end

