-- ==== Sys2Proof/Machine/MixOps.lean ====
section
/-! DEFINITION. The mixer of a screen: gain, clip sample, late blocks, the end of a call, and the completion of a clip read. -/

namespace Sys2Proof.Machine

/-! ### Gain (R136) -/

/-- The gain at the next instant of a duck state, `duck` being the latched duck gain. -/
def DuckState.nextGain (duck : Nat) : DuckState → Nat
  | .up => 256
  | .rampDown k => 256 - (256 - duck) * (k + 1) / 480
  | .ducked => duck
  | .rampUp g k => g + (256 - g) * (k + 1) / 480

/-- The duck state after that instant: the 480th of a ramp ends it. -/
def DuckState.next : DuckState → DuckState
  | .up => .up
  | .rampDown k => if 480 ≤ k + 1 then .ducked else .rampDown (k + 1)
  | .ducked => .ducked
  | .rampUp g k => if 480 ≤ k + 1 then .up else .rampUp g (k + 1)

/-! ### The clip sample (R140, R142) -/

/-- The number of samples of a call's block. -/
def Playing.blockSize (p : Playing) : Nat := ((blockAt p.sequence p.block).map Prod.snd).getD 0

/-- The block of the next clip sample, if the buffer holds it. -/
def Playing.current? (p : Playing) : Option ClipBlock := p.buffer.find? (·.index == p.block)

/-- Whether the next clip sample is the first of a block that is not in the buffer. -/
def Playing.isLate (p : Playing) : Bool := p.lead == 0 && p.sample == 0 && p.current?.isNone

/-- A late block skipped whole: a pending request moves on to the block after it, and lapses when no block is left (R142). -/
def Playing.skipBlock (p : Playing) : Playing :=
  let nextRead := max p.nextRead (p.block + 1)
  { p with skipping := true, nextRead, readPending := p.readPending && decide (nextRead < totalBlocks p.sequence) }

/-- The clip sample of an instant: 0 in the lead and in a skipped block (R140). -/
def Playing.clipSample (p : Playing) : Sample :=
  if 0 < p.lead || p.skipping then 0 else (p.current?.bind (·.samples[p.sample]?)).getD 0

/-- The place after an instant: the lead runs down, or the place moves on, a finished block leaving the buffer (R141). -/
def Playing.advance (p : Playing) : Playing :=
  if 0 < p.lead then { p with lead := p.lead - 1 }
  else if p.sample + 1 < p.blockSize then { p with sample := p.sample + 1 }
  else { p with block := p.block + 1, sample := 0, skipping := false, buffer := p.buffer.filter fun b => b.index != p.block }

/-- The call has no sample left (R137). -/
def Playing.finished (p : Playing) : Bool := p.lead == 0 && totalBlocks p.sequence ≤ p.block

/-! ### The mix (R140) -/

/-- One output sample before saturation; `/` on integers is floor. -/
def mixExact (prog : Sample) (gain : Nat) (clip : Sample) (level : Nat) : Int :=
  prog.toInt * (gain : Int) / 256 + clip.toInt * (level : Int) / 256

/-- Saturation into −32768..32767. -/
def saturate (x : Int) : Int := max (-32768) (min 32767 x)

/-- One output sample. -/
def mixSample (prog : Sample) (gain : Nat) (clip : Sample) (level : Nat) : Sample :=
  BitVec.ofInt 16 (saturate (mixExact prog gain clip level))

/-- 1 when the saturation changes the sample, else 0. -/
def saturated (prog : Sample) (gain : Nat) (clip : Sample) (level : Nat) : Nat :=
  if saturate (mixExact prog gain clip level) = mixExact prog gain clip level then 0 else 1

/-- A late block found at this instant is skipped and counted (R142). -/
def CallUnit.skipLate (c : CallUnit) : CallUnit :=
  match c.slot with
  | some p => if p.isLate then { c with slot := some p.skipBlock, clipLate := inc16 c.clipLate } else c
  | none => c

/-- The latched settings of the call in the slot, else those in force. -/
def CallUnit.latched (c : CallUnit) : MixSettings :=
  match c.slot with
  | some p => { duck := p.duck, level := p.level }
  | none => c.settings

/-- The clip sample of the instant. -/
def CallUnit.clipSample (c : CallUnit) : Sample :=
  match c.slot with
  | some p => p.clipSample
  | none => 0

/-- The settings held back take effect when the duck state becomes UP (R139). -/
def CallUnit.settle (c : CallUnit) : CallUnit :=
  match c.duckState, c.heldBack with
  | .up, some m => { c with settings := m, heldBack := none }
  | _, _ => c

/-- The instant of the mixer over a programme pair: the gain, the pair sent, the saturations, the call's place and the duck state. -/
def CallUnit.mix (prog : Pair) (c : CallUnit) : CallUnit :=
  let c := c.skipLate
  let m := c.latched
  let gain := c.duckState.nextGain m.duck
  let clip := c.clipSample
  { c with
    gain
    audioOut := (mixSample prog.1 gain clip m.level, mixSample prog.2 gain clip m.level)
    saturations := satAdd 4294967295 c.saturations (saturated prog.1 gain clip m.level + saturated prog.2 gain clip m.level)
    slot := c.slot.map Playing.advance
    duckState := c.duckState.next }.settle

/-- The end of a call: reported, counted, the slot emptied, a read of it in flight left to be discarded, then what follows on (R137). -/
def State.endCall (i : ScreenId) (p : Playing) (s : State) : State :=
  let s := ((s.modCalls i fun c => { c with slot := none }).modReader (·.orphan i)).reportPlayed p.entry
  let s := s.countPlayed i
  s.followOn (s.callFuel i + 1) i { duck := p.duck, level := p.level }

/-- The end taken when the instant was that of the call's last clip sample. -/
def State.endFinished (i : ScreenId) (s : State) : State :=
  match (s.calls[i]).slot with
  | some p => if p.finished then s.endCall i p else s
  | none => s

/-- The mixer's part of an output instant, with the calls and reads it leaves able to start (R135 to R142). -/
def State.mixInstant (i : ScreenId) (prog : Pair) (s : State) : State :=
  (((s.modCalls i (·.mix prog)).endFinished i).startScreen i).serveReads

/-- One output instant of a screen, `us` microseconds passing in its frame monitor first (R114, R140, R154). -/
def State.outputInstant (i : ScreenId) (us : Nat) (s : State) : State :=
  let s := s.modShow i (·.elapse us)
  (s.alignInstant i).mixInstant i (s.sounding i).out

/-! ### The completion of a clip read (R141) -/

/-- Whether a block read is still wanted: its place is not behind the call's, nor that of a block being skipped. -/
def Playing.wants (index : Nat) (p : Playing) : Bool := p.block < index || (p.block == index && !p.skipping)

/-- A completed read enters the buffer of its screen, or is discarded (R141, R142). -/
def State.deliver (f : ClipRead) (samples : List Sample) (s : State) : State :=
  s.modCalls f.screen fun c =>
    { c with slot := c.slot.map fun p =>
        if f.live && p.wants f.index then { p with buffer := p.buffer ++ [{ index := f.index, samples }] } else p }

/-- The read in flight completes with the bytes of its samples; the free reader is then set to work (R141, log 15). -/
def State.readComplete (bytes : List Byte) (s : State) : State :=
  match s.reader.inFlight with
  | none => s
  | some f =>
    if bytes.length = 2 * f.count then
      ((s.modReader fun r => { r with inFlight := none }).deliver f (samplesOf bytes)).serveReads
    else s

end Sys2Proof.Machine
end

