-- ==== Sys2Proof/Machine/Alignment.lean ====
section
/-! DEFINITION. The request of the Alignment Units (06_picture_alignment.md) and the output instant they share with the mixers. -/

namespace Sys2Proof.Machine

/-- The counts of R125 in the order of its table. -/
def AlignCounts.bytes (c : AlignCounts) : List Byte :=
  u16 c.underruns ++ u16 c.lateResyncs ++ u16 c.earlyResyncs ++ u16 c.discarded ++ u32 c.dropped ++ u32 c.repeated

/-- The position of the next sample, absent when the ring is empty (R111, R125). -/
def nextPosition (ring : List Block) (a : Align) : Option Nat := ring.head?.map fun b => b.asp + a.readPoint

/-- PSP, absent outside RUNNING, HELD and LOST (R125). -/
def Show.psp? (w : Show) : Option Nat := if w.state.inShow then some w.psp else none

/-- The unit as ALIGN_QUERY gives it (R125). -/
def State.alignBytes (i : ScreenId) (s : State) : List Byte :=
  let w := s.shows[i]
  let a := s.aligns[i]
  u16 w.settings.picture ++ u16 w.settings.exciter ++ i16 w.settings.trim ++ u16 a.dTenths ++ flagByte a.clamped ++ u16 a.dSamples ++
    enumByte alignModeNames a.mode ++ optBytes u32 w.psp? ++ optBytes u32 (nextPosition (s.intakes[i]).ring a) ++ u8 a.readPoint ++
    optBytes i32 a.lastSlip ++ a.counts.bytes

/-- ALIGN_QUERY at the Alignment Unit. -/
def State.alignQueryBody (i : ScreenId) (s : State) : State × Reply := (s, .ok (s.alignBytes i))

/-- ALIGN_QUERY (R125). -/
def execAlignQuery (p : PortId) (tag : Byte) (payload : List Byte) (s : State) : Host.Outcome State Fault Refusal :=
  serve p 0x20 tag payload rolesAll (lengthIs 1) (ranged (indexArg 4) State.alignQueryBody) s

/-- OUTPUT_INSTANT (R114); output instants begin at the end of device reset (R154). -/
def execOutputInstant (i : ScreenId) (us : Nat) (s : State) : Host.Outcome State Fault Refusal :=
  .next (if s.inReset then s else s.outputInstant i us)

end Sys2Proof.Machine
end

