-- ==== Sys2Proof/Machine/Calls.lean ====
section
/-! DEFINITION. The requests and events of the Call Unit (07_announcements_and_the_mix.md). -/

namespace Sys2Proof.Machine

/-! ### The directory (R127, R128) -/

/-- The number of present entries (R128). -/
def Directory.present (d : Directory) : Nat := d.entries.toList.countP (·.isSome)

/-- The directory as a completed read of the header leaves it: replaced whole, every entry absent when the header is not valid (R127). -/
def Directory.complete (header : List Byte) (d : Directory) : Directory :=
  match readHeader header with
  | some entries => { d with entries, valid := true, reading := false }
  | none => { d with entries := .replicate 32 none, valid := false, reading := false }

/-- Whether a rescan is refused CLIP_BUSY: a call in some slot, or a read of the directory in flight (R128). -/
def State.clipBusy (s : State) : Bool := s.dir.reading || s.calls.toList.any fun c => c.slot.isSome

/-- CLIP_RESCAN at the Call Unit: the read begins and the reply waits for its completion. -/
def State.clipRescanBody (p : PortId) (tag : Byte) (_ : List Byte) (s : State) : State × Reply :=
  if s.clipBusy then (s, .refuse .clipBusy) else (s.modDir fun d => { d with reading := true, rescan := some (p, tag) }, .deferred)

/-- CLIP_RESCAN (R128). -/
def execClipRescan (p : PortId) (tag : Byte) (payload : List Byte) (s : State) : Host.Outcome State Fault Refusal :=
  serve p 0x21 tag payload rolesB (lengthIs 0) (State.clipRescanBody p tag) s

/-- The completion of a rescan: the directory replaced, the reply sent, calls free to start (R128, R135). -/
def State.rescanDone (header : List Byte) (s : State) : State :=
  match s.dir.rescan with
  | none => s
  | some (p, tag) =>
    let s := (s.modDir (·.complete header)).modDir fun d => { d with rescan := none }
    (s.answer p 0x21 tag (.ok (flagByte s.dir.valid ++ u8 s.dir.present))).startAll

/-- CLIP_RESCAN_DONE (R128). -/
def execClipRescanDone (header : List Byte) (s : State) : Host.Outcome State Fault Refusal := .next (s.rescanDone header)

/-- A directory entry as CLIP_QUERY gives it: presence, start address and length (R141, R195). -/
def Clip.bytes (c : Clip) : List Byte := u24 c.start ++ u24 c.length

/-- CLIP_QUERY at the Call Unit. -/
def State.clipQueryBody (_ : List Byte) (s : State) : State × Reply :=
  (s, .ok (flagByte s.dir.valid ++ flagByte s.dir.reading ++ s.dir.entries.toList.flatMap (optBytes Clip.bytes)))

/-- CLIP_QUERY (R141). -/
def execClipQuery (p : PortId) (tag : Byte) (payload : List Byte) (s : State) : Host.Outcome State Fault Refusal :=
  serve p 0x29 tag payload rolesAll (lengthIs 0) State.clipQueryBody s

/-! ### ANNOUNCE (R133) and SET_CALLS (R139) -/

/-- ANNOUNCE at the Call Unit: the number of entries answered is that after the join, before any start (log 18). -/
def State.announceBody (a : ScreenId × List Nat) (s : State) : State × Reply :=
  if a.2.any fun id => (s.dir.clip? id).isNone then (s, .refuse .clipUnknown)
  else if 16 ≤ (s.calls[a.1]).queue.length then (s, .refuse .queueFull)
  else
    let s := s.modCalls a.1 (·.join (.announce a.2))
    (s.startAll, .ok (u8 (s.calls[a.1]).queue.length))

/-- ANNOUNCE (R133). -/
def execAnnounce (p : PortId) (tag : Byte) (payload : List Byte) (s : State) : Host.Outcome State Fault Refusal :=
  serve p 0x22 tag payload rolesB announceLength (ranged announceArgs State.announceBody) s

/-- SET_CALLS: in UP the settings change at once, in any other duck state they are held back (R139). -/
def CallUnit.setMix (m : MixSettings) (c : CallUnit) : CallUnit :=
  if c.duckState = .up then { c with settings := m } else { c with heldBack := some m }

/-- A pair of mix settings on the wire. -/
def MixSettings.bytes (m : MixSettings) : List Byte := u16 m.duck ++ u16 m.level

/-- SET_CALLS at the Call Unit: the settings in force and those held back are answered. -/
def State.setCallsBody (a : ScreenId × MixSettings) (s : State) : State × Reply :=
  let s := s.modCalls a.1 (·.setMix a.2)
  (s, .ok ((s.calls[a.1]).settings.bytes ++ optBytes MixSettings.bytes (s.calls[a.1]).heldBack))

/-- SET_CALLS (R139). -/
def execSetCalls (p : PortId) (tag : Byte) (payload : List Byte) (s : State) : Host.Outcome State Fault Refusal :=
  serve p 0x23 tag payload rolesB (lengthIs 5) (ranged setCallsArgs State.setCallsBody) s

/-! ### Windows (R129) -/

/-- CALLS_OPEN at the Call Unit. -/
def State.callsOpenBody (i : ScreenId) (s : State) : State × Reply := (s.openCalls i, .ok (enumByte openClosed true))

/-- CALLS_OPEN (R129). -/
def execCallsOpen (p : PortId) (tag : Byte) (payload : List Byte) (s : State) : Host.Outcome State Fault Refusal :=
  serve p 0x24 tag payload rolesB (lengthIs 1) (ranged (indexArg 4) State.callsOpenBody) s

/-- CALLS_CLOSE at the Call Unit. -/
def State.callsCloseBody (i : ScreenId) (s : State) : State × Reply := (s.closeCalls i, .ok (enumByte openClosed false))

/-- CALLS_CLOSE (R129). -/
def execCallsClose (p : PortId) (tag : Byte) (payload : List Byte) (s : State) : Host.Outcome State Fault Refusal :=
  serve p 0x25 tag payload rolesB (lengthIs 1) (ranged (indexArg 4) State.callsCloseBody) s

/-- ORDERS_OPEN and ORDERS_CLOSE at the Call Unit: the setting now in force is answered. -/
def State.orderWindowBody (isOpen : Bool) (i : ScreenId) (s : State) : State × Reply :=
  (s.setOrderWindow i isOpen, .ok (enumByte openClosed isOpen))

/-- ORDERS_OPEN (R129). -/
def execOrdersOpen (p : PortId) (tag : Byte) (payload : List Byte) (s : State) : Host.Outcome State Fault Refusal :=
  serve p 0x26 tag payload rolesBK (lengthIs 1) (ranged (indexArg 4) (State.orderWindowBody true)) s

/-- ORDERS_CLOSE (R129). -/
def execOrdersClose (p : PortId) (tag : Byte) (payload : List Byte) (s : State) : Host.Outcome State Fault Refusal :=
  serve p 0x27 tag payload rolesBK (lengthIs 1) (ranged (indexArg 4) (State.orderWindowBody false)) s

/-! ### CALL_QUERY (R143) -/

/-- A queue entry: its kind, then its order number or its clip list (R130, log 12). -/
def CallEntry.bytes : CallEntry → List Byte
  | .orderCall n => u8 0 ++ u16 n
  | .announce clips => u8 1 ++ listBytes u8 clips

/-- The samples of a call's sequence that lie before its place: the blocks of its clips in turn (log 12). -/
def Playing.placeSamples (p : Playing) : Nat :=
  ((List.range p.block).map fun k => ((blockAt p.sequence k).map Prod.snd).getD 0).sum + p.sample

/-- The call in a slot: kind, number or list, composed sequence, place in it (log 12). -/
def Playing.bytes (p : Playing) : List Byte :=
  p.entry.bytes ++ listBytes (fun c => u8 c.id) p.sequence ++ u32 p.placeSamples

/-- The screen's part of the Call Unit as CALL_QUERY gives it. -/
def CallUnit.bytes (c : CallUnit) : List Byte :=
  enumByte openClosed c.callWindow ++ enumByte openClosed c.orderWindow ++ listBytes CallEntry.bytes c.queue ++
    optBytes Playing.bytes c.slot ++ c.duckState.byte ++ u16 c.gain ++ c.settings.bytes ++ optBytes MixSettings.bytes c.heldBack ++
    u16 c.played ++ u16 c.cut ++ u16 c.clipLate ++ u32 c.saturations

/-- CALL_QUERY at the Call Unit. -/
def State.callQueryBody (i : ScreenId) (s : State) : State × Reply := (s, .ok (s.calls[i]).bytes)

/-- CALL_QUERY (R143). -/
def execCallQuery (p : PortId) (tag : Byte) (payload : List Byte) (s : State) : Host.Outcome State Fault Refusal :=
  serve p 0x28 tag payload rolesAll (lengthIs 1) (ranged (indexArg 4) State.callQueryBody) s

/-! ### The clip reader -/

/-- CLIP_READ_COMPLETE (R141). -/
def execClipReadComplete (bytes : List Byte) (s : State) : Host.Outcome State Fault Refusal := .next (s.readComplete bytes)

end Sys2Proof.Machine
end

