-- ==== Sys2Proof/Machine/Cues.lean ====
section
/-! DEFINITION. The requests of the Cue Unit (04_cue_lists.md). Passes belong to FRAME_PULSE. -/

namespace Sys2Proof.Machine

/-- A cue as LOAD_CUE adds it (R69, R74). -/
def LoadCueArgs.cue (a : LoadCueArgs) : Cue :=
  { id := a.id, pos := a.pos, guard := a.guard, action := a.action, outcome := .notReached }

/-- The checks of R74 in their order. -/
def State.loadCueCheck (a : LoadCueArgs) (s : State) : Option Status :=
  let w := s.shows[a.screen]
  let u := s.cues[a.screen]
  if w.settings.rate.fps ≤ a.pos.frame then some .range
  else if 64 ≤ u.cues.length then some .listFull
  else if (u.indexOf? a.id).isSome then some .duplicateId
  else if w.state.inShow && !(a.pos.later w.clock) then some .cuePast
  else none

/-- LOAD_CUE at the Cue Unit: the index at which the cue was placed and the number of cues are answered. -/
def State.loadCueBody (a : LoadCueArgs) (s : State) : State × Reply :=
  match s.loadCueCheck a with
  | some e => (s, .refuse e)
  | none =>
    let u := s.cues[a.screen]
    (s.modCues a.screen (·.load a.cue), .ok (u8 (placeOf a.pos u.cues) ++ u8 (u.cues.length + 1)))

/-- LOAD_CUE (R74). -/
def execLoadCue (p : PortId) (tag : Byte) (payload : List Byte) (s : State) : Host.Outcome State Fault Refusal :=
  serve p 0x1A tag payload rolesB loadCueLength (ranged loadCueArgs State.loadCueBody) s

/-- DELETE_CUE at the Cue Unit: in a show a cue before the cursor is refused CUE_PAST (R76). -/
def State.deleteCueBody (a : ScreenId × Nat) (s : State) : State × Reply :=
  let u := s.cues[a.1]
  match u.indexOf? a.2 with
  | none => (s, .refuse .noSuchCue)
  | some k =>
    if (s.shows[a.1]).state.inShow && decide (k < u.cursor) then (s, .refuse .cuePast)
    else (s.modCues a.1 (·.delete k), .ok (u8 (u.cues.length - 1)))

/-- DELETE_CUE (R76). -/
def execDeleteCue (p : PortId) (tag : Byte) (payload : List Byte) (s : State) : Host.Outcome State Fault Refusal :=
  serve p 0x1B tag payload rolesB (lengthIs 2) (ranged deleteCueArgs State.deleteCueBody) s

/-- CLEAR_CUES at the Cue Unit: refused in a show (R77). -/
def State.clearCuesBody (i : ScreenId) (s : State) : State × Reply :=
  if (s.shows[i]).state.inShow then (s, .refuse .screenState) else (s.modCues i CueUnit.clear, .ok [])

/-- CLEAR_CUES (R77). -/
def execClearCues (p : PortId) (tag : Byte) (payload : List Byte) (s : State) : Host.Outcome State Fault Refusal :=
  serve p 0x1C tag payload rolesB (lengthIs 1) (ranged (indexArg 4) State.clearCuesBody) s

/-- Every field of a cue record, in the order of R69. -/
def Cue.bytes (c : Cue) : List Byte :=
  u8 c.id ++ posBytes c.pos ++ enumByte guardNames c.guard ++ c.action.byte ++ optBytes (fun bytes => bytes) c.action.argument ++
    enumByte cueOutcomeNames c.outcome

/-- The list as CUE_QUERY gives it from a first index onward, up to 16 cues (R78). -/
def CueUnit.bytes (first : Nat) (u : CueUnit) : List Byte :=
  u8 u.cues.length ++ u8 u.cursor ++ flagByte u.flagA ++ flagByte u.flagB ++ u.lamps.toList.flatMap (enumByte onOff) ++
    listBytes Cue.bytes ((u.cues.drop first).take 16)

/-- CUE_QUERY at the Cue Unit. -/
def State.cueQueryBody (a : ScreenId × Nat) (s : State) : State × Reply := (s, .ok ((s.cues[a.1]).bytes a.2))

/-- CUE_QUERY (R78). -/
def execCueQuery (p : PortId) (tag : Byte) (payload : List Byte) (s : State) : Host.Outcome State Fault Refusal :=
  serve p 0x1D tag payload rolesAll (lengthIs 2) (ranged cueQueryArgs State.cueQueryBody) s

end Sys2Proof.Machine
end

