-- ==== Sys2Proof/Machine/Exciters.lean ====
section
/-! DEFINITION. The requests and events of the Exciter Link Units (08_exciter_links.md). -/

namespace Sys2Proof.Machine

/-- The exciter settings on the wire (R145, R199). -/
def ExciterSettings.bytes (t : ExciterSettings) : List Byte := enumByte offOn t.mute ++ enumByte stereoMono t.mono ++ u8 t.deviation

/-- A last status on the wire: carrier-on, then RF-fault. -/
def ExciterStatus.bytes (t : ExciterStatus) : List Byte := flagByte t.carrier ++ flagByte t.fault

/-- The reply to SET_EXCITER: settings in force, link state, last status, SOUND_UP (R145). -/
def Link.replyBytes (k : Link) : List Byte :=
  k.settings.bytes ++ enumByte linkStateNames k.state ++ optBytes ExciterStatus.bytes k.last ++ flagByte k.soundUp

/-- SET_EXCITER at the link: equal settings change nothing, others begin a new cycle (R145, R149). -/
def State.setExciter (heard : List LineInput) (i : ScreenId) (t : ExciterSettings) (s : State) : State :=
  if (s.links[i]).settings = t then s else (s.modLink i fun k => { k.hear heard with settings := t }).cycle i

/-- SET_EXCITER at the Exciter Link Unit. Where its cycle declares the link lost, the link state and SOUND_UP answered are those after the loss
(DESIGN CHOICE, log 26: R145 has both answered and does not say before or after). -/
def State.setExciterBody (heard : List LineInput) (a : ScreenId × ExciterSettings) (s : State) : State × Reply :=
  let s := s.setExciter heard a.1 a.2
  (s, .ok (s.links[a.1]).replyBytes)

/-- SET_EXCITER (R145). -/
def execSetExciter (p : PortId) (tag : Byte) (payload : HeardPayload) (s : State) : Host.Outcome State Fault Refusal :=
  serve p 0x2A tag payload.bytes rolesB (lengthIs 4) (ranged setExciterArgs (State.setExciterBody payload.heard)) s

/-- The counts of R155 in the order of its table. -/
def LinkCounts.bytes (c : LinkCounts) : List Byte :=
  u16 c.sends ++ u16 c.retries ++ u16 c.valid ++ u16 c.stale ++ u16 c.statuses ++ u16 c.bad ++ u16 c.losses

/-- The latest send with its mark (R144, R155). -/
def latestBytes (l : Byte × Bool) : List Byte := l.1 :: enumByte answeredNames l.2

/-- The link as EXCITER_QUERY gives it (R155). -/
def Link.bytes (k : Link) : List Byte :=
  k.settings.bytes ++ enumByte linkStateNames k.state ++ [k.nextSend] ++ optBytes latestBytes k.latest ++ u8 k.unanswered ++
    flagByte k.ackTimer.isSome ++ flagByte k.refreshTimer.isSome ++ optBytes ExciterStatus.bytes k.last ++ flagByte k.soundUp ++
    k.counts.bytes

/-- EXCITER_QUERY at the Exciter Link Unit. -/
def State.exciterQueryBody (i : ScreenId) (s : State) : State × Reply := (s, .ok (s.links[i]).bytes)

/-- EXCITER_QUERY (R155). -/
def execExciterQuery (p : PortId) (tag : Byte) (payload : List Byte) (s : State) : Host.Outcome State Fault Refusal :=
  serve p 0x2B tag payload rolesAll (lengthIs 1) (ranged (indexArg 4) State.exciterQueryBody) s

/-! ### Messages and timers -/

/-- EXCITER_ACK (R147); where what was heard does not end an ACK of that number and those flags, none occurs (log 2). -/
def execExciterAck (m : LineMoment) (number flags : Byte) (s : State) : Host.Outcome State Fault Refusal :=
  .next (match (s.links[m.screen]).collector.ends m.heard with
    | some (c, e) =>
      if e = .ack number flags then (s.modLink m.screen (·.received c)).takeAck m.screen number (statusOfFlags flags) else s
    | none => s)

/-- EXCITER_STATUS (R150); where what was heard does not end a STATUS of that number and those flags, none occurs (log 2). -/
def execExciterStatus (m : LineMoment) (number flags : Byte) (s : State) : Host.Outcome State Fault Refusal :=
  .next (match (s.links[m.screen]).collector.ends m.heard with
    | some (c, e) =>
      if e = .status number flags then (s.modLink m.screen (·.received c)).takeStatusMessage m.screen number (statusOfFlags flags) else s
    | none => s)

/-- A damaged message: discarded unanswered and counted, the line free of it (R150, R146). -/
def Link.badMessage (c : Collector) (k : Link) : Link := (k.received c).count fun n => { n with bad := inc16 n.bad }

/-- EXCITER_BAD_MESSAGE (R150); where what was heard does not end a damaged message, none occurs (log 2). -/
def execExciterBadMessage (m : LineMoment) (s : State) : Host.Outcome State Fault Refusal :=
  .next (match (s.links[m.screen]).collector.ends m.heard with
    | some (c, .bad) => s.modLink m.screen (·.badMessage c)
    | _ => s)

/-- ACK_TIMER_EXPIRY (R148). -/
def execAckTimerExpiry (i : ScreenId) (heard : List LineInput) (s : State) : Host.Outcome State Fault Refusal :=
  .next (if (s.links[i]).ackTimer.isSome then (s.modLink i (·.hear heard)).ackExpiry i else s)

/-- REFRESH_TIMER_EXPIRY (R149). -/
def execRefreshTimerExpiry (i : ScreenId) (heard : List LineInput) (s : State) : Host.Outcome State Fault Refusal :=
  .next (if (s.links[i]).refreshTimer.isSome then (s.modLink i (·.hear heard)).cycle i else s)

/-- SETTINGS_SEND_END (R146); with no SETTINGS leaving there is none (log 2). -/
def execSettingsSendEnd (m : LineMoment) (s : State) : Host.Outcome State Fault Refusal :=
  .next (match (s.links[m.screen]).leaving with
    | some (.settings _ _) => s.modLink m.screen fun k => (k.hear m.heard).settingsSendEnd
    | _ => s)

/-- STATUS_ACK_SEND_END (R146); with no STATUS_ACK leaving there is none (log 2). -/
def execStatusAckSendEnd (m : LineMoment) (s : State) : Host.Outcome State Fault Refusal :=
  .next (match (s.links[m.screen]).leaving with
    | some (.statusAck _) => s.modLink m.screen fun k => (k.hear m.heard).statusAckSendEnd
    | _ => s)

end Sys2Proof.Machine
end

