-- ==== Sys2Proof/Machine/Intakes.lean ====
section
/-! DEFINITION. The requests and events of the Audio Intakes (05_audio_intake.md). -/

namespace Sys2Proof.Machine

/-- The settings in force, the fill and the flow state, as SET_SOUND is answered (R104). -/
def Intake.settingsBytes (k : Intake) : List Byte :=
  u8 k.settings.high ++ u8 k.settings.low ++ u16 k.settings.holdTime ++ u8 k.fill ++ enumByte flowNames k.holding

/-- SET_SOUND at the Audio Intake. The flow state answered is that after the examination (DESIGN CHOICE, log 25: R104 has the flow state
answered and 'then' examined in the same handling, and does not say which of the two the reply gives); the fill is the same in both. -/
def State.setSoundBody (a : ScreenId × SoundSettings) (s : State) : State × Reply :=
  let s := s.modIntake a.1 (·.setSound a.2)
  (s, .ok (s.intakes[a.1]).settingsBytes)

/-- SET_SOUND (R104). -/
def execSetSound (p : PortId) (tag : Byte) (payload : List Byte) (s : State) : Host.Outcome State Fault Refusal :=
  serve p 0x1E tag payload rolesB (lengthIs 5) (ranged setSoundArgs State.setSoundBody) s

/-- The counts of R106 in the order of its table. -/
def IntakeCounts.bytes (c : IntakeCounts) : List Byte :=
  u16 c.accepted ++ u16 c.closed ++ u16 c.blockBad ++ u16 c.seqGap ++ u16 c.stampBad ++ u16 c.stampBack ++ u16 c.overruns ++
    u16 c.holds ++ u16 c.resumes

/-- The intake as INTAKE_QUERY gives it (R105). -/
def Intake.bytes (k : Intake) : List Byte :=
  enumByte openClosed k.isOpen ++ u8 k.fill ++ optBytes u32 (k.ring.head?.map (·.asp)) ++ optBytes u32 k.lastAccepted ++
    optBytes u16 k.expected ++ enumByte flowNames k.holding ++ flagByte k.holdTimer.isSome ++
    u8 k.settings.high ++ u8 k.settings.low ++ u16 k.settings.holdTime ++ k.counts.bytes

/-- INTAKE_QUERY at the Audio Intake. -/
def State.intakeQueryBody (i : ScreenId) (s : State) : State × Reply := (s, .ok (s.intakes[i]).bytes)

/-- INTAKE_QUERY (R105). -/
def execIntakeQuery (p : PortId) (tag : Byte) (payload : List Byte) (s : State) : Host.Outcome State Fault Refusal :=
  serve p 0x1F tag payload rolesAll (lengthIs 1) (ranged (indexArg 4) State.intakeQueryBody) s

/-- An arriving block judged and placed or discarded; an overrun posts AUDIO_OVERRUN (R93, R99). -/
def State.blockArrival (i : ScreenId) (bytes : List Byte) (s : State) : State :=
  let r := (s.intakes[i]).arrive (s.shows[i]).settings.rate bytes
  let s := s.modIntake i fun _ => r.1
  if r.2 then s.post .audioOverrun (.screen i) else s

/-- AUDIO_BLOCK_ARRIVAL (R93). -/
def execAudioBlockArrival (i : ScreenId) (bytes : List Byte) (s : State) : Host.Outcome State Fault Refusal :=
  .next (s.blockArrival i bytes)

/-- Expiry of the hold timer in HOLDING: HOLD sent again, the timer started again (R103). -/
def Intake.holdExpiry (k : Intake) : Intake := if k.holding ∧ k.holdTimer.isSome then k.sendHold else k

/-- HOLD_TIMER_EXPIRY (R103). -/
def execHoldTimerExpiry (i : ScreenId) (s : State) : Host.Outcome State Fault Refusal := .next (s.modIntake i Intake.holdExpiry)

end Sys2Proof.Machine
end

