-- ==== Sys2Proof/Machine/Lamps.lean ====
section
/-! DEFINITION. The Lamp Unit and the event requests (10_lamps_and_attention.md): lamp sources and outputs, reading and clearing flags,
the attention mask, and the blink timebase. -/

namespace Sys2Proof.Machine

/-! ### Sources and outputs (R176, R177) -/

/-- The value of a lamp source as the state of its owning block gives it (the table of R176). -/
def State.sourceValue (src : LampSource) (s : State) : Bool :=
  match src with
  | .off => false
  | .on => true
  | .laneReady n => (s.entry[n]).state == .idle
  | .laneArmed n => (s.entry[n]).state == .armed
  | .laneClosed n => (s.entry[n]).state == .closed
  | .laneLong n => (s.entry[n]).longTimer.isSome
  | .zoneFull i => (s.zones[i]).full
  | .entryOpen i => (s.zones[i]).isOpen
  | .ordersOpen i => (s.calls[i]).orderWindow
  | .callPlaying i => (s.calls[i]).slot.isSome
  | .screenHeld i => (s.shows[i]).state == .held
  | .screenLost i => (s.shows[i]).state == .lost
  | .soundDown i => !(s.links[i]).soundUp
  | .cueLamp i k => (s.cues[i]).lamps[k]
  | .kitchenHigh => s.orders.isHigh
  | .kitchenWork => decide (0 < s.orders.fill)
  | .attention p => (s.ports[p]).attention

/-- The SLOW phase: on for the first four eighths of a cycle (R177). -/
def slowOn (k : Fin 8) : Bool := k.val < 4

/-- The FAST phase: on for the first eighth of each quarter (R177). -/
def fastOn (k : Fin 8) : Bool := k.val % 2 == 0

/-- Whether a blink setting lets a true condition show; before the timebase runs no phase is on (R177). -/
def Blink.shows (phase : Option (Fin 8)) : Blink → Bool
  | .steady => true
  | .slow => match phase with | some k => slowOn k | none => false
  | .fast => match phase with | some k => fastOn k | none => false

/-- The lamp condition: the source, or its opposite with invert ON (R177). -/
def State.lampCondition (l : Lamp) (s : State) : Bool := s.sourceValue l.source != l.invert

/-- The output of a lamp: LIT or DARK (R177). -/
def State.lampLit (k : Fin 12) (s : State) : Bool :=
  let l := s.lamps[k]
  s.lampCondition l && l.blink.shows s.blink

/-! ### SET_LAMP (R175) and LAMP_QUERY (R178) -/

/-- The settings of a lamp: source, index, invert, blink. -/
def Lamp.bytes (l : Lamp) : List Byte :=
  l.source.byte ++ optBytes (fun bytes => bytes) l.source.indexBytes ++ enumByte offOn l.invert ++ enumByte blinkNames l.blink

/-- SET_LAMP at the Lamp Unit: the settings in force and the output they give are answered. -/
def State.setLampBody (a : Fin 12 × Lamp) (s : State) : State × Reply :=
  let s := s.modLamp a.1 fun _ => a.2
  (s, .ok (a.2.bytes ++ enumByte litDark (s.lampLit a.1)))

/-- SET_LAMP (R175). -/
def execSetLamp (p : PortId) (tag : Byte) (payload : List Byte) (s : State) : Host.Outcome State Fault Refusal :=
  serve p 0x34 tag payload rolesB setLampLength (ranged setLampArgs State.setLampBody) s

/-- One lamp as LAMP_QUERY gives it. -/
def State.lampBytes (s : State) (k : Fin 12) : List Byte :=
  (s.lamps[k]).bytes ++ flagByte (s.sourceValue (s.lamps[k]).source) ++ enumByte litDark (s.lampLit k)

/-- LAMP_QUERY at the Lamp Unit. -/
def State.lampQueryBody (_ : List Byte) (s : State) : State × Reply :=
  (s, .ok (([0, 1, 2, 3, 4, 5, 6, 7, 8, 9, 10, 11] : List (Fin 12)).flatMap s.lampBytes))

/-- LAMP_QUERY (R178). -/
def execLampQuery (p : PortId) (tag : Byte) (payload : List Byte) (s : State) : Host.Outcome State Fault Refusal :=
  serve p 0x35 tag payload rolesAll (lengthIs 0) State.lampQueryBody s

/-! ### READ_EVENTS (R181) -/

/-- The kinds whose flag at a port is not CLEAR, in the order of R179. -/
def Port.noted (q : Port) : List EventKind := eventKinds.filter fun k => (q.flag k).state != .clear

/-- The entry READ_EVENTS gives for a kind: kind, state before the read, count, detail. -/
def Port.noteBytes (q : Port) (k : EventKind) : List Byte :=
  let f := q.flag k
  u8 k.index.val ++ enumByte flagStateNames f.state ++ u8 f.count ++ ((f.detail.map Detail.bytes).getD [])

/-- The highest pending class as READ_EVENTS gives it: FAULT 0 to KITCHEN 3, NONE 4 (log 12). -/
def Port.highestByte (q : Port) : List Byte := u8 ((q.highestPending.map (·.val)).getD 4)

/-- READ_EVENTS at a port's flags: every PENDING flag becomes SEEN. -/
def Port.readFlags (q : Port) : Port := { q with flags := q.flags.map Flag.read }

/-- READ_EVENTS at the flags of the port by which it came. -/
def State.readEventsBody (p : PortId) (_ : List Byte) (s : State) : State × Reply :=
  let q := s.ports[p]
  (s.modPort p Port.readFlags, .ok (q.highestByte ++ listBytes q.noteBytes q.noted))

/-- READ_EVENTS (R181). -/
def execReadEvents (p : PortId) (tag : Byte) (payload : List Byte) (s : State) : Host.Outcome State Fault Refusal :=
  serve p 0x36 tag payload rolesAll (lengthIs 0) (State.readEventsBody p) s

/-! ### CLEAR_EVENTS (R182) and SET_ATTENTION (R183) -/

/-- The named flags of a port cleared where SEEN, the attention line examined (R182, R184). -/
def Port.clearFlags (kinds : List EventKind) (q : Port) : Port :=
  { q with flags := kinds.foldl (fun v (k : EventKind) => upd v k.index Flag.clear) q.flags }.examine

/-- A list of event kinds on the wire. -/
def kindBytes (kinds : List EventKind) : List Byte := listBytes (fun k : EventKind => u8 k.index.val) kinds

/-- The kinds of a list whose flag at a port has a state, in the order of the list: the two lists of the CLEAR_EVENTS reply name their kinds
in the order in which the request named them (DESIGN CHOICE, log 12: R182 gives two sets). -/
def Port.kindsIn (st : FlagState) (kinds : List EventKind) (q : Port) : List EventKind := kinds.filter fun k => (q.flag k).state == st

/-- CLEAR_EVENTS at the flags of the port by which it came: the kinds cleared and the kinds left PENDING are answered. -/
def State.clearEventsBody (p : PortId) (kinds : List EventKind) (s : State) : State × Reply :=
  let q := s.ports[p]
  (s.modPort p (·.clearFlags kinds), .ok (kindBytes (q.kindsIn .seen kinds) ++ kindBytes (q.kindsIn .pending kinds)))

/-- CLEAR_EVENTS (R182). -/
def execClearEvents (p : PortId) (tag : Byte) (payload : List Byte) (s : State) : Host.Outcome State Fault Refusal :=
  serve p 0x37 tag payload rolesAll clearEventsLength (ranged clearEventsArgs (State.clearEventsBody p)) s

/-- SET_ATTENTION at the mask of the port by which it came: the mask and the line are answered. -/
def State.setAttentionBody (p : PortId) (m : Vector Bool 4) (s : State) : State × Reply :=
  let s := s.modPort p fun q => { q with mask := m }.examine
  (s, .ok (m.toList.flatMap (enumByte enabledDisabled) ++ flagByte (s.ports[p]).attention))

/-- SET_ATTENTION (R183). -/
def execSetAttention (p : PortId) (tag : Byte) (payload : List Byte) (s : State) : Host.Outcome State Fault Refusal :=
  serve p 0x38 tag payload rolesAll (lengthIs 4) (ranged setAttentionArgs (State.setAttentionBody p)) s

/-! ### The blink timebase -/

/-- BLINK_PHASE_CHANGE: the next eighth of the cycle; nothing before the end of device reset (R177). -/
def execBlinkPhaseChange (s : State) : Host.Outcome State Fault Refusal := .next { s with blink := s.blink.map (· + 1) }

end Sys2Proof.Machine
end

