-- ==== Sys2Proof/Machine/Lanes.lean ====
section
/-! DEFINITION. The requests and events of the Lane Unit (02_entry_and_exit_lanes.md). -/

namespace Sys2Proof.Machine

/-! ### Requests -/

/-- The four settings of a lane as SET_LANE is answered. -/
def LaneSettings.bytes (t : LaneSettings) : List Byte :=
  u16 t.passWindow ++ u16 t.gapWindow ++ u16 t.longThreshold ++ u16 t.stuckLimit

/-- SET_LANE at the Lane Unit: an entry lane takes it in CLOSED and IDLE, an exit lane in CLOSED (R26). -/
def State.setLaneBody (a : LaneName × LaneSettings) (s : State) : State × Reply :=
  match a.1 with
  | .entry n =>
    if (s.entry[n]).state = .closed ∨ (s.entry[n]).state = .idle then
      (s.modEntry n fun l => { l with settings := a.2 }, .ok a.2.bytes)
    else (s, .refuse .laneBusy)
  | .exit n =>
    if (s.exits[n]).state = .closed then (s.modExit n fun x => { x with settings := a.2 }, .ok a.2.bytes)
    else (s, .refuse .laneBusy)

/-- SET_LANE (R26). -/
def execSetLane (p : PortId) (tag : Byte) (payload : List Byte) (s : State) : Host.Outcome State Fault Refusal :=
  serve p 0x0C tag payload rolesG (lengthIs 10) (ranged setLaneArgs State.setLaneBody) s

/-- The state of a lane as LANE_OPEN, LANE_CLOSE and LANE_RESET answer it. -/
def State.laneStateBytes (a : LaneName) (s : State) : List Byte :=
  match a with
  | .entry n => enumByte entryStateNames (s.entry[n]).state
  | .exit n => enumByte exitStateNames (s.exits[n]).state

/-- LANE_OPEN of an entry lane: CLOSED to IDLE, else no change (R29). -/
def EntryLane.openUp (l : EntryLane) : EntryLane := if l.state = .closed then { l with state := .idle } else l

/-- LANE_OPEN at the Lane Unit (R29, R44). -/
def State.laneOpenBody (a : LaneName) (s : State) : State × Reply :=
  let s := match a with
    | .entry n => s.modEntry n EntryLane.openUp
    | .exit n => s.modExit n ExitLane.openUp
  (s, .ok (s.laneStateBytes a))

/-- LANE_OPEN (R29). -/
def execLaneOpen (p : PortId) (tag : Byte) (payload : List Byte) (s : State) : Host.Outcome State Fault Refusal :=
  serve p 0x0D tag payload rolesG (lengthIs 2) (ranged laneArg State.laneOpenBody) s

/-- Whether LANE_CLOSE is refused LANE_BUSY (R29, R44). -/
def State.closeBusy (a : LaneName) (s : State) : Bool :=
  match a with
  | .entry n => !((s.entry[n]).state == .closed || (s.entry[n]).state == .idle)
  | .exit n => (s.exits[n]).state == .stuck

/-- LANE_CLOSE at the Lane Unit (R29, R44). -/
def State.laneCloseBody (a : LaneName) (s : State) : State × Reply :=
  if s.closeBusy a then (s, .refuse .laneBusy)
  else
    let s := match a with
      | .entry n => s.modEntry n fun l => { l with state := .closed }
      | .exit n => s.modExit n ExitLane.toClosed
    (s, .ok (s.laneStateBytes a))

/-- LANE_CLOSE (R29). -/
def execLaneClose (p : PortId) (tag : Byte) (payload : List Byte) (s : State) : Host.Outcome State Fault Refusal :=
  serve p 0x0E tag payload rolesG (lengthIs 2) (ranged laneArg State.laneCloseBody) s

/-- CANCEL_ADMIT at the Lane Unit: the void of a PENDING ticket whose lane is ARMED (R41). -/
def State.cancelAdmitBody (number : Nat) (s : State) : State × Reply :=
  match s.ticket? number with
  | none => (s, .refuse .noSuchTicket)
  | some t =>
    match t.state with
    | .present _ _ => (s, .refuse .ticketState)
    | .pending =>
      if (s.entry[t.lane]).state = .armed then
        (((s.void number).modEntry t.lane EntryLane.toIdle).startAll, .ok (u8 t.lane.val))
      else (s, .refuse .laneBusy)

/-- CANCEL_ADMIT (R41). -/
def execCancelAdmit (p : PortId) (tag : Byte) (payload : List Byte) (s : State) : Host.Outcome State Fault Refusal :=
  serve p 0x0F tag payload rolesG (lengthIs 2) (ranged ticketArg State.cancelAdmitBody) s

/-- LANE_RESET at the Lane Unit: the state found and the ticket voided or committed are answered (R42, R44). -/
def State.laneResetBody (a : LaneName) (s : State) : State × Reply :=
  match a with
  | .entry n => ((s.resetEntry n).startAll, .ok (s.laneStateBytes a ++ optBytes u16 (s.entry[n]).resetTicket))
  | .exit n => (s.modExit n ExitLane.toClosed, .ok (s.laneStateBytes a ++ optBytes u16 none))

/-- LANE_RESET (R42). -/
def execLaneReset (p : PortId) (tag : Byte) (payload : List Byte) (s : State) : Host.Outcome State Fault Refusal :=
  serve p 0x10 tag payload rolesG (lengthIs 2) (ranged laneArg State.laneResetBody) s

/-! ### GATE_REPORT (R46) -/

/-- The part of GATE_REPORT for one entry lane. -/
def EntryLane.bytes (l : EntryLane) : List Byte :=
  enumByte entryStateNames l.state ++ enumByte loopNames l.loop ++ enumByte armNames l.arm ++ optBytes u16 l.admission ++
    u16 l.counts.commits ++ u16 l.counts.timeouts ++ u16 l.counts.tailgates ++ u16 l.counts.unadmitted ++ u16 l.counts.long ++
    u16 l.counts.stuck

/-- The part of GATE_REPORT for one exit lane. -/
def ExitLane.bytes (x : ExitLane) : List Byte :=
  enumByte exitStateNames x.state ++ enumByte loopNames x.loop ++ u16 x.exits ++ u16 x.stuck

/-- The departures total: the sum of the four departed totals (R19, R46). -/
def State.departures (s : State) : Nat := sum4 s.totals.departed

/-- The exits counted beyond the departures, 0 where there are none (R46). -/
def State.unmatchedExits (s : State) : Nat := (s.exits[0]).exits + (s.exits[1]).exits - s.departures

/-- GATE_REPORT at the Lane Unit. -/
def State.gateReportBody (_ : List Byte) (s : State) : State × Reply :=
  (s, .ok (s.entry.toList.flatMap EntryLane.bytes ++ s.exits.toList.flatMap ExitLane.bytes ++ u32 s.departures ++ u32 s.unmatchedExits))

/-- GATE_REPORT (R46). -/
def execGateReport (p : PortId) (tag : Byte) (payload : List Byte) (s : State) : Host.Outcome State Fault Refusal :=
  serve p 0x11 tag payload rolesAll (lengthIs 0) State.gateReportBody s

/-! ### Loop edges and timers -/

/-- ENTRY_LOOP_RISE (R31, R35, R37). -/
def execEntryLoopRise (n : LaneId) (s : State) : Host.Outcome State Fault Refusal := .next (s.entryRise n)

/-- ENTRY_LOOP_FALL (R32, R36, R37, R40). -/
def execEntryLoopFall (n : LaneId) (us : Nat) (s : State) : Host.Outcome State Fault Refusal := .next (s.entryFall n us)

/-- EXIT_LOOP_RISE (R43). -/
def execExitLoopRise (n : ExitId) (s : State) : Host.Outcome State Fault Refusal := .next (s.modExit n ExitLane.rise)

/-- EXIT_LOOP_FALL (R43). -/
def execExitLoopFall (n : ExitId) (s : State) : Host.Outcome State Fault Refusal := .next (s.modExit n ExitLane.fall)

/-- PASS_WINDOW_EXPIRY (R38). -/
def execPassWindowExpiry (n : LaneId) (s : State) : Host.Outcome State Fault Refusal := .next (s.passWindowExpiry n).startAll

/-- GAP_WINDOW_EXPIRY (R34). -/
def execGapWindowExpiry (n : LaneId) (s : State) : Host.Outcome State Fault Refusal := .next (s.gapWindowExpiry n)

/-- ENTRY_STUCK_LIMIT_EXPIRY (R39). -/
def execEntryStuckLimitExpiry (n : LaneId) (s : State) : Host.Outcome State Fault Refusal := .next (s.entryStuckExpiry n)

/-- LONG_LAMP_TIMER_EXPIRY (R33). -/
def execLongLampTimerExpiry (n : LaneId) (s : State) : Host.Outcome State Fault Refusal := .next (s.longLampExpiry n)

/-- EXIT_STUCK_TIMER_EXPIRY (R43). -/
def execExitStuckTimerExpiry (n : ExitId) (s : State) : Host.Outcome State Fault Refusal := .next (s.exitStuckExpiry n)

end Sys2Proof.Machine
end

