-- ==== Sys2Proof/Machine/Orders.lean ====
section
/-! DEFINITION. The requests of the Order Unit (09_concession_orders.md). -/

namespace Sys2Proof.Machine

/-! ### SET_KITCHEN (R159) -/

/-- The five kitchen settings on the wire. -/
def KitchenSettings.bytes (t : KitchenSettings) : List Byte :=
  u8 t.high ++ u8 t.low ++ u16 t.unitSeconds ++ u16 t.recallInterval ++ u8 t.maxCalls

/-- SET_KITCHEN at the Order Unit: the settings and the fill are answered, no event is posted. -/
def State.setKitchenBody (t : KitchenSettings) (s : State) : State × Reply :=
  (s.modOrders fun u => { u with settings := t }, .ok (t.bytes ++ u8 s.orders.fill))

/-- SET_KITCHEN (R159). -/
def execSetKitchen (p : PortId) (tag : Byte) (payload : List Byte) (s : State) : Host.Outcome State Fault Refusal :=
  serve p 0x2C tag payload rolesK (lengthIs 7) (ranged setKitchenArgs State.setKitchenBody) s

/-! ### PLACE_ORDER (R160, R161) -/

/-- Check 3 of R160: the order window for BREAK, the fill below the high level for NOW. -/
def State.pickupCheck (pickup : Pickup) (i : ScreenId) (s : State) : Option Status :=
  match pickup with
  | .atBreak => if (s.calls[i]).orderWindow then none else some .windowClosed
  | .now => if s.orders.isHigh then some .kitchenFull else none

/-- The checks of R160 over a live ticket, in their order. -/
def State.placeCheck (pickup : Pickup) (t : Ticket) (s : State) : Option Status :=
  (if t.openOrders < 4 then none else some .ticketLimit).or <|
  (s.pickupCheck pickup t.screen).or <|
  (if s.orders.table.length < 256 then none else some .tableFull)

/-- The first state of an order (the table of R161). -/
def State.firstState (pickup : Pickup) (i : ScreenId) (s : State) : OrderState :=
  match pickup with
  | .now => .queued
  | .atBreak => if !s.orders.released[i] then .held false else if s.orders.fill < 48 then .queued else .held true

/-- The order an accepted PLACE_ORDER enters (R161). -/
def PlaceOrderArgs.order (a : PlaceOrderArgs) (number : Nat) (t : Ticket) (origin : PortId) (st : OrderState) (placedAt : Nat) : Order :=
  { number, ticket := t.number, screen := t.screen, pickup := a.pickup, items := a.items, prep := a.prep, state := st, origin
    placedAt, callsPlayed := 0, lastCallEnd := none, owed := false }

/-- The placed total of a pickup rises by one (R173). -/
def OrderTotals.countPlaced (pickup : Pickup) (t : OrderTotals) : OrderTotals :=
  match pickup with
  | .now => { t with placedNow := inc16 t.placedNow }
  | .atBreak => { t with placedBreak := inc16 t.placedBreak }

/-- Whether an order's state is QUEUED. -/
def OrderState.isQueued : OrderState → Bool
  | .queued => true
  | .held _ | .cooking | .ready _ => false

/-- An order entered in the table, and at the tail of the kitchen queue when it is QUEUED (R157, R161). -/
def OrderUnit.place (o : Order) (u : OrderUnit) : OrderUnit :=
  { u with
    table := u.table ++ [o], seq := o.number % 999 + 1, totals := u.totals.countPlaced o.pickup
    kitchen := if o.state.isQueued then u.kitchen ++ [o.number] else u.kitchen }

/-- The effects of an accepted PLACE_ORDER (R161, R162, R4). -/
def State.placeOrder (o : Order) (s : State) : State :=
  let before := s.orders.fill
  let s := (s.modOrders (·.place o)).modTicket o.ticket fun t => { t with openOrders := t.openOrders + 1 }
  s.postCrossings before

/-- The quoted wait of a new order: computed when it is QUEUED, else 0 (R161). -/
def State.quoteOf (st : OrderState) (s : State) : Nat := if st.isQueued then s.orders.quote else 0

/-- Whether an order's state is HELD with release pending. -/
def OrderState.isPending : OrderState → Bool
  | .held p => p
  | .queued | .cooking | .ready _ => false

/-- PLACE_ORDER at the Order Unit. The reply gives the release pending mark as one byte whatever the first state, 0 when it is QUEUED (DESIGN
CHOICE, log 12: R156 has the mark in HELD only, and R161 does not say how the reply gives it then). -/
def State.placeOrderBody (p : PortId) (a : PlaceOrderArgs) (s : State) : State × Reply :=
  match s.ticket? a.ticket with
  | none => (s, .refuse .noSuchTicket)
  | some t =>
    match s.placeCheck a.pickup t with
    | some e => (s, .refuse e)
    | none =>
      let o := a.order s.nextOrderNumber t p (s.firstState a.pickup t.screen) s.nightClock
      let s := s.placeOrder o
      (s, .ok (u16 o.number ++ o.state.byte ++ flagByte o.state.isPending ++ u16 (s.quoteOf o.state)))

/-- PLACE_ORDER (R160). -/
def execPlaceOrder (p : PortId) (tag : Byte) (payload : List Byte) (s : State) : Host.Outcome State Fault Refusal :=
  serve p 0x30 tag payload rolesGK (lengthIs 5) (ranged placeOrderArgs (State.placeOrderBody p)) s

/-! ### TAKE_ORDER (R165) -/

/-- The head of the kitchen queue taken: COOKING, one service step, the crossings (R162, R164, R165). -/
def State.takeOrder (n : Nat) (s : State) : State :=
  let before := s.orders.fill
  let s := (s.modOrders fun u => { u with kitchen := u.kitchen.tail }).modOrder n fun o => { o with state := .cooking }
  s.serviceStep.postCrossings before

/-- The order a TAKE_ORDER answers, with the fill after the handling. -/
def Order.takenBytes (fill : Nat) (o : Order) : List Byte :=
  u16 o.number ++ u16 o.ticket ++ u8 o.screen.val ++ enumByte pickupNames o.pickup ++ u8 o.items ++ u8 o.prep ++ u8 o.origin.val ++
    u16 o.placedAt ++ u8 fill

/-- TAKE_ORDER at the Order Unit. Every number in the queue names a live order (R158); the last case closes the match. -/
def State.takeOrderBody (_ : List Byte) (s : State) : State × Reply :=
  match s.orders.kitchen with
  | [] => (s, .refuse .queueEmpty)
  | n :: _ =>
    match s.order? n with
    | some o =>
      let s := s.takeOrder n
      (s, .ok (o.takenBytes s.orders.fill))
    | none => (s, .refuse .queueEmpty)

/-- TAKE_ORDER (R165). -/
def execTakeOrder (p : PortId) (tag : Byte) (payload : List Byte) (s : State) : Host.Outcome State Fault Refusal :=
  serve p 0x2D tag payload rolesK (lengthIs 0) State.takeOrderBody s

/-! ### MARK_READY (R166), COLLECT_ORDER and CANCEL_ORDER (R170) -/

/-- Whether an order is COOKING. -/
def Order.isCooking (o : Order) : Bool := match o.state with | .cooking => true | _ => false

/-- A COOKING order made READY on the shelf, its call asked for (R131, R166). -/
def State.makeReady (o : Order) (s : State) : State :=
  let s := (s.modOrder o.number fun r => { r with state := .ready s.nightClock }).modOrders fun u => { u with shelf := u.shelf ++ [o.number] }
  s.enqueueCall o.screen o.number

/-- Whether an order is marked owed. -/
def State.isOwed (n : Nat) (s : State) : Bool := match s.order? n with | some o => o.owed | none => false

/-- MARK_READY at the Order Unit: whether the call was queued (0) or the order owed (1) is answered (log 12). -/
def State.markReadyBody (number : Nat) (s : State) : State × Reply :=
  match s.order? number with
  | none => (s, .refuse .noSuchOrder)
  | some o =>
    if o.isCooking then
      let t := s.makeReady o
      (t.startAll, .ok (u16 s.nightClock ++ flagByte (t.isOwed number)))
    else (s, .refuse .orderState)

/-- MARK_READY (R166). -/
def execMarkReady (p : PortId) (tag : Byte) (payload : List Byte) (s : State) : Host.Outcome State Fault Refusal :=
  serve p 0x2E tag payload rolesK (lengthIs 2) (ranged orderArg State.markReadyBody) s

/-- COLLECT_ORDER at the Order Unit. -/
def State.collectOrderBody (number : Nat) (s : State) : State × Reply :=
  match s.order? number with
  | none => (s, .refuse .noSuchOrder)
  | some o =>
    if o.isReady then ((s.removeOrders .collected [o]).startAll, .ok (u16 o.ticket ++ u8 o.callsPlayed)) else (s, .refuse .orderState)

/-- COLLECT_ORDER (R170). -/
def execCollectOrder (p : PortId) (tag : Byte) (payload : List Byte) (s : State) : Host.Outcome State Fault Refusal :=
  serve p 0x2F tag payload rolesK (lengthIs 2) (ranged orderArg State.collectOrderBody) s

/-- CANCEL_ORDER at the Order Unit: the state the order was in is answered. -/
def State.cancelOrderBody (number : Nat) (s : State) : State × Reply :=
  match s.order? number with
  | none => (s, .refuse .noSuchOrder)
  | some o => ((s.removeOrders .request [o]).startAll, .ok o.state.byte)

/-- CANCEL_ORDER (R170). -/
def execCancelOrder (p : PortId) (tag : Byte) (payload : List Byte) (s : State) : Host.Outcome State Fault Refusal :=
  serve p 0x31 tag payload rolesGK (lengthIs 2) (ranged orderArg State.cancelOrderBody) s

/-! ### Reports (R174) -/

/-- The ready-at value, in READY only. -/
def Order.readyAt? (o : Order) : Option Nat := match o.state with | .ready a => some a | _ => none

/-- The release-pending mark, in HELD only. -/
def Order.pending? (o : Order) : Option Bool := match o.state with | .held p => some p | _ => none

/-- The index of an order in the collection its state names; the COOKING set has no order (R158, R174). -/
def OrderUnit.placeOf? (o : Order) (u : OrderUnit) : Option Nat :=
  match o.state with
  | .held _ => some (((u.heldList o.screen).map (·.number)).idxOf o.number)
  | .queued => some (u.kitchen.idxOf o.number)
  | .cooking => none
  | .ready _ => some (u.shelf.idxOf o.number)

/-- Every field of an order record in the order of R156, then its place (R174, log 12). -/
def OrderUnit.orderBytes (o : Order) (u : OrderUnit) : List Byte :=
  u16 o.number ++ u16 o.ticket ++ u8 o.screen.val ++ enumByte pickupNames o.pickup ++ u8 o.items ++ u8 o.prep ++ o.state.byte ++
    u8 o.origin.val ++ u16 o.placedAt ++ optBytes u16 o.readyAt? ++ u8 o.callsPlayed ++ optBytes u16 o.lastCallEnd ++ flagByte o.owed ++
    optBytes flagByte o.pending? ++ optBytes u8 (u.placeOf? o)

/-- ORDER_QUERY at the Order Unit. -/
def State.orderQueryBody (number : Nat) (s : State) : State × Reply :=
  match s.order? number with
  | some o => (s, .ok (s.orders.orderBytes o))
  | none => (s, .refuse .noSuchOrder)

/-- ORDER_QUERY (R174). -/
def execOrderQuery (p : PortId) (tag : Byte) (payload : List Byte) (s : State) : Host.Outcome State Fault Refusal :=
  serve p 0x32 tag payload rolesAll (lengthIs 2) (ranged orderArg State.orderQueryBody) s

/-- The totals of R173 in the order of its table. -/
def OrderTotals.bytes (t : OrderTotals) : List Byte :=
  u16 t.placedNow ++ u16 t.placedBreak ++ u16 t.collected ++ u16 t.voided ++ u16 t.departed ++ u16 t.showEnded ++ u16 t.request ++
    u16 t.expired

/-- The part of KITCHEN_REPORT for one screen. -/
def State.screenOrderBytes (s : State) (i : ScreenId) : List Byte :=
  let held := s.orders.heldList i
  u16 held.length ++ u16 (held.countP Order.isPending) ++ flagByte s.orders.released[i] ++ enumByte openClosed (s.calls[i]).orderWindow

/-- KITCHEN_REPORT at the Order Unit (R174, log 12). -/
def State.kitchenReportBody (_ : List Byte) (s : State) : State × Reply :=
  let u := s.orders
  (s, .ok (u8 u.fill ++ listBytes u16 u.kitchen ++ u16 (u.table.countP Order.isCooking) ++ u16 (u.table.countP Order.isReady) ++
    u16 (u.table.countP (·.owed)) ++ [0, 1, 2, 3].flatMap s.screenOrderBytes ++ u8 u.pointer.val ++ u16 u.seq ++ u.settings.bytes ++
    u.totals.bytes))

/-- KITCHEN_REPORT (R174). -/
def execKitchenReport (p : PortId) (tag : Byte) (payload : List Byte) (s : State) : Host.Outcome State Fault Refusal :=
  serve p 0x33 tag payload rolesAll (lengthIs 0) State.kitchenReportBody s

end Sys2Proof.Machine
end

