-- ==== Sys2Proof/Machine/Ports.lean ====
section
/-! DEFINITION. The requests and events of the Station Port Unit (11_station_ports.md). -/

namespace Sys2Proof.Machine

/-! ### PORT_QUERY (R194) -/

/-- The parser state reported; of a parser that holds a complete request, the free value (log 9). -/
def Port.phase (q : Port) : ParserPhase :=
  if q.held.isSome then Config.phaseWhileHolding
  else match q.parser with
    | .hunt => .hunt
    | .length => .length
    | .body _ _ => .body

/-- The line rate in baud (R185). -/
def Port.rate (q : Port) : Nat := if q.fast then 460800 else 115200

/-- The counts of R194 in the order of its table. -/
def PortCounts.bytes (c : PortCounts) : List Byte :=
  u16 c.taken ++ u16 c.refused ++ u16 c.check ++ u16 c.abandoned ++ u16 c.hunted ++ u16 c.line ++ u16 c.overruns

/-- A port as PORT_QUERY gives it; a level is 1 while its line is asserted (log 12). -/
def Port.bytes (q : Port) : List Byte :=
  enumByte roleNames q.role ++ u32 q.rate ++ enumByte phaseNames q.phase ++ u16 q.rxFill ++ u16 q.tx.length ++ flagByte q.holdOut ++
    flagByte q.holdIn ++ flagByte q.outstanding ++ q.counts.bytes

/-- PORT_QUERY at a port; of the port that sends it, the figures count the query itself as taken and outstanding (log 14). -/
def State.portQueryBody (n : PortId) (s : State) : State × Reply := (s, .ok (s.ports[n]).bytes)

/-- PORT_QUERY (R194). -/
def execPortQuery (p : PortId) (tag : Byte) (payload : List Byte) (s : State) : Host.Outcome State Fault Refusal :=
  serve p 0x39 tag payload rolesAll (lengthIs 1) (ranged (indexArg 3) State.portQueryBody) s

/-! ### UNKNOWN_REQUEST (R192) -/

/-- A taken request whose code names no request: refused by the port's first check, whatever its role and length. -/
def State.refuseUnknown (p : PortId) (code tag : Byte) (payload : List Byte) (s : State) : State :=
  match (s.ports[p]).offer s.startup { code, tag, payload } with
  | .absent => s
  | .waits q => s.modPort p fun _ => q
  | .taken q => (s.modPort p fun _ => q).refuseAtPort p code tag .unknownRequest

/-- UNKNOWN_REQUEST (R192); a code that names a request is no occurrence of this row (log 2). -/
def execUnknownRequest (p : PortId) (code tag : Byte) (payload : List Byte) (s : State) : Host.Outcome State Fault Refusal :=
  .next (if knownCode code then s else s.refuseUnknown p code tag payload)

/-! ### Bytes and lines -/

/-- PORT_BYTE_RECEIVED (R187, R189). -/
def execPortByteReceived (p : PortId) (byte : Byte) (stopHigh : Bool) (s : State) : Host.Outcome State Fault Refusal :=
  .next (s.modPort p (·.receive byte stopHigh))

/-- GAP_TIMER_EXPIRY (R187). -/
def execGapTimerExpiry (p : PortId) (s : State) : Host.Outcome State Fault Refusal := .next (s.modPort p Port.gapExpiry)

/-- PARSER_TAKE (R188); nothing is taken during the start-up hold (R190). -/
def execParserTake (p : PortId) (s : State) : Host.Outcome State Fault Refusal :=
  .next (if s.startup then s else s.modPort p Port.parserTake)

/-- REPLY_BYTE_SENT (R193). -/
def execReplyByteSent (p : PortId) (s : State) : Host.Outcome State Fault Refusal := .next (s.modPort p Port.byteSent)

/-- HOLD_IN_CHANGE (R193). -/
def execHoldInChange (p : PortId) (asserted : Bool) (s : State) : Host.Outcome State Fault Refusal :=
  .next (s.modPort p (·.setHoldIn asserted))

end Sys2Proof.Machine
end

