-- ==== Sys2Proof/Machine/Shows.lean ====
section
/-! DEFINITION. The requests and events of the Show Clock Unit (03_show_clocks_and_frame_monitoring.md). -/

namespace Sys2Proof.Machine

/-! ### SET_SCREEN (R49) -/

/-- The settings of a screen as SET_SCREEN is answered, with DELAY_CLAMPED. -/
def ScreenSettings.bytes (t : ScreenSettings) : List Byte :=
  u8 t.rate.fps ++ u16 t.picture ++ u16 t.exciter ++ i16 t.trim ++ enumByte offOn t.holdOnLoss ++ flagByte t.delayClamped

/-- Checks 2 to 4 of R49: a change of rate needs an IDLE or ENDED screen, and frames below the new fps. -/
def State.setScreenCheck (i : ScreenId) (t : ScreenSettings) (s : State) : Option Status :=
  let w := s.shows[i]
  if t.rate = w.settings.rate then none
  else if ¬(w.state = .idle ∨ w.state = .ended) then some .screenState
  else if (s.cues[i]).cues.any fun c => t.rate.fps ≤ c.pos.frame then some .range
  else if t.rate.fps ≤ w.clock.frame then some .range
  else none

/-- A change of rate at the frame monitor: P_last, e and the reference set (R49, R50). -/
def FrameMonitor.changeRate (r : Rate) (m : FrameMonitor) : FrameMonitor :=
  { m with pLast := r.pNom, e := r.stallLimit, reference := .stale }

/-- The settings replaced (R49). -/
def Show.setScreen (t : ScreenSettings) (w : Show) : Show :=
  { w with settings := t, monitor := if t.rate = w.settings.rate then w.monitor else w.monitor.changeRate t.rate }

/-- SET_SCREEN at the Show Clock Unit, the delay quantities formed anew at the Alignment Unit (R49, R107, R108). -/
def State.setScreenBody (a : ScreenId × ScreenSettings) (s : State) : State × Reply :=
  match s.setScreenCheck a.1 a.2 with
  | some e => (s, .refuse e)
  | none => ((s.modShow a.1 (·.setScreen a.2)).modAlign a.1 (·.setDelay a.2), .ok a.2.bytes)

/-- SET_SCREEN (R49). -/
def execSetScreen (p : PortId) (tag : Byte) (payload : List Byte) (s : State) : Host.Outcome State Fault Refusal :=
  serve p 0x12 tag payload rolesB (lengthIs 9) (ranged setScreenArgs State.setScreenBody) s

/-! ### ARM_SHOW (R57) and START_SHOW (R58) -/

/-- ARM_SHOW at the frame monitor: e runs on (R50, R57). -/
def FrameMonitor.arm (r : Rate) (m : FrameMonitor) : FrameMonitor :=
  { m with pLast := r.pNom, reference := .stale, glitches := 0, late := 0 }

/-- ARM_SHOW at the show clock and the screen record. -/
def Show.arm (w : Show) : Show :=
  { w with
    monitor := w.monitor.arm w.settings.rate, clock := { second := 0, frame := 0 }, state := .armed, startPending := false
    holdReason := none, framesStopped := false, clockLimit := false, losses := 0 }

/-- ARM_SHOW at the alignment record (R112). -/
def Align.arm (a : Align) : Align := { a.flushed with mode := .muted, lastSlip := none, counts := .zero }

/-- The changes of an accepted ARM_SHOW in the blocks that R57 lists. -/
def State.armShow (i : ScreenId) (s : State) : State :=
  let s := (s.modShow i Show.arm).modCues i CueUnit.rearm
  let s := s.modOrders fun u => { u with released := upd u.released i fun _ => false }
  (s.openIntake i).modAlign i Align.arm

/-- ARM_SHOW at the Show Clock Unit. -/
def State.armShowBody (i : ScreenId) (s : State) : State × Reply :=
  if (s.shows[i]).state = .idle ∨ (s.shows[i]).state = .ended then (s.armShow i, .ok []) else (s, .refuse .screenState)

/-- ARM_SHOW (R57). -/
def execArmShow (p : PortId) (tag : Byte) (payload : List Byte) (s : State) : Host.Outcome State Fault Refusal :=
  serve p 0x13 tag payload rolesB (lengthIs 1) (ranged (indexArg 4) State.armShowBody) s

/-- START_SHOW at the Show Clock Unit (R58). -/
def State.startShowBody (i : ScreenId) (s : State) : State × Reply :=
  if (s.shows[i]).state = .armed then (s.modShow i fun w => { w with startPending := true }, .ok []) else (s, .refuse .screenState)

/-- START_SHOW (R58). -/
def execStartShow (p : PortId) (tag : Byte) (payload : List Byte) (s : State) : Host.Outcome State Fault Refusal :=
  serve p 0x14 tag payload rolesB (lengthIs 1) (ranged (indexArg 4) State.startShowBody) s

/-! ### HOLD_SHOW, RESUME_SHOW, END_SHOW, SCREEN_RESET (R62 to R66) -/

/-- The state and the clock of a screen, as HOLD_SHOW and RESUME_SHOW answer them. -/
def Show.stateBytes (w : Show) : List Byte := enumByte screenStateNames w.state ++ posBytes w.clock

/-- HOLD_SHOW at the Show Clock Unit: in HELD it changes nothing (R62). -/
def State.holdShowBody (i : ScreenId) (s : State) : State × Reply :=
  match (s.shows[i]).state with
  | .running | .lost =>
    let s := s.holdShow i .request
    (s, .ok (s.shows[i]).stateBytes)
  | .held => (s, .ok (s.shows[i]).stateBytes)
  | .idle | .armed | .ended => (s, .refuse .screenState)

/-- HOLD_SHOW (R62). -/
def execHoldShow (p : PortId) (tag : Byte) (payload : List Byte) (s : State) : Host.Outcome State Fault Refusal :=
  serve p 0x15 tag payload rolesB (lengthIs 1) (ranged (indexArg 4) State.holdShowBody) s

/-- Whether a held show waits for its sound (R64). -/
def State.heldForSound (i : ScreenId) (s : State) : Bool :=
  (s.shows[i]).holdReason == some .sound && (s.shows[i]).settings.holdOnLoss && !(s.links[i]).soundUp

/-- RESUME_SHOW at the Show Clock Unit (R64). -/
def State.resumeShowBody (i : ScreenId) (s : State) : State × Reply :=
  if (s.shows[i]).state = .held then
    if s.heldForSound i then (s, .refuse .soundDown)
    else
      let s := s.resumeShow i
      (s, .ok (s.shows[i]).stateBytes)
  else (s, .refuse .screenState)

/-- RESUME_SHOW (R64). -/
def execResumeShow (p : PortId) (tag : Byte) (payload : List Byte) (s : State) : Host.Outcome State Fault Refusal :=
  serve p 0x16 tag payload rolesB (lengthIs 1) (ranged (indexArg 4) State.resumeShowBody) s

/-- END_SHOW at the Show Clock Unit (R65). -/
def State.endShowBody (i : ScreenId) (s : State) : State × Reply :=
  if (s.shows[i]).state.inShow then ((s.endShow i).startAll, .ok (posBytes (s.shows[i]).clock)) else (s, .refuse .screenState)

/-- END_SHOW (R65). -/
def execEndShow (p : PortId) (tag : Byte) (payload : List Byte) (s : State) : Host.Outcome State Fault Refusal :=
  serve p 0x17 tag payload rolesB (lengthIs 1) (ranged (indexArg 4) State.endShowBody) s

/-- The changes of SCREEN_RESET in the blocks that R66 lists: the windows closed, the queue flushed, then the call cut (R134, R138). -/
def State.screenReset (i : ScreenId) (s : State) : State :=
  let s := s.modShow i fun w => { w.leave .idle with startPending := false }
  let s := (s.closeIntake i).setMode i .muted
  let s := (s.closeCalls i).setOrderWindow i false
  ((s.flushQueue i).cutCall i).serveReads

/-- SCREEN_RESET at the Show Clock Unit: the state found is answered. -/
def State.screenResetBody (i : ScreenId) (s : State) : State × Reply :=
  (s.screenReset i, .ok (enumByte screenStateNames (s.shows[i]).state))

/-- SCREEN_RESET (R66). -/
def execScreenReset (p : PortId) (tag : Byte) (payload : List Byte) (s : State) : Host.Outcome State Fault Refusal :=
  serve p 0x18 tag payload rolesB (lengthIs 1) (ranged (indexArg 4) State.screenResetBody) s

/-! ### SCREEN_QUERY (R68) -/

/-- The screen record, clock, monitor and settings as SCREEN_QUERY gives them. -/
def Show.bytes (w : Show) : List Byte :=
  enumByte screenStateNames w.state ++ flagByte w.startPending ++ optBytes (enumByte holdReasonNames) w.holdReason ++
    flagByte w.framesStopped ++ posBytes w.clock ++ flagByte w.clockLimit ++ u8 w.settings.rate.fps ++ u16 w.monitor.pLast ++
    u32 w.monitor.e ++ enumByte referenceNames w.monitor.reference ++ u16 w.monitor.glitches ++ u16 w.monitor.late ++ u16 w.losses ++
    enumByte offOn w.settings.holdOnLoss ++ u16 w.settings.picture ++ u16 w.settings.exciter ++ i16 w.settings.trim

/-- SCREEN_QUERY at the Show Clock Unit. -/
def State.screenQueryBody (i : ScreenId) (s : State) : State × Reply := (s, .ok (s.shows[i]).bytes)

/-- SCREEN_QUERY (R68). -/
def execScreenQuery (p : PortId) (tag : Byte) (payload : List Byte) (s : State) : Host.Outcome State Fault Refusal :=
  serve p 0x19 tag payload rolesAll (lengthIs 1) (ranged (indexArg 4) State.screenQueryBody) s

/-! ### Events -/

/-- FRAME_PULSE (R59), the calls and reads its cues may set going included (R88). -/
def execFramePulse (i : ScreenId) (us : Nat) (s : State) : Host.Outcome State Fault Refusal := .next (s.framePulse i us).startAll

/-- SHOW_MARK_EDGE: in ARMED the effect of START_SHOW, else nothing (R58). -/
def execShowMarkEdge (i : ScreenId) (s : State) : Host.Outcome State Fault Refusal :=
  .next (if (s.shows[i]).state = .armed then s.modShow i fun w => { w with startPending := true } else s)

/-- STALL_TIMER_EXPIRY (R60). -/
def execStallTimerExpiry (i : ScreenId) (s : State) : Host.Outcome State Fault Refusal := .next (s.stallExpiry i)

/-- FRAME_MONITOR_STALL (R52). -/
def execFrameMonitorStall (i : ScreenId) (s : State) : Host.Outcome State Fault Refusal := .next (s.modShow i Show.monitorStall)

end Sys2Proof.Machine
end

