-- ==== Sys2Proof/Machine/System.lean ====
section
/-! DEFINITION. Device reset, its end, and the end of start-up (R127, R185, R190). -/

namespace Sys2Proof.Machine

/-- The filtered level of a loop input, taken with no edge (R27). -/
def Loop.ofLevel (asserted : Bool) : Loop := if asserted then .occupied else .clear

/-- Device reset: every block at its reset values, the loops at the levels found, each hold-in input as it stands (R27, R185). The queue
of waiting commands is the model's own and stays. -/
def State.deviceReset (entryLoops : Vector Bool 4) (exitLoops : Vector Bool 2) (s : State) : State :=
  { State.reset with
    pending := s.pending
    entry := entryLoops.map fun level => EntryLane.reset (Loop.ofLevel level)
    exits := exitLoops.map fun level => ExitLane.reset (Loop.ofLevel level)
    ports := s.ports.map fun q => Port.reset q.holdIn }

/-- DEVICE_RESET (R185). -/
def execDeviceReset (entryLoops : Vector Bool 4) (exitLoops : Vector Bool 2) (s : State) : Host.Outcome State Fault Refusal :=
  .next (s.deviceReset entryLoops exitLoops)

/-- The role that two role straps select (the table of R185). -/
def strapRole (t : Straps) : Role :=
  match t.role1, t.role0 with
  | false, false => .booth
  | false, true => .gate
  | true, false => .kitchen
  | true, true => .service

/-- A port with its straps read (R185). -/
def Port.strap (t : Straps) (q : Port) : Port := { q with role := strapRole t, fast := t.rate }

/-- The first cycle of a link, over what its control line has brought: a send made while a message is arriving waits (R146, R149). -/
def State.firstCycle (e : ResetEnd) (i : ScreenId) (s : State) : State := (s.modLink i (·.hear e.heard[i])).cycle i

/-- The end of device reset: straps read, the first cycle of every link made, the blink timebase at the start of a cycle (R149, R177,
R185). -/
def State.endReset (e : ResetEnd) (s : State) : State :=
  let s := { s with inReset := false, blink := some 0 }
  let s := ((s.modPort 0 (·.strap e.straps[0])).modPort 1 (·.strap e.straps[1])).modPort 2 (·.strap e.straps[2])
  (((s.firstCycle e 0).firstCycle e 1).firstCycle e 2).firstCycle e 3

/-- END_OF_DEVICE_RESET (R185); outside device reset it does not occur (log 2). -/
def execEndOfDeviceReset (e : ResetEnd) (s : State) : Host.Outcome State Fault Refusal :=
  .next (if s.inReset then s.endReset e else s)

/-- The start-up read completes: the directory set, the start-up hold ended at every port (R127, R190). -/
def State.startupDone (header : List Byte) (s : State) : State :=
  let s := { s.modDir (·.complete header) with startup := false }
  (((s.modPort 0 Port.endStartupHold).modPort 1 Port.endStartupHold).modPort 2 Port.endStartupHold).startAll

/-- STARTUP_DIRECTORY_READ_DONE (R190); before the end of device reset and outside start-up it does not occur (R127, log 2). -/
def execStartupDirectoryReadDone (header : List Byte) (s : State) : Host.Outcome State Fault Refusal :=
  .next (if s.startup && !s.inReset then s.startupDone header else s)

end Sys2Proof.Machine
end

