-- ==== Sys2Proof/Machine/Dispatch.lean ====
section
/-! DEFINITION. One arm for each command: the direct call of its meaning. -/

namespace Sys2Proof.Machine

def exec (i : Instr) (s : State) : Host.Outcome State Fault Refusal :=
  match i with
  | .deviceReset entryLoops exitLoops => Sys2Proof.Machine.execDeviceReset entryLoops exitLoops s
  | .startupDirectoryReadDone header => Sys2Proof.Machine.execStartupDirectoryReadDone header s
  | .admitCar p tag payload => Sys2Proof.Machine.execAdmit p tag payload s
  | .depart p tag payload => Sys2Proof.Machine.execDepart p tag payload s
  | .passSet p tag payload => Sys2Proof.Machine.execPassSet p tag payload s
  | .setZone p tag payload => Sys2Proof.Machine.execSetZone p tag payload s
  | .entryOpen p tag payload => Sys2Proof.Machine.execEntryOpen p tag payload s
  | .entryClose p tag payload => Sys2Proof.Machine.execEntryClose p tag payload s
  | .closeNight p tag payload => Sys2Proof.Machine.execCloseNight p tag payload s
  | .ticketQuery p tag payload => Sys2Proof.Machine.execTicketQuery p tag payload s
  | .passQuery p tag payload => Sys2Proof.Machine.execPassQuery p tag payload s
  | .zoneReport p tag payload => Sys2Proof.Machine.execZoneReport p tag payload s
  | .nightReport p tag payload => Sys2Proof.Machine.execNightReport p tag payload s
  | .setLane p tag payload => Sys2Proof.Machine.execSetLane p tag payload s
  | .laneOpen p tag payload => Sys2Proof.Machine.execLaneOpen p tag payload s
  | .laneClose p tag payload => Sys2Proof.Machine.execLaneClose p tag payload s
  | .cancelAdmit p tag payload => Sys2Proof.Machine.execCancelAdmit p tag payload s
  | .laneReset p tag payload => Sys2Proof.Machine.execLaneReset p tag payload s
  | .gateReport p tag payload => Sys2Proof.Machine.execGateReport p tag payload s
  | .setScreen p tag payload => Sys2Proof.Machine.execSetScreen p tag payload s
  | .armShow p tag payload => Sys2Proof.Machine.execArmShow p tag payload s
  | .startShow p tag payload => Sys2Proof.Machine.execStartShow p tag payload s
  | .holdShow p tag payload => Sys2Proof.Machine.execHoldShow p tag payload s
  | .resumeShow p tag payload => Sys2Proof.Machine.execResumeShow p tag payload s
  | .endShow p tag payload => Sys2Proof.Machine.execEndShow p tag payload s
  | .screenReset p tag payload => Sys2Proof.Machine.execScreenReset p tag payload s
  | .screenQuery p tag payload => Sys2Proof.Machine.execScreenQuery p tag payload s
  | .loadCue p tag payload => Sys2Proof.Machine.execLoadCue p tag payload s
  | .deleteCue p tag payload => Sys2Proof.Machine.execDeleteCue p tag payload s
  | .clearCues p tag payload => Sys2Proof.Machine.execClearCues p tag payload s
  | .cueQuery p tag payload => Sys2Proof.Machine.execCueQuery p tag payload s
  | .setSound p tag payload => Sys2Proof.Machine.execSetSound p tag payload s
  | .intakeQuery p tag payload => Sys2Proof.Machine.execIntakeQuery p tag payload s
  | .alignQuery p tag payload => Sys2Proof.Machine.execAlignQuery p tag payload s
  | .clipRescan p tag payload => Sys2Proof.Machine.execClipRescan p tag payload s
  | .clipRescanDone header => Sys2Proof.Machine.execClipRescanDone header s
  | .announce p tag payload => Sys2Proof.Machine.execAnnounce p tag payload s
  | .setCalls p tag payload => Sys2Proof.Machine.execSetCalls p tag payload s
  | .callsOpen p tag payload => Sys2Proof.Machine.execCallsOpen p tag payload s
  | .callsClose p tag payload => Sys2Proof.Machine.execCallsClose p tag payload s
  | .ordersOpen p tag payload => Sys2Proof.Machine.execOrdersOpen p tag payload s
  | .ordersClose p tag payload => Sys2Proof.Machine.execOrdersClose p tag payload s
  | .callQuery p tag payload => Sys2Proof.Machine.execCallQuery p tag payload s
  | .clipQuery p tag payload => Sys2Proof.Machine.execClipQuery p tag payload s
  | .setExciter p tag payload => Sys2Proof.Machine.execSetExciter p tag payload s
  | .exciterQuery p tag payload => Sys2Proof.Machine.execExciterQuery p tag payload s
  | .setKitchen p tag payload => Sys2Proof.Machine.execSetKitchen p tag payload s
  | .takeOrder p tag payload => Sys2Proof.Machine.execTakeOrder p tag payload s
  | .markReady p tag payload => Sys2Proof.Machine.execMarkReady p tag payload s
  | .collectOrder p tag payload => Sys2Proof.Machine.execCollectOrder p tag payload s
  | .placeOrder p tag payload => Sys2Proof.Machine.execPlaceOrder p tag payload s
  | .cancelOrder p tag payload => Sys2Proof.Machine.execCancelOrder p tag payload s
  | .orderQuery p tag payload => Sys2Proof.Machine.execOrderQuery p tag payload s
  | .kitchenReport p tag payload => Sys2Proof.Machine.execKitchenReport p tag payload s
  | .setLamp p tag payload => Sys2Proof.Machine.execSetLamp p tag payload s
  | .lampQuery p tag payload => Sys2Proof.Machine.execLampQuery p tag payload s
  | .readEvents p tag payload => Sys2Proof.Machine.execReadEvents p tag payload s
  | .clearEvents p tag payload => Sys2Proof.Machine.execClearEvents p tag payload s
  | .setAttention p tag payload => Sys2Proof.Machine.execSetAttention p tag payload s
  | .portQuery p tag payload => Sys2Proof.Machine.execPortQuery p tag payload s
  | .unknownRequest p code tag payload => Sys2Proof.Machine.execUnknownRequest p code tag payload s
  | .nightClockAdvance => Sys2Proof.Machine.execNightClockAdvance s
  | .entryLoopRise n => Sys2Proof.Machine.execEntryLoopRise n s
  | .entryLoopFall n us => Sys2Proof.Machine.execEntryLoopFall n us s
  | .exitLoopRise n => Sys2Proof.Machine.execExitLoopRise n s
  | .exitLoopFall n => Sys2Proof.Machine.execExitLoopFall n s
  | .passWindowExpiry n => Sys2Proof.Machine.execPassWindowExpiry n s
  | .gapWindowExpiry n => Sys2Proof.Machine.execGapWindowExpiry n s
  | .entryStuckLimitExpiry n => Sys2Proof.Machine.execEntryStuckLimitExpiry n s
  | .longLampTimerExpiry n => Sys2Proof.Machine.execLongLampTimerExpiry n s
  | .exitStuckTimerExpiry n => Sys2Proof.Machine.execExitStuckTimerExpiry n s
  | .framePulse j us => Sys2Proof.Machine.execFramePulse j us s
  | .showMarkEdge j => Sys2Proof.Machine.execShowMarkEdge j s
  | .stallTimerExpiry j => Sys2Proof.Machine.execStallTimerExpiry j s
  | .frameMonitorStall j => Sys2Proof.Machine.execFrameMonitorStall j s
  | .audioBlockArrival j bytes => Sys2Proof.Machine.execAudioBlockArrival j bytes s
  | .holdTimerExpiry j => Sys2Proof.Machine.execHoldTimerExpiry j s
  | .outputInstant j us => Sys2Proof.Machine.execOutputInstant j us s
  | .clipReadComplete bytes => Sys2Proof.Machine.execClipReadComplete bytes s
  | .exciterAck j number flags => Sys2Proof.Machine.execExciterAck j number flags s
  | .exciterStatus j number flags => Sys2Proof.Machine.execExciterStatus j number flags s
  | .exciterBadMessage j => Sys2Proof.Machine.execExciterBadMessage j s
  | .ackTimerExpiry j heard => Sys2Proof.Machine.execAckTimerExpiry j heard s
  | .refreshTimerExpiry j heard => Sys2Proof.Machine.execRefreshTimerExpiry j heard s
  | .settingsSendEnd j => Sys2Proof.Machine.execSettingsSendEnd j s
  | .portByteReceived p byte stopHigh => Sys2Proof.Machine.execPortByteReceived p byte stopHigh s
  | .gapTimerExpiry p => Sys2Proof.Machine.execGapTimerExpiry p s
  | .parserTake p => Sys2Proof.Machine.execParserTake p s
  | .replyByteSent p => Sys2Proof.Machine.execReplyByteSent p s
  | .holdInChange p asserted => Sys2Proof.Machine.execHoldInChange p asserted s
  | .blinkPhaseChange => Sys2Proof.Machine.execBlinkPhaseChange s
  | .endOfDeviceReset e => Sys2Proof.Machine.execEndOfDeviceReset e s
  | .statusAckSendEnd j => Sys2Proof.Machine.execStatusAckSendEnd j s

end Sys2Proof.Machine
end

