-- ==== Sys2Proof/Machine/Step.lean ====
section
/-! DEFINITION. The step: the command at the front of the queue, or one microsecond of the counters that run on time. -/

namespace Sys2Proof.Machine

/-- One microsecond passes with no command waiting: the frame monitors and the occupancy timers count (R31, R50, log 3). -/
def State.tick (s : State) : State :=
  { s with shows := s.shows.map (·.elapse 1), entry := s.entry.map (·.elapse 1) }

/-- One step: `exec` of the command at the front of the queue, the rest waiting; on an empty queue a microsecond passes (log 2, 3). -/
def step (s : State) : Host.Outcome State Fault Refusal :=
  match s.pending with
  | [] => .next s.tick
  | c :: rest => exec c { s with pending := rest }

/-- The state with the command a word spells put at the front of its queue; unchanged where the word spells none (log 2). -/
def State.withFetchWord (s : State) (nbits w : Nat) : State :=
  match decodeTableWord nbits w with
  | some c => { s with pending := c :: s.pending }
  | none => s

end Sys2Proof.Machine
end

