-- ==== Sys2Proof/WellFormed.lean ====
section
/-! DEFINITION. The commands that can stand for an occurrence: what a frame, a header, a clip read and the queue can hold. -/

namespace Sys2Proof

open Sys2Proof.Machine

/-- The payload of a request fits a frame: its length byte is at most 250 and counts code and tag (R186). -/
def payloadFits (payload : List Byte) : Bool := payload.length ≤ 248

/-- A command whose operands an occurrence of its row can have. -/
def Instr.wellFormed : Instr → Bool
  | .startupDirectoryReadDone header | .clipRescanDone header => header.length == 229
  | .clipReadComplete bytes => 2 ≤ bytes.length && bytes.length ≤ 480 && bytes.length % 2 == 0
  | .exciterAck m _ _ | .exciterStatus m _ _ | .exciterBadMessage m => !m.heard.isEmpty
  | .setExciter _ _ payload => payloadFits payload.bytes
  | .unknownRequest _ code _ payload => !knownCode code && payloadFits payload
  | .admitCar _ _ payload | .depart _ _ payload | .passSet _ _ payload | .setZone _ _ payload | .entryOpen _ _ payload
  | .entryClose _ _ payload | .closeNight _ _ payload | .ticketQuery _ _ payload | .passQuery _ _ payload | .zoneReport _ _ payload
  | .nightReport _ _ payload | .setLane _ _ payload | .laneOpen _ _ payload | .laneClose _ _ payload | .cancelAdmit _ _ payload
  | .laneReset _ _ payload | .gateReport _ _ payload | .setScreen _ _ payload | .armShow _ _ payload | .startShow _ _ payload
  | .holdShow _ _ payload | .resumeShow _ _ payload | .endShow _ _ payload | .screenReset _ _ payload | .screenQuery _ _ payload
  | .loadCue _ _ payload | .deleteCue _ _ payload | .clearCues _ _ payload | .cueQuery _ _ payload | .setSound _ _ payload
  | .intakeQuery _ _ payload | .alignQuery _ _ payload | .clipRescan _ _ payload | .announce _ _ payload | .setCalls _ _ payload
  | .callsOpen _ _ payload | .callsClose _ _ payload | .ordersOpen _ _ payload | .ordersClose _ _ payload | .callQuery _ _ payload
  | .clipQuery _ _ payload | .exciterQuery _ _ payload | .setKitchen _ _ payload | .takeOrder _ _ payload
  | .markReady _ _ payload | .collectOrder _ _ payload | .placeOrder _ _ payload | .cancelOrder _ _ payload | .orderQuery _ _ payload
  | .kitchenReport _ _ payload | .setLamp _ _ payload | .lampQuery _ _ payload | .readEvents _ _ payload | .clearEvents _ _ payload
  | .setAttention _ _ payload | .portQuery _ _ payload => payloadFits payload
  | .deviceReset _ _ | .nightClockAdvance | .entryLoopRise _ | .entryLoopFall _ _ | .exitLoopRise _ | .exitLoopFall _
  | .passWindowExpiry _ | .gapWindowExpiry _ | .entryStuckLimitExpiry _ | .longLampTimerExpiry _ | .exitStuckTimerExpiry _
  | .framePulse _ _ | .showMarkEdge _ | .stallTimerExpiry _ | .frameMonitorStall _ | .audioBlockArrival _ _ | .holdTimerExpiry _
  | .outputInstant _ _ | .ackTimerExpiry _ _
  | .refreshTimerExpiry _ _ | .settingsSendEnd _ | .portByteReceived _ _ _ | .gapTimerExpiry _ | .parserTake _ | .replyByteSent _
  | .holdInChange _ _ | .blinkPhaseChange | .endOfDeviceReset _ | .statusAckSendEnd _ => true

end Sys2Proof
end

