-- ==== Sys2Proof/Safety.lean ====
section
/-! DEFINITION. The terms in which statements are made: a request that its port takes, the reply it gets, and the laws that the manual says
hold after every handling. -/

namespace Sys2Proof.Machine

/-! ### Requests -/

/-- The two conditions of R191 with the request at the port: held complete by the parser, or arriving at a port at rest (log 1). -/
def Port.takes (r : Request) (q : Port) : Bool :=
  q.canTake && match q.held with
    | some h => h == r
    | none => q.atRest && decide (r.payload.length ≤ 248)

/-- The port once it has taken a request: no longer holding it, the request outstanding and counted (R185, R194). -/
def Port.afterTake (q : Port) : Port :=
  { q with
    held := none, outstanding := true, counts := { q.counts with taken := inc16 q.counts.taken }
    gapTimer := if q.held.isSome then q.gapTimer else some 5
    lastBreak := q.held.isSome && q.lastBreak }

/-- The part once port `p` has taken a request. -/
def State.taken (p : PortId) (s : State) : State := s.modPort p Port.afterTake

/-- A request stands at port `p`, past start-up, and is taken; the port's role is one of `may`. -/
def State.accepts (p : PortId) (r : Request) (may : List Role) (s : State) : Bool :=
  !s.startup && (s.ports[p]).takes r && may.contains (s.ports[p]).role

/-- The part with an OK reply of a payload joined to port `p`'s reply FIFO, its request answered (R193). -/
def State.replied (p : PortId) (code tag : Byte) (payload : List Byte) (s : State) : State := s.answer p code tag (.ok payload)

/-- The part with a refusal joined to port `p`'s reply FIFO, its request answered and nothing else changed (R193). -/
def State.refusedWith (p : PortId) (code tag : Byte) (status : Status) (s : State) : State := s.answer p code tag (.refuse status)

/-- The pass number bytes of an ADMIT, carried when the payment is PASS (R9, R197). -/
def Payment.passBytes : Payment → List Byte
  | .pass n => u16 n
  | .paid | .comp => []

/-- The pass number of a payment lies within 0..4095 (R9). -/
def Payment.inRange : Payment → Prop
  | .pass n => n ≤ 4095
  | .paid | .comp => True

/-- The parts that the cancelling of orders, with the calls it may set going, leaves as they were: all but the tickets, the used map, the
zones, the totals, the entry lanes, the orders, the calls, the clip reader and the ports. -/
def State.sameButGate (s u : State) : Prop :=
  u = { s with
    tickets := u.tickets, used := u.used, zones := u.zones, totals := u.totals, entry := u.entry, orders := u.orders, calls := u.calls
    reader := u.reader, ports := u.ports }

/-- The three ports after a handling that answers at port `p` with a status and a payload, flags and attention lines apart. -/
def State.answeredAt (p : PortId) (code tag : Byte) (status : Status) (payload : List Byte) (s u : State) : Prop :=
  ∀ j : PortId, ∃ flags attention,
    u.ports[j] = { (s.taken p |>.modPort p (·.reply (replyFrame code tag status.code payload))).ports[j] with flags, attention }

/-- The three ports after a handling that answers none, flags and attention lines apart. -/
def State.portsKept (s u : State) : Prop := ∀ j : PortId, ∃ flags attention, u.ports[j] = { s.ports[j] with flags, attention }

/-- The flag of a kind stands as before at every port. -/
def State.flagKept (k : EventKind) (s u : State) : Prop := ∀ j : PortId, (u.ports[j]).flag k = (s.ports[j]).flag k

/-- The flag of a kind as one post leaves it at every port (R180). -/
def State.flagPosted (k : EventKind) (d : Detail) (s u : State) : Prop :=
  ∀ j : PortId, (u.ports[j]).flag k = { state := .pending, count := min 255 (((s.ports[j]).flag k).count + 1), detail := some d }

/-- Every flag but those of the kinds named stands as before at every port. -/
def State.flagsKeptBut (kinds : List EventKind) (s u : State) : Prop := ∀ k : EventKind, k ∉ kinds → s.flagKept k u

/-- The bytes of the night totals in the order of R19. -/
def totalsBytes (t : NightTotals) : List Byte :=
  t.admitted.toList.flatMap u16 ++ u16 t.paid ++ u16 t.pass ++ u16 t.comp ++ t.committed.toList.flatMap u16 ++
    t.occupants.toList.flatMap u32 ++ t.voided.toList.flatMap u16 ++ t.departed.toList.flatMap u16

/-- The Admission Table after the commit of a live ticket with a class (R12, R19). -/
def State.withCommit (t : Ticket) (cls : VehicleClass) (s : State) : State :=
  { s with
    tickets := s.tickets.map fun r => if r.number = t.number then { r with state := .present cls s.nightClock } else r
    zones := upd s.zones t.screen fun z =>
      { z with pending := z.pending - 1, present := z.present + 1, long := if cls = .long then z.long + 1 else z.long }
    totals := { s.totals with
      committed := upd s.totals.committed t.screen inc16
      occupants := upd s.totals.occupants t.screen fun k => min 1048575 (k + t.party) } }

/-! ### Calls and shows -/

/-- The owed orders of a screen, in the order in which they stand on the ready shelf (R132). -/
def State.owedNow (i : ScreenId) (s : State) : List Nat :=
  (s.orders.shelf.filter fun n => (s.order? n).any fun o => o.owed && o.screen == i).eraseDups

/-- The Order Unit with the owed marks of the orders numbered cleared (R132). -/
def OrderUnit.unowed (numbers : List Nat) (b : OrderUnit) : OrderUnit :=
  { b with table := b.table.map fun o => if o.number ∈ numbers then { o with owed := false } else o }

/-- A call unit as before but for what the clip reader does to the requests of the call in its slot (R141). -/
def CallUnit.sameButReads (c u : CallUnit) : Prop :=
  u = { c with slot := u.slot } ∧ (c.slot = none → u.slot = none) ∧
    ∀ q, c.slot = some q → ∃ nextRead readPending, u.slot = some { q with nextRead, readPending }

/-- The clip sequence of a call as R135 composes it: of an order call the chime (12), "order" (10), the digits of the number from the first
that is not zero and "is ready" (11), of an announcement its clips; those absent from the directory are left out. -/
def CallEntry.composed (e : CallEntry) (d : Directory) : List SeqClip :=
  let clips := match e with
    | .announce clips => clips
    | .orderCall n => [12, 10] ++ (if 100 ≤ n then [n / 100] else []) ++ (if 10 ≤ n then [n / 10 % 10] else []) ++ [n % 10, 11]
  clips.filterMap fun id => (d.entries.toList[id]?.getD none).map fun clip => { id, clip }

/-- A call unit `u` that is `c` but for a call having entered the slot: a lead of 480 instants ahead of it, nothing of its sequence played,
the settings latched, the duck state and the queue left behind it as given; at most its first block has been granted (R135, R137, R139). -/
def CallUnit.entered (e : CallEntry) (seq : List SeqClip) (m : MixSettings) (d : DuckState) (queue : List CallEntry) (c u : CallUnit) :
    Prop :=
  ∃ nextRead readPending, u = { c with
    queue, duckState := d
    slot := some {
      entry := e, sequence := seq, duck := m.duck, level := m.level, lead := 480, block := 0, sample := 0, skipping := false, buffer := []
      nextRead, readPending } }

/-- What the opening of a screen's call window or the rise of its SOUND_UP leaves, the window and the signal as given: the owed orders that
there is room for join the queue, earliest on the shelf first, and lose their marks; where a call can then start the head enters the slot,
and the owed fill runs again behind it, all its room taken (log 24). The other screens' units are kept (R129, R132, R135, R151). -/
def State.callsResumed (i : ScreenId) (isOpen up : Bool) (s u : State) : Prop :=
  let c := { s.calls[i] with callWindow := isOpen }
  let room := 16 - c.queue.length
  let owed := s.owedNow i
  let queue := c.queue ++ (owed.take room).map CallEntry.orderCall
  let starts := isOpen = true ∧ up = true ∧ s.dir.reading = false ∧ c.slot = none ∧ c.duckState = .up
  (∀ j : ScreenId, j ≠ i → (s.calls[j]).sameButReads u.calls[j]) ∧
  (¬starts ∨ queue = [] → CallUnit.sameButReads { c with queue } u.calls[i] ∧ u.orders = s.orders.unowed (owed.take room)) ∧
  ∀ e rest, starts → queue = e :: rest → e.composed s.dir ≠ [] → (∀ n, e = .orderCall n → n < 1000) →
    let more := (owed.drop room).take (16 - rest.length)
    CallUnit.entered e (e.composed s.dir) c.settings (.rampDown 0) (rest ++ more.map CallEntry.orderCall) c u.calls[i] ∧
      u.orders = s.orders.unowed (owed.take room ++ more)

/-- What the end of a show leaves: the screen ENDED with its pause released, the intake closed and flushed, the sound MUTED, the screen's
HELD orders that are not release pending cancelled, each out of the table and counted, with its ticket's open orders lower and
ORDER_CANCELLED posted, in the order of the held list; then SHOW_ENDED posted (R65, R91, R112, R113, R172). -/
def State.showOver (i : ScreenId) (s : State) : State :=
  let cancelled := s.orders.table.filter fun o => o.screen == i && o.state == .held false
  State.post .showEnded (.screen i) <| cancelled.foldl (fun s o => s.post .orderCancelled (.order o.number))
    { s with
      shows := upd s.shows i fun w =>
        { w with state := .ended, holdReason := none, framesStopped := false, stallTimer := none, pause := false }
      intakes := upd s.intakes i fun k => { k with ring := [], isOpen := false, holdTimer := none }
      aligns := upd s.aligns i fun a => { a with readPoint := 0, repeatTaken := false, mode := .muted }
      tickets := s.tickets.map fun t => { t with openOrders := t.openOrders - cancelled.countP (·.ticket == t.number) }
      orders := { s.orders with
        table := s.orders.table.filter fun o => !(o.screen == i && o.state == .held false)
        totals := { s.orders.totals with showEnded := min 65535 (s.orders.totals.showEnded + cancelled.length) } } }

/-- What a fall of SOUND_UP leaves of a call in a screen's slot: cut and counted, its order owed, the gain ramping up from the gain in
force, and its read in flight left to be discarded; the queue and the window kept, and the other screens' calls playing on (R138, R141). -/
def State.callCut (i : ScreenId) (s u : State) : Prop :=
  let c := s.calls[i]
  u.calls[i] = (if c.slot.isSome then { c with slot := none, duckState := .rampUp c.gain 0, cut := inc16 c.cut } else c) ∧
    u.orders = { s.orders with
      table := s.orders.table.map fun o => if c.slot.any (·.entry == .orderCall o.number) then { o with owed := true } else o } ∧
    (∀ j : ScreenId, j ≠ i → (s.calls[j]).sameButReads u.calls[j]) ∧
    ∀ f, s.reader.inFlight = some f →
      u.reader = { s.reader with inFlight := some { f with live := f.live && !(c.slot.isSome && f.screen == i) } }

/-- A fall of SOUND_UP: SOUND_LOST with its cause, the screen's call cut, and a RUNNING show with hold on sound loss ON held for SOUND; no
other event, and nothing else of the part but its links (R63, R138, R151, R152). -/
def State.soundFell (i : ScreenId) (cause : SoundCause) (s u : State) : Prop :=
  s.flagPosted .soundLost (.sound i cause) u ∧ s.flagsKeptBut [.soundLost, .showHeld] u ∧ s.callCut i u ∧
    u = { s with
      links := u.links, shows := u.shows, orders := u.orders, calls := u.calls, reader := u.reader, ports := u.ports } ∧
    if (s.shows[i]).state = .running ∧ (s.shows[i]).settings.holdOnLoss = true then
      u.shows = (upd s.shows i fun w =>
        { w with state := .held, holdReason := some .sound, pause := true, framesStopped := false }) ∧
        s.flagPosted .showHeld (.held i .sound) u
    else u.shows = s.shows ∧ s.flagKept .showHeld u

/-- A link declared lost: SOUND_LOST with cause LINK, and where SOUND_UP was true its fall; where it was false no other event, and nothing
else of the part but its links (R148, R151, R152). -/
def State.linkLost (i : ScreenId) (s u : State) : Prop :=
  if (s.links[i]).soundUp = true then s.soundFell i .link u
  else s.flagPosted .soundLost (.sound i .link) u ∧ s.flagsKeptBut [.soundLost] u ∧ u = { s with links := u.links, ports := u.ports }

/-- A rise of SOUND_UP: the owed fill and the start of the head call, the show being left as it is, and nothing else of the part but its
links and event flags (R132, R135, R151, R153). -/
def State.soundRose (i : ScreenId) (s u : State) : Prop :=
  s.callsResumed i (s.calls[i]).callWindow true u ∧
    u = { s with links := u.links, orders := u.orders, calls := u.calls, reader := u.reader, ports := u.ports }

/-- The position one frame on. -/
def Pos.succ (fps : Nat) (p : Pos) : Pos :=
  if p.frame + 1 < fps then { second := p.second, frame := p.frame + 1 } else { second := p.second + 1, frame := 0 }

/-- The mode for a block from the mode before and the slip at its start, band by band as the table of R115 gives it. -/
def blockMode (before : AlignMode) (slip : Int) : AlignMode :=
  if 25 ≤ slip then .catchUp
  else if slip ≤ -25 then .holdBack
  else if before = .catchUp ∧ 9 ≤ slip then .catchUp
  else if before = .holdBack ∧ slip ≤ -9 then .holdBack
  else .locked

/-- A post made only under a condition. -/
def State.postIf (c : Bool) (k : EventKind) (d : Detail) (s : State) : State := if c then s.post k d else s

/-- The roles that the request catalogue of 11_station_ports.md lists for a code, by the columns of its rows. -/
def catalogueRoles (code : Nat) : List Role :=
  if code ≤ 0x07 ∨ (0x0C ≤ code ∧ code ≤ 0x10) then [.gate, .service]
  else if (0x12 ≤ code ∧ code ≤ 0x18) ∨ (0x1A ≤ code ∧ code ≤ 0x1C) ∨ code = 0x1E ∨ (0x21 ≤ code ∧ code ≤ 0x25) ∨ code = 0x2A ∨
      code = 0x34 then [.booth, .service]
  else if code = 0x26 ∨ code = 0x27 then [.booth, .kitchen, .service]
  else if 0x2C ≤ code ∧ code ≤ 0x2F then [.kitchen, .service]
  else if code = 0x30 ∨ code = 0x31 then [.gate, .kitchen, .service]
  else [.booth, .gate, .kitchen, .service]

/-- The payload length that agrees with a request's code and, for the five requests of R197, with its selector or count bytes (R192, R195,
R197); absent when the payload is too short to hold that byte. -/
def agreedLength (code : Nat) (payload : List Byte) : Option Nat :=
  if code = 0x01 then payload[2]?.map fun payment => if payment.toNat = 1 then 6 else 4
  else if code = 0x1A then payload[6]?.map fun action =>
    if action.toNat = 0 then 10 else if action.toNat = 10 then 8 else if action.toNat = 11 then 9 else 7
  else if code = 0x22 then payload[1]?.map fun count => 2 + count.toNat
  else if code = 0x34 then payload[1]?.map fun source =>
    if source.toNat = 13 then 6 else if (2 ≤ source.toNat ∧ source.toNat ≤ 12) ∨ source.toNat = 16 then 5 else 4
  else if code = 0x37 then payload[0]?.map fun count => 1 + count.toNat
  else if [0x07, 0x0A, 0x0B, 0x11, 0x21, 0x29, 0x2D, 0x33, 0x35, 0x36].contains code then some 0
  else if [0x05, 0x06, 0x13, 0x14, 0x15, 0x16, 0x17, 0x18, 0x19, 0x1C, 0x1F, 0x20, 0x24, 0x25, 0x26, 0x27, 0x28, 0x2B, 0x39].contains code
    then some 1
  else if [0x02, 0x08, 0x09, 0x0D, 0x0E, 0x0F, 0x10, 0x1B, 0x1D, 0x2E, 0x2F, 0x31, 0x32].contains code then some 2
  else if code = 0x04 then some 3
  else if code = 0x2A ∨ code = 0x38 then some 4
  else if [0x03, 0x1E, 0x23, 0x30].contains code then some 5
  else if code = 0x2C then some 7
  else if code = 0x12 then some 9
  else some 10

/-- Whether the fields of a payload of the agreed length lie in the ranges that the rule of each request gives (R7, R9, R15, R17, R18, R20,
R26, R41, R42, R49, R57, R69, R74, R76, R78, R104, R129, R133, R139, R145, R159, R160, R166, R170, R175, R182, R183, R194): `b k` is the
byte `k` of the payload and `w k` the two bytes from there. What a rule compares with the state besides is stated with the request. -/
def fieldsInRange (code : Nat) (payload : List Byte) : Bool :=
  let b := fun k : Nat => ((payload[k]?).getD 0#8).toNat
  let w := fun k : Nat => b k * 256 + b (k + 1)
  let lane := b 0 = 0 ∧ b 1 < 4 ∨ b 0 = 1 ∧ b 1 < 2
  if code = 0x01 then decide (b 0 < 4 ∧ b 1 < 4 ∧ b 2 ≤ 2 ∧ 1 ≤ b 3 ∧ b 3 ≤ 15 ∧ (b 2 = 1 → w 4 ≤ 4095))
  else if code = 0x02 ∨ code = 0x08 ∨ code = 0x0F then decide (1 ≤ w 0)
  else if code = 0x03 then decide (w 0 ≤ w 2 ∧ w 2 ≤ 4095 ∧ b 4 ≤ 1)
  else if code = 0x04 then decide (b 0 < 4 ∧ w 1 ≤ 2048)
  else if [0x05, 0x06, 0x13, 0x14, 0x15, 0x16, 0x17, 0x18, 0x19, 0x1C, 0x1F, 0x20, 0x24, 0x25, 0x26, 0x27, 0x28, 0x2B].contains code
    then decide (b 0 < 4)
  else if code = 0x09 then decide (w 0 ≤ 4095)
  else if code = 0x0C then decide (lane ∧ 5 ≤ w 2 ∧ w 2 ≤ 255 ∧ 200 ≤ w 4 ∧ w 4 ≤ 5000 ∧
    500 ≤ w 6 ∧ w 6 ≤ 20000 ∧ 10 ≤ w 8 ∧ w 8 ≤ 600)
  else if code = 0x0D ∨ code = 0x0E ∨ code = 0x10 then decide lane
  else if code = 0x12 then decide (b 0 < 4 ∧ (b 1 = 24 ∨ b 1 = 25 ∨ b 1 = 30) ∧ w 2 ≤ 2000 ∧ w 4 ≤ 2000 ∧
    (w 6 ≤ 500 ∨ 65036 ≤ w 6) ∧ b 8 ≤ 1)
  else if code = 0x1A then decide (b 0 < 4 ∧ 1 ≤ b 1 ∧ b 5 ≤ 7 ∧ b 6 ≤ 11 ∧ (b 6 = 0 → b 7 ≤ 12 ∧ b 8 ≤ 3 ∧ b 9 ≤ 1) ∧
    (b 6 = 11 → b 7 < 4 ∧ b 8 ≤ 1))
  else if code = 0x1B then decide (b 0 < 4 ∧ 1 ≤ b 1)
  else if code = 0x1D then decide (b 0 < 4 ∧ b 1 ≤ 63)
  else if code = 0x1E then decide (b 0 < 4 ∧ 2 ≤ b 1 ∧ b 1 ≤ 32 ∧ b 2 + 2 ≤ b 1 ∧ 10 ≤ w 3 ∧ w 3 ≤ 1000)
  else if code = 0x22 then decide (b 0 < 4 ∧ 1 ≤ b 1 ∧ b 1 ≤ 8 ∧ ∀ k ∈ payload.drop 2, k.toNat < 32)
  else if code = 0x23 then decide (b 0 < 4 ∧ w 1 ≤ 256 ∧ w 3 ≤ 256)
  else if code = 0x2A then decide (b 0 < 4 ∧ b 1 ≤ 1 ∧ b 2 ≤ 1 ∧ b 3 ≤ 100)
  else if code = 0x2C then decide (1 ≤ b 0 ∧ b 0 ≤ 48 ∧ b 1 < b 0 ∧ 1 ≤ w 2 ∧ w 2 ≤ 60 ∧
    60 ≤ w 4 ∧ w 4 ≤ 900 ∧ 1 ≤ b 6 ∧ b 6 ≤ 4)
  else if code = 0x2E ∨ code = 0x2F ∨ code = 0x31 ∨ code = 0x32 then decide (1 ≤ w 0 ∧ w 0 ≤ 999)
  else if code = 0x30 then decide (1 ≤ w 0 ∧ b 2 ≤ 1 ∧ 1 ≤ b 3 ∧ b 3 ≤ 15 ∧ 1 ≤ b 4)
  else if code = 0x34 then decide (b 0 < 12 ∧ b 1 ≤ 16 ∧ b 2 ≤ 1 ∧ b 3 ≤ 2 ∧ (2 ≤ b 1 ∧ b 1 ≤ 13 → b 4 < 4) ∧ (b 1 = 13 → b 5 < 4) ∧
    (b 1 = 16 → b 4 < 3))
  else if code = 0x37 then decide ((∀ k ∈ payload.drop 1, k.toNat < 21) ∧ (payload.drop 1).Nodup)
  else if code = 0x38 then decide (∀ k ∈ payload, k.toNat ≤ 1)
  else if code = 0x39 then decide (b 0 < 3)
  else true

/-- The entry of a clip id in a directory header: of its seven bytes the used byte, then the start address and the length, three bytes each,
high byte first; present when the used byte is 1, the length lies in 1..480,000 and the start address plus twice the length is at most
16,777,216 (R127, R195, R200, R201). -/
def headerEntry (header : List Byte) (id : Nat) : Option Clip :=
  let b := fun k : Nat => ((header[3 + 7 * id + k]?).getD 0#8).toNat
  let start := b 1 * 65536 + b 2 * 256 + b 3
  let length := b 4 * 65536 + b 5 * 256 + b 6
  if b 0 = 1 ∧ 1 ≤ length ∧ length ≤ 480000 ∧ start + 2 * length ≤ 16777216 then some { start, length } else none

/-! ### The laws of the manual -/

/-- R28: an entry lane's arm is raised exactly while it is ARMED, PASSING for an admitted vehicle, or STUCK. -/
def EntryLane.armLaw (l : EntryLane) : Prop :=
  l.arm = .raised ↔ l.state = .armed ∨ (l.state = .passing ∧ l.admitted = true) ∨ l.state = .stuck

/-- R25: the admission is present in ARMED, and in PASSING when the admitted passage flag is true, and in no other state. -/
def EntryLane.admissionLaw (l : EntryLane) : Prop :=
  l.admission.isSome = true ↔ l.state = .armed ∨ (l.state = .passing ∧ l.admitted = true)

/-- R67: a screen's projector-pause output is asserted exactly while the screen is HELD. -/
def Show.pauseLaw (w : Show) : Prop := w.pause = true ↔ w.state = .held

/-- R56: the hold reason is present in HELD only, and there always. -/
def Show.reasonLaw (w : Show) : Prop := w.holdReason.isSome = true ↔ w.state = .held

/-- R53: a show clock never exceeds 65535+(fps − 1). -/
def Show.clockLaw (w : Show) : Prop := w.clock.second ≤ 65535 ∧ w.clock.frame < w.settings.rate.fps

/-- R50: e is at most the stall limit and P_last lies within the accept window of the rate. -/
def Show.monitorLaw (w : Show) : Prop :=
  w.monitor.e ≤ w.settings.rate.stallLimit ∧ w.settings.rate.pLo ≤ w.monitor.pLast ∧ w.monitor.pLast ≤ w.settings.rate.pHi

/-- R107, R108: the clamped delay is formed from the settings in force, and the applied delay from the clamped one, within 0..6000. -/
def delayLaw (w : Show) (a : Align) : Prop :=
  a.dTenths = w.settings.dTenths ∧ a.clamped = w.settings.delayClamped ∧ a.dSamples = (a.dTenths * 48 + 5) / 10 ∧ a.dSamples ≤ 6000

/-- R98: a ring holds at most 32 blocks whose stamp positions rise by at least 240 from each to the next; none is above the last accepted
position. -/
def Intake.ringLaw (k : Intake) : Prop :=
  k.ring.length ≤ 32 ∧ k.ring.Pairwise (fun a b => a.asp + 240 ≤ b.asp) ∧ ∀ b ∈ k.ring, ∃ last, k.lastAccepted = some last ∧ b.asp ≤ last

/-- R69, R70, R71, R72: a cue list holds at most 64 cues of distinct ids in order of position, every frame below the screen's fps, and a
cursor within it. -/
def cueLaw (w : Show) (u : CueUnit) : Prop :=
  u.cues.length ≤ 64 ∧ (u.cues.map (·.id)).Nodup ∧ u.cues.Pairwise (fun a b => a.pos.later b.pos = false) ∧
    (∀ c ∈ u.cues, c.pos.frame < w.settings.rate.fps) ∧ u.cursor ≤ u.cues.length

/-- R72: while a screen is in a show the cues before the cursor are those whose position is no later than the clock; in ARMED the cursor is 0
and the clock at 0+0. -/
def cursorLaw (w : Show) (u : CueUnit) : Prop :=
  (w.state.inShow = true → ∀ k (h : k < u.cues.length), k < u.cursor ↔ (u.cues[k]).pos.later w.clock = false) ∧
    (w.state = .armed → u.cursor = 0 ∧ w.clock = { second := 0, frame := 0 })

/-- R151: SOUND_UP is true exactly while the link is UP and the last status is present, its carrier on and its fault false. -/
def Link.soundLaw (k : Link) : Prop :=
  k.soundUp = true ↔ k.state = .up ∧ ∃ t, k.last = some t ∧ t.carrier = true ∧ t.fault = false

/-- R184: an attention line is asserted exactly while some flag of an ENABLED class is PENDING or SEEN. -/
def Port.attentionLaw (q : Port) : Prop :=
  q.attention = true ↔ ∃ k : EventKind, q.mask[k.cls] = true ∧ (q.flag k).state ≠ .clear

/-- R179: a CLEAR flag has count 0 and no detail, any other a detail, and no count is above 255. -/
def Flag.law (f : Flag) : Prop := (f.state = .clear ↔ f.detail = Option.none) ∧ (f.state = .clear → f.count = 0) ∧ f.count ≤ 255

/-- R187, R189: a receive FIFO holds at most 256 bytes, and its hold-out line is asserted whenever the fill is 192 or more. -/
def Port.fifoLaw (q : Port) : Prop := q.rxFill ≤ 256 ∧ (192 ≤ q.rxFill → q.holdOut = true)

/-- R158, R159, R164: the kitchen queue holds at most 48 orders, its high level is at most 48, and release-pending orders exist only while
the queue holds 48. -/
def OrderUnit.kitchenLaw (u : OrderUnit) : Prop :=
  u.kitchen.length ≤ 48 ∧ u.settings.high ≤ 48 ∧ ((∃ o ∈ u.table, o.isPending = true) → u.kitchen.length = 48)

/-- R130: a call queue holds at most 16 entries. -/
def CallUnit.queueLaw (c : CallUnit) : Prop := c.queue.length ≤ 16

/-- Whether a ticket is PENDING. -/
def Ticket.isPending (t : Ticket) : Bool := match t.state with | .pending => true | .present _ _ => false

/-- Whether a ticket is PRESENT and of class LONG. -/
def Ticket.isLong (t : Ticket) : Bool := match t.state with | .present .long _ => true | _ => false

/-- R5: the three counts of a screen's zone are those of its tickets, and its occupancy is within its capacity. -/
def State.zoneLaw (s : State) (i : ScreenId) : Prop :=
  let ts := s.tickets.filter fun t => t.screen == i
  (s.zones[i]).pending = ts.countP Ticket.isPending ∧ (s.zones[i]).present = ts.countP (fun t => !t.isPending) ∧
    (s.zones[i]).long = ts.countP Ticket.isLong ∧ (s.zones[i]).occupancy ≤ (s.zones[i]).capacity

/-- R1, R2, R5: tickets have distinct numbers that the sequence has passed; an admission names a PENDING ticket of its own lane; the zone
counts are those of the tickets; and the capacities sum to at most 2048. -/
def State.ticketLaws (s : State) : Prop :=
  (s.tickets.map (·.number)).Nodup ∧ (∀ n, s.nextTicket = some n → ∀ t ∈ s.tickets, t.number < n) ∧
    (∀ n : LaneId, ∀ k, (s.entry[n]).admission = some k →
      ∃ t ∈ s.tickets, t.number = k ∧ t.lane = n ∧ t.isPending = true) ∧
    (∀ i : ScreenId, s.zoneLaw i) ∧ sum4 (s.zones.map (·.capacity)) ≤ 2048

/-- R4, R156: orders have distinct numbers and are at most 256; every live order names a live ticket of the same screen, and each ticket's
open-order count is the number of live orders naming it, at most 4. -/
def State.orderLaws (s : State) : Prop :=
  (s.orders.table.map (·.number)).Nodup ∧ s.orders.table.length ≤ 256 ∧
    (∀ o ∈ s.orders.table, ∃ t ∈ s.tickets, t.number = o.ticket ∧ t.screen = o.screen) ∧
    ∀ t ∈ s.tickets, t.openOrders = s.orders.table.countP (fun o => o.ticket == t.number) ∧ t.openOrders ≤ 4

/-- R19, R173: every night total of the Order Unit is held in 16 bits. -/
def OrderTotals.law (t : OrderTotals) : Prop :=
  t.placedNow ≤ 65535 ∧ t.placedBreak ≤ 65535 ∧ t.collected ≤ 65535 ∧ t.voided ≤ 65535 ∧ t.departed ≤ 65535 ∧ t.showEnded ≤ 65535 ∧
    t.request ≤ 65535 ∧ t.expired ≤ 65535

/-- R134, R156, R158: orders have distinct numbers; the kitchen queue holds each QUEUED order once and nothing else, and the ready shelf
each READY order; an order call in a screen's queue names a READY order of that screen; and the totals are in their form. -/
def State.bookLaws (s : State) : Prop :=
  let u := s.orders
  (u.table.map (·.number)).Nodup ∧ u.kitchen.Nodup ∧ u.shelf.Nodup ∧
    (∀ n, n ∈ u.kitchen ↔ ∃ o ∈ u.table, o.number = n ∧ o.state = .queued) ∧
    (∀ n, n ∈ u.shelf ↔ ∃ o ∈ u.table, o.number = n ∧ o.isReady = true) ∧
    (∀ i : ScreenId, ∀ n, CallEntry.orderCall n ∈ (s.calls[i]).queue → ∃ o ∈ u.table, o.number = n ∧ o.isReady = true ∧ o.screen = i) ∧
    u.totals.law

/-- The laws of the entry lanes. -/
def State.laneLaws (s : State) : Prop := ∀ n : LaneId, (s.entry[n]).armLaw ∧ (s.entry[n]).admissionLaw

/-- The laws of the screens. -/
def State.showLaws (s : State) : Prop := ∀ i : ScreenId, (s.shows[i]).pauseLaw ∧ (s.shows[i]).reasonLaw

/-- The laws of the clocks and frame monitors. -/
def State.clockLaws (s : State) : Prop := ∀ i : ScreenId, (s.shows[i]).clockLaw ∧ (s.shows[i]).monitorLaw

/-- The laws of the delays. -/
def State.delayLaws (s : State) : Prop := ∀ i : ScreenId, delayLaw s.shows[i] s.aligns[i]

/-- The laws of the rings. -/
def State.ringLaws (s : State) : Prop := ∀ i : ScreenId, (s.intakes[i]).ringLaw

/-- The laws of the cue lists. -/
def State.cueLaws (s : State) : Prop := ∀ i : ScreenId, cueLaw s.shows[i] s.cues[i]

/-- The laws of the cursors. -/
def State.cursorLaws (s : State) : Prop := ∀ i : ScreenId, cursorLaw s.shows[i] s.cues[i]

/-- The laws of SOUND_UP. -/
def State.soundLaws (s : State) : Prop := ∀ i : ScreenId, (s.links[i]).soundLaw

/-- The laws of the event flags and attention lines. -/
def State.attentionLaws (s : State) : Prop :=
  ∀ p : PortId, (s.ports[p]).attentionLaw ∧ ∀ k : EventKind, ((s.ports[p]).flag k).law

/-- The laws of the receive FIFOs. -/
def State.fifoLaws (s : State) : Prop := ∀ p : PortId, (s.ports[p]).fifoLaw

/-- The laws of the kitchen queue and of the call queues. -/
def State.queueLaws (s : State) : Prop := s.orders.kitchenLaw ∧ ∀ i : ScreenId, (s.calls[i]).queueLaw

/-! ### Orders removed -/

/-- What the withdrawal of the calls of removed orders leaves of the queue of every screen on which no call can start: the other entries in
their order and, where an entry was withdrawn, behind them the owed orders that there is room for, earliest on the shelf first, those
orders' marks cleared and no other's (R132, R134; all that there is room for by log 24). -/
def State.withdrawnFill (gone : List Nat) (s u : State) : Prop :=
  (∀ i : ScreenId, ∀ n ∈ gone, CallEntry.orderCall n ∉ (u.calls[i]).queue) ∧
    ∀ i : ScreenId,
      ¬((s.calls[i]).callWindow = true ∧ (s.links[i]).soundUp = true ∧ s.dir.reading = false ∧ (s.calls[i]).slot = none ∧
        (s.calls[i]).duckState = .up) →
      let queue := (s.calls[i]).queue
      let rest := queue.filter fun e => gone.all fun n => e != .orderCall n
      let joined := if rest.length < queue.length then ((s.owedNow i).filter fun n => !gone.contains n).take (16 - rest.length) else []
      (u.calls[i]).queue = rest ++ joined.map CallEntry.orderCall ∧
        ∀ o ∈ s.orders.table, o.screen = i → o.number ∉ gone →
          ∃ r ∈ u.orders.table, r.number = o.number ∧ r.owed = (o.owed && !joined.contains o.number)

/-- The release-pending orders that `k` service steps take in turn, from those pending, in the order of placing: each step the oldest of
the first screen after the pointer that has one, which then is where the pointer stands (R164). -/
def servedBy : Nat → ScreenId → List Order → List Order
  | 0, _, _ => []
  | k + 1, p, pending =>
    match [p + 1, p + 2, p + 3, p].findSome? fun i => pending.find? (·.screen == i) with
    | none => []
    | some o => o :: servedBy k o.screen (pending.filter (·.number != o.number))

/-- What the removal of orders in one handling leaves (R162, R164, R169): the other records, but for their owed marks and calls, those of
the orders served being QUEUED; the kitchen queue with the rest in order and behind it the orders served, one step for each slot freed; the
rest of the shelf; the pointer at the screen last served; the totals given; their calls withdrawn; and KITCHEN_LOW posted exactly where the
fill comes down to the low level. -/
def State.ordersGone (gone : List Order) (totals : OrderTotals) (s u : State) : Prop :=
  let b := s.orders
  let numbers := gone.map (·.number)
  let others := b.table.filter fun o => !numbers.contains o.number
  let rest := b.kitchen.filter fun n => !numbers.contains n
  let served := servedBy (b.kitchen.length - rest.length) b.pointer (others.filter Order.isPending)
  let fill := rest.length + served.length
  u.orders = { b with
    table := u.orders.table, kitchen := rest ++ served.map (·.number), shelf := b.shelf.filter fun n => !numbers.contains n
    pointer := (served.getLast?.map (·.screen)).getD b.pointer, totals } ∧
  (u.orders.table.map fun o => { o with owed := false, callsPlayed := 0, lastCallEnd := none }) =
    (others.map fun o =>
      { o with state := if served.any (·.number == o.number) then .queued else o.state, owed := false, callsPlayed := 0, lastCallEnd := none }) ∧
  s.withdrawnFill numbers u ∧
  if b.settings.low < b.kitchen.length ∧ fill ≤ b.settings.low then s.flagPosted .kitchenLow (.fill fill) u else s.flagKept .kitchenLow u

/-- ORDER_CANCELLED as the cancelling of orders leaves it at every port: posted once for each, the last one's number as its detail (R171). -/
def State.cancelledPosted (gone : List Order) (s u : State) : Prop :=
  ∀ j : PortId, (u.ports[j]).flag .orderCancelled = match gone.getLast? with
    | none => (s.ports[j]).flag .orderCancelled
    | some o =>
      { state := .pending, count := min 255 (((s.ports[j]).flag .orderCancelled).count + gone.length), detail := some (.order o.number) }

/-- What the removal of a ticket leaves of it: the ticket gone, its pass released, no live order naming it, with orders of distinct numbers
no other order lost, and with a book that keeps its laws every order that named it cancelled as R171 gives, the totals as `totals` makes
them from the number of these orders (R8, R14, R15, R16). -/
def State.ticketGone (t : Ticket) (totals : Nat → OrderTotals) (s u : State) : Prop :=
  let gone := s.orders.table.filter (·.ticket == t.number)
  u.tickets = s.tickets.filter (fun r => r.number != t.number) ∧
    u.used = (match t.payment with | .pass n => s.used.clearRange n n | .paid | .comp => s.used) ∧
    (∀ o ∈ u.orders.table, o.ticket ≠ t.number) ∧
    ((s.orders.table.map (·.number)).Nodup →
      u.orders.table.map (·.number) = (s.orders.table.filter (fun o => o.ticket != t.number)).map (·.number)) ∧
    (s.bookLaws → s.ordersGone gone (totals gone.length) u ∧ s.cancelledPosted gone u)

/-- What a void by a lane leaves of the Admission Table, of the Order Unit and of the other blocks (R14, R171). -/
def State.ticketVoided (t : Ticket) (s u : State) : Prop :=
  let total := s.orders.totals
  s.ticketGone t (fun k => { total with voided := min 65535 (total.voided + k) }) u ∧ s.sameButGate u ∧
    u.zones = (upd s.zones t.screen fun z => { z with pending := z.pending - 1 }) ∧
    u.totals = { s.totals with voided := upd s.totals.voided t.screen inc16 }

/-! ### A request on the wire -/

/-- The commands by which the bytes of a frame arrive at a port, the parser taking each as it comes (R187, R188). -/
def wireCommands (p : PortId) (bytes : List Byte) : List Instr := bytes.flatMap fun b => [.portByteReceived p b true, .parserTake p]

/-- R7, R8: both pass maps keep their form, a used mark is set exactly when a live ticket carries the pass, and no two carry one. -/
def State.passLaws (s : State) : Prop :=
  s.permits.wf = true ∧ s.used.wf = true ∧ (s.tickets.filterMap Ticket.pass?).Nodup ∧
    ∀ n : Nat, s.used.isSet n = true ↔ n ∈ s.tickets.filterMap Ticket.pass?

end Sys2Proof.Machine

namespace Sys2Proof

open Sys2Proof.Machine

/-- The port and the frame fields of a request row. -/
def Instr.request? : Instr → Option (PortId × Request)
  | .admitCar p tag pl => some (p, ⟨0x01, tag, pl⟩)
  | .depart p tag pl => some (p, ⟨0x02, tag, pl⟩)
  | .passSet p tag pl => some (p, ⟨0x03, tag, pl⟩)
  | .setZone p tag pl => some (p, ⟨0x04, tag, pl⟩)
  | .entryOpen p tag pl => some (p, ⟨0x05, tag, pl⟩)
  | .entryClose p tag pl => some (p, ⟨0x06, tag, pl⟩)
  | .closeNight p tag pl => some (p, ⟨0x07, tag, pl⟩)
  | .ticketQuery p tag pl => some (p, ⟨0x08, tag, pl⟩)
  | .passQuery p tag pl => some (p, ⟨0x09, tag, pl⟩)
  | .zoneReport p tag pl => some (p, ⟨0x0A, tag, pl⟩)
  | .nightReport p tag pl => some (p, ⟨0x0B, tag, pl⟩)
  | .setLane p tag pl => some (p, ⟨0x0C, tag, pl⟩)
  | .laneOpen p tag pl => some (p, ⟨0x0D, tag, pl⟩)
  | .laneClose p tag pl => some (p, ⟨0x0E, tag, pl⟩)
  | .cancelAdmit p tag pl => some (p, ⟨0x0F, tag, pl⟩)
  | .laneReset p tag pl => some (p, ⟨0x10, tag, pl⟩)
  | .gateReport p tag pl => some (p, ⟨0x11, tag, pl⟩)
  | .setScreen p tag pl => some (p, ⟨0x12, tag, pl⟩)
  | .armShow p tag pl => some (p, ⟨0x13, tag, pl⟩)
  | .startShow p tag pl => some (p, ⟨0x14, tag, pl⟩)
  | .holdShow p tag pl => some (p, ⟨0x15, tag, pl⟩)
  | .resumeShow p tag pl => some (p, ⟨0x16, tag, pl⟩)
  | .endShow p tag pl => some (p, ⟨0x17, tag, pl⟩)
  | .screenReset p tag pl => some (p, ⟨0x18, tag, pl⟩)
  | .screenQuery p tag pl => some (p, ⟨0x19, tag, pl⟩)
  | .loadCue p tag pl => some (p, ⟨0x1A, tag, pl⟩)
  | .deleteCue p tag pl => some (p, ⟨0x1B, tag, pl⟩)
  | .clearCues p tag pl => some (p, ⟨0x1C, tag, pl⟩)
  | .cueQuery p tag pl => some (p, ⟨0x1D, tag, pl⟩)
  | .setSound p tag pl => some (p, ⟨0x1E, tag, pl⟩)
  | .intakeQuery p tag pl => some (p, ⟨0x1F, tag, pl⟩)
  | .alignQuery p tag pl => some (p, ⟨0x20, tag, pl⟩)
  | .clipRescan p tag pl => some (p, ⟨0x21, tag, pl⟩)
  | .announce p tag pl => some (p, ⟨0x22, tag, pl⟩)
  | .setCalls p tag pl => some (p, ⟨0x23, tag, pl⟩)
  | .callsOpen p tag pl => some (p, ⟨0x24, tag, pl⟩)
  | .callsClose p tag pl => some (p, ⟨0x25, tag, pl⟩)
  | .ordersOpen p tag pl => some (p, ⟨0x26, tag, pl⟩)
  | .ordersClose p tag pl => some (p, ⟨0x27, tag, pl⟩)
  | .callQuery p tag pl => some (p, ⟨0x28, tag, pl⟩)
  | .clipQuery p tag pl => some (p, ⟨0x29, tag, pl⟩)
  | .setExciter p tag pl => some (p, ⟨0x2A, tag, pl.bytes⟩)
  | .exciterQuery p tag pl => some (p, ⟨0x2B, tag, pl⟩)
  | .setKitchen p tag pl => some (p, ⟨0x2C, tag, pl⟩)
  | .takeOrder p tag pl => some (p, ⟨0x2D, tag, pl⟩)
  | .markReady p tag pl => some (p, ⟨0x2E, tag, pl⟩)
  | .collectOrder p tag pl => some (p, ⟨0x2F, tag, pl⟩)
  | .placeOrder p tag pl => some (p, ⟨0x30, tag, pl⟩)
  | .cancelOrder p tag pl => some (p, ⟨0x31, tag, pl⟩)
  | .orderQuery p tag pl => some (p, ⟨0x32, tag, pl⟩)
  | .kitchenReport p tag pl => some (p, ⟨0x33, tag, pl⟩)
  | .setLamp p tag pl => some (p, ⟨0x34, tag, pl⟩)
  | .lampQuery p tag pl => some (p, ⟨0x35, tag, pl⟩)
  | .readEvents p tag pl => some (p, ⟨0x36, tag, pl⟩)
  | .clearEvents p tag pl => some (p, ⟨0x37, tag, pl⟩)
  | .setAttention p tag pl => some (p, ⟨0x38, tag, pl⟩)
  | .portQuery p tag pl => some (p, ⟨0x39, tag, pl⟩)
  | .unknownRequest p code tag pl => if knownCode code then none else some (p, ⟨code, tag, pl⟩)
  | .deviceReset _ _ | .startupDirectoryReadDone _ | .clipRescanDone _ | .nightClockAdvance | .entryLoopRise _ | .entryLoopFall _ _
  | .exitLoopRise _ | .exitLoopFall _ | .passWindowExpiry _ | .gapWindowExpiry _ | .entryStuckLimitExpiry _ | .longLampTimerExpiry _
  | .exitStuckTimerExpiry _ | .framePulse _ _ | .showMarkEdge _ | .stallTimerExpiry _ | .frameMonitorStall _ | .audioBlockArrival _ _
  | .holdTimerExpiry _ | .outputInstant _ _ | .clipReadComplete _ | .exciterAck _ _ _ | .exciterStatus _ _ _ | .exciterBadMessage _
  | .ackTimerExpiry _ _ | .refreshTimerExpiry _ _ | .settingsSendEnd _ | .portByteReceived _ _ _ | .gapTimerExpiry _ | .parserTake _
  | .replyByteSent _ | .holdInChange _ _ | .blinkPhaseChange | .endOfDeviceReset _ | .statusAckSendEnd _ => none

end Sys2Proof
end

