-- ==== Sys2Proof/Certificates/Slice0/Obligations.lean ====
section
/-! DEFINITION. The statements for the provers. A request's conclusion is written over `State.taken`, `State.replied` and
`State.refusedWith` (Safety.lean): the part once its port has taken the request, and with its reply at the tail of that port's reply FIFO. -/

open Sys2Proof Sys2Proof.Machine

/-! ### The queue of commands -/

/-- The command at the front of the queue is what a step carries out, over the rest of the queue (the model's own queue, log 2). -/
def Obligations.StepRunsTheFrontCommand : Prop :=
  ∀ (c : Instr) (rest : List Instr) (s : State), step { s with pending := c :: rest } = exec c { s with pending := rest }

/-- With no command waiting a step lets one microsecond pass: every frame monitor's `e` goes up by one and stays at the stall limit, where
the reference is STALE, and the occupancy of a lane in PASSING goes up by one microsecond; nothing else moves (log 3). -/
def Obligations.EmptyQueueLetsAMicrosecondPass : Prop :=
  ∀ s : State, ∃ t, step { s with pending := [] } = .next t ∧
    (∀ i : ScreenId, t.shows[i] = { s.shows[i] with monitor := { (s.shows[i]).monitor with
      e := min (s.shows[i]).settings.rate.stallLimit ((s.shows[i]).monitor.e + 1)
      reference := if (s.shows[i]).settings.rate.stallLimit ≤ (s.shows[i]).monitor.e + 1 then .stale else (s.shows[i]).monitor.reference } }) ∧
    (∀ n : LaneId, t.entry[n] = { s.entry[n] with
      occupancyUs := if (s.entry[n]).state = .passing then (s.entry[n]).occupancyUs + 1 else (s.entry[n]).occupancyUs }) ∧
    t = { s with pending := [], shows := t.shows, entry := t.entry }

/-- Every command, whatever the state, answers a next state, and leaves the queue of waiting commands to the step, DEVICE_RESET too: the
queue stands for the world outside (the model's own choice, log 2). This says that nothing stops the part; what each command does is said
by the statements below. -/
def Obligations.EveryCommandAnswers : Prop :=
  ∀ (c : Instr) (s : State), ∃ t, exec c s = .next t ∧ t.pending = s.pending

/-! ### Requests at their ports -/

/-- A request waits, and nothing of the part changes: during the start-up hold, while its port holds another, while an earlier one is
outstanding, and while fewer than 254 bytes of the reply FIFO are free. A frame arriving whole at a port at rest whose reply FIFO has no
room is held (the last clause is the model's reading of a request as a command, log 1). -/
def Obligations.RequestsWait : Prop :=
  ∀ (c : Instr) (p : PortId) (r : Request) (s : State), c.request? = some (p, r) →
    (s.startup = true → exec c s = .next s) ∧
    (∀ h, (s.ports[p]).held = some h → h ≠ r → exec c s = .next s) ∧
    ((s.ports[p]).held = some r → (s.ports[p]).outstanding = true ∨ 512 < (s.ports[p]).tx.length + 254 → exec c s = .next s) ∧
    (s.startup = false → (s.ports[p]).atRest = true → r.payload.length ≤ 248 →
      (s.ports[p]).outstanding = true ∨ 512 < (s.ports[p]).tx.length + 254 →
      exec c s = .next (s.modPort p fun q => { q with held := some r, gapTimer := some 5, lastBreak := false }))

/-- A request that its port takes is refused UNKNOWN_REQUEST when its code names no request, else NOT_PERMITTED when the catalogue does
not give it to the port's role, else BAD_LENGTH when its payload is not of the agreed length. The refusal is counted, and the reply with
its status and no payload is the only other change. A request that passes these checks with a field out of the range that its rule gives,
whichever of the 57 it is, is refused RANGE before any other check of its block, and nothing but its port changes. -/
def Obligations.PortRefusals : Prop :=
  ∀ (c : Instr) (p : PortId) (r : Request) (s : State), c.request? = some (p, r) → s.startup = false → (s.ports[p]).takes r = true →
    let refused := fun status : Status => Host.Outcome.next (ρ := Refusal) (φ := Fault)
      (((s.taken p).modPort p fun q => { q with counts := { q.counts with refused := min 65535 (q.counts.refused + 1) } }).refusedWith
        p r.code r.tag status)
    let known := 1 ≤ r.code.toNat ∧ r.code.toNat ≤ 0x39
    let permitted := (s.ports[p]).role ∈ catalogueRoles r.code.toNat
    (¬known → exec c s = refused .unknownRequest) ∧
    (known → ¬permitted → exec c s = refused .notPermitted) ∧
    (known → permitted → agreedLength r.code.toNat r.payload ≠ some r.payload.length → exec c s = refused .badLength) ∧
    (known → permitted → agreedLength r.code.toNat r.payload = some r.payload.length → fieldsInRange r.code.toNat r.payload = false →
      exec c s = .next ((s.taken p).refusedWith p r.code r.tag .range))

/-- Every request taken, but for CLIP_RESCAN whose reply waits, is answered in its own handling by exactly one reply frame at the tail of
its port's reply FIFO, with its code plus 0x80 and its tag. A reply with a status other than OK carries no payload, and then nothing of
the part has changed but that port's taking and counting of the request. -/
def Obligations.EveryTakenRequestIsAnsweredOnce : Prop :=
  ∀ (c : Instr) (p : PortId) (r : Request) (s : State), c.request? = some (p, r) → s.startup = false → (s.ports[p]).takes r = true →
    r.code ≠ 0x21#8 →
    ∃ (t : State) (status : Status) (payload : List Byte), exec c s = .next t ∧
      (t.ports[p]).tx = (s.ports[p]).tx ++ replyFrame r.code r.tag status.code payload ∧ (t.ports[p]).outstanding = false ∧
      (t.ports[p]).held = none ∧ (t.ports[p]).counts.taken = min 65535 ((s.ports[p]).counts.taken + 1) ∧
      (status ≠ .ok → payload = [] ∧ { t with ports := s.ports } = s ∧ (∀ j : PortId, j ≠ p → t.ports[j] = s.ports[j]) ∧
        (t.ports[p]).flags = (s.ports[p]).flags ∧ (t.ports[p]).mask = (s.ports[p]).mask ∧
        (t.ports[p]).attention = (s.ports[p]).attention ∧ (t.ports[p]).rx = (s.ports[p]).rx)

/-- A request sent over the line as the bytes of its frame, each byte received and then taken by the parser, comes to the same state as
the request offered whole to a port at rest, which is what the model lets a request command at such a port stand for (log 1). -/
def Obligations.RequestByWireIsTheRequest : Prop :=
  ∀ (c : Instr) (p : PortId) (r : Request) (s : State), c.request? = some (p, r) → s.startup = false → (s.ports[p]).atRest = true →
    (s.ports[p]).holdOut = false → r.payload.length ≤ 248 →
    Host.Core.run core ((wireCommands p r.frame).length + 1) { s with pending := wireCommands p r.frame ++ [c] } =
      exec c { s with pending := [] }

/-! ### Admissions, zones and passes -/

/-- An ADMIT that passes every check of R9: the ticket with the sequence's number, its zone place, its pass's used mark, its totals and
the armed lane, and ZONE_FULL when the zone fills; the number is answered, and nothing else of the part changes. -/
def Obligations.AdmitAccepted : Prop :=
  ∀ (p : PortId) (tag : Byte) (lane : LaneId) (screen : ScreenId) (payment : Payment) (party k : Nat) (s : State),
    let payload := u8 lane.val ++ u8 screen.val ++ payment.byte ++ u8 party ++ payment.passBytes
    s.accepts p ⟨0x01, tag, payload⟩ [.gate, .service] = true → payment.inRange → 1 ≤ party → party ≤ 15 →
    (s.entry[lane]).state = .idle → (s.zones[screen]).isOpen = true → (s.zones[screen]).occupancy < (s.zones[screen]).capacity →
    (∀ n, payment = .pass n → s.permits.isSet n = true ∧ s.used.isSet n = false) →
    s.tickets.length < 2048 → s.nextTicket = some k →
    exec (.admitCar p tag payload) s = .next (State.replied p 0x01 tag (u16 k)
      (State.postIf ((s.zones[screen]).occupancy + 1 = (s.zones[screen]).capacity) .zoneFull (.screen screen)
        { s.taken p with
          tickets := s.tickets ++ [{ number := k, screen, lane, state := .pending, payment, party, tailgate := false, openOrders := 0 }]
          nextTicket := if k < 65535 then some (k + 1) else none
          zones := upd s.zones screen fun z => { z with pending := z.pending + 1 }
          used := match payment with | .pass n => s.used.setRange n n | .paid | .comp => s.used
          totals := { s.totals with
            admitted := upd s.totals.admitted screen inc16
            paid := if payment = .paid then inc16 s.totals.paid else s.totals.paid
            pass := if payment.byte = u8 1 then inc16 s.totals.pass else s.totals.pass
            comp := if payment = .comp then inc16 s.totals.comp else s.totals.comp }
          entry := upd s.entry lane fun l =>
            { l with state := .armed, admission := some k, arm := .raised, passTimer := some (l.settings.passWindow * 1000) } }))

/-- The refusals of R9: RANGE for a field out of its range before all else, then the state checks in their order, the first that fails
giving the status. A refused ADMIT changes nothing but its port. -/
def Obligations.AdmitRefusals : Prop :=
  (∀ (p : PortId) (tag lane screen payment party : Byte) (rest : List Byte) (s : State),
    let payload := lane :: screen :: payment :: party :: rest
    s.accepts p ⟨0x01, tag, payload⟩ [.gate, .service] = true → rest.length = (if payment = 1#8 then 2 else 0) →
    4 ≤ lane.toNat ∨ 4 ≤ screen.toNat ∨ 3 ≤ payment.toNat ∨ party = 0#8 ∨ 16 ≤ party.toNat ∨
      (∃ hi lo, payment = 1#8 ∧ rest = [hi, lo] ∧ 16 ≤ hi.toNat) →
    exec (.admitCar p tag payload) s = .next ((s.taken p).refusedWith p 0x01 tag .range)) ∧
  (∀ (p : PortId) (tag : Byte) (lane : LaneId) (screen : ScreenId) (payment : Payment) (party : Nat) (s : State),
    let payload := u8 lane.val ++ u8 screen.val ++ payment.byte ++ u8 party ++ payment.passBytes
    s.accepts p ⟨0x01, tag, payload⟩ [.gate, .service] = true → payment.inRange → 1 ≤ party → party ≤ 15 →
    let status : Status :=
      if (s.entry[lane]).state = .closed ∨ (s.entry[lane]).state = .stuck then .laneState
      else if (s.entry[lane]).state ≠ .idle then .laneBusy
      else if (s.zones[screen]).isOpen = false then .entryClosed
      else if (s.zones[screen]).capacity ≤ (s.zones[screen]).occupancy then .zoneFull
      else if (match payment with | .pass n => s.permits.isSet n | .paid | .comp => true) = false then .passUnknown
      else if (match payment with | .pass n => s.used.isSet n | .paid | .comp => false) = true then .passInUse
      else if 2048 ≤ s.tickets.length then .tableFull
      else if s.nextTicket = none then .sequenceExhausted
      else .ok
    status ≠ .ok → exec (.admitCar p tag payload) s = .next ((s.taken p).refusedWith p 0x01 tag status))

/-- DEPART of a PRESENT ticket: the ticket gone, its zone's present count, and its long count for class LONG, lower by one, its screen's
departed total higher; every order naming it cancelled with reason DEPARTED, each counted and posted with ORDER_CANCELLED, the kitchen queue
closed up and the slots freed served by the release-pending orders, KITCHEN_LOW posted where the fill comes down to the low level, the
queued calls withdrawn and the owed fill run (all its room taken by log 24). No other flag changes. The reply carries screen, class,
entered-at value, tailgate mark and the number of orders cancelled. -/
def Obligations.DepartOfAPresentTicket : Prop :=
  ∀ (p : PortId) (tag : Byte) (t : Ticket) (cls : VehicleClass) (enteredAt : Nat) (s : State),
    s.accepts p ⟨0x02, tag, u16 t.number⟩ [.gate, .service] = true → 1 ≤ t.number → t.number ≤ 65535 →
    s.ticket? t.number = some t → t.state = .present cls enteredAt →
    let total := s.orders.totals
    ∃ u, exec (.depart p tag (u16 t.number)) s = .next u ∧
      s.ticketGone t (fun k => { total with departed := min 65535 (total.departed + k) }) u ∧ s.sameButGate u ∧ u.entry = s.entry ∧
      s.flagsKeptBut [.orderCancelled, .kitchenLow] u ∧
      u.zones = (upd s.zones t.screen fun z =>
        { z with present := z.present - 1, long := if cls = .long then z.long - 1 else z.long }) ∧
      u.totals = { s.totals with departed := upd s.totals.departed t.screen inc16 } ∧
      s.answeredAt p 0x02 tag .ok (u8 t.screen.val ++ enumByte [.car, .long, .unmeasured] cls ++ u16 enteredAt ++ flagByte t.tailgate ++
        u8 (s.orders.table.countP (·.ticket == t.number))) u

/-- PASS_SET marks or clears every pass from the first to the last, both included, and no other, and answers with the number of permit
marks now set; a first number above the last, or either above 4095, is refused RANGE. -/
def Obligations.PassSetMarksTheRange : Prop :=
  ∀ (p : PortId) (tag : Byte) (first last : Nat) (set : Bool) (s : State),
    let payload := u16 first ++ u16 last ++ u8 (if set then 0 else 1)
    s.accepts p ⟨0x03, tag, payload⟩ [.gate, .service] = true → first ≤ 65535 → last ≤ 65535 →
    (last < first ∨ 4095 < last → exec (.passSet p tag payload) s = .next ((s.taken p).refusedWith p 0x03 tag .range)) ∧
    (first ≤ last → last ≤ 4095 → s.permits.wf = true → ∃ m : PassMap, m.wf = true ∧
      (∀ n, m.isSet n = if first ≤ n ∧ n ≤ last then set else s.permits.isSet n) ∧
      exec (.passSet p tag payload) s = .next (State.replied p 0x03 tag (u16 ((List.range 4096).countP m.isSet))
        { s.taken p with permits := m }))

/-- R17 whole: SET_ZONE refuses a field out of its range RANGE, then a capacity below the occupancy ZONE_OCCUPIED, then one that brings the
sum of the capacities above 2,048 RANGE, else replaces the capacity, answers it with the occupancy, and posts ZONE_FULL when the full mark
rises. ENTRY_OPEN and ENTRY_CLOSE (R18) set the entry and answer with it, and refuse a screen out of its range RANGE. -/
def Obligations.ZoneSettings : Prop :=
  ∀ (p : PortId) (tag : Byte) (i : ScreenId) (capacity : Nat) (s : State),
    let z := s.zones[i]
    (∀ screen hi lo : Byte, s.accepts p ⟨0x04, tag, [screen, hi, lo]⟩ [.gate, .service] = true →
      4 ≤ screen.toNat ∨ 2048 < hi.toNat * 256 + lo.toNat →
      exec (.setZone p tag [screen, hi, lo]) s = .next ((s.taken p).refusedWith p 0x04 tag .range)) ∧
    (∀ screen : Byte, 4 ≤ screen.toNat →
      (s.accepts p ⟨0x05, tag, [screen]⟩ [.gate, .service] = true →
        exec (.entryOpen p tag [screen]) s = .next ((s.taken p).refusedWith p 0x05 tag .range)) ∧
      (s.accepts p ⟨0x06, tag, [screen]⟩ [.gate, .service] = true →
        exec (.entryClose p tag [screen]) s = .next ((s.taken p).refusedWith p 0x06 tag .range))) ∧
    (s.accepts p ⟨0x04, tag, u8 i.val ++ u16 capacity⟩ [.gate, .service] = true → capacity ≤ 2048 →
      let sum := (([0, 1, 2, 3] : List ScreenId).map fun j => if j = i then capacity else (s.zones[j]).capacity).sum
      (capacity < z.occupancy →
        exec (.setZone p tag (u8 i.val ++ u16 capacity)) s = .next ((s.taken p).refusedWith p 0x04 tag .zoneOccupied)) ∧
      (z.occupancy ≤ capacity → 2048 < sum →
        exec (.setZone p tag (u8 i.val ++ u16 capacity)) s = .next ((s.taken p).refusedWith p 0x04 tag .range)) ∧
      (z.occupancy ≤ capacity → sum ≤ 2048 →
        exec (.setZone p tag (u8 i.val ++ u16 capacity)) s = .next (State.replied p 0x04 tag (u16 capacity ++ u16 z.occupancy)
          (State.postIf (z.occupancy ≠ z.capacity ∧ z.occupancy = capacity) .zoneFull (.screen i)
            { s.taken p with zones := upd s.zones i fun z => { z with capacity := capacity } })))) ∧
    (s.accepts p ⟨0x05, tag, u8 i.val⟩ [.gate, .service] = true →
      exec (.entryOpen p tag (u8 i.val)) s = .next (State.replied p 0x05 tag (u8 0)
        { s.taken p with zones := upd s.zones i fun z => { z with isOpen := true } })) ∧
    (s.accepts p ⟨0x06, tag, u8 i.val⟩ [.gate, .service] = true →
      exec (.entryClose p tag (u8 i.val)) s = .next (State.replied p 0x06 tag (u8 1)
        { s.taken p with zones := upd s.zones i fun z => { z with isOpen := false } }))

/-- CLOSE_NIGHT is refused NIGHT_ACTIVE unless every screen is IDLE or ENDED and every entry lane CLOSED or IDLE. Accepted, it reports the
totals, the clock and the live tickets as they stood, and clears the tickets, the used map, the zone counts and entries, the sequence, the
clock, the totals, the order book, the call queues and the lane counts, and nothing else. -/
def Obligations.CloseNight : Prop :=
  ∀ (p : PortId) (tag : Byte) (s : State), s.accepts p ⟨0x07, tag, []⟩ [.gate, .service] = true →
    let quiet := (∀ i : ScreenId, (s.shows[i]).state = .idle ∨ (s.shows[i]).state = .ended) ∧
      ∀ n : LaneId, (s.entry[n]).state = .closed ∨ (s.entry[n]).state = .idle
    (¬quiet → exec (.closeNight p tag []) s = .next ((s.taken p).refusedWith p 0x07 tag .nightActive)) ∧
    (quiet → exec (.closeNight p tag []) s = .next (State.replied p 0x07 tag
      (totalsBytes s.totals ++ u16 s.nightClock ++ u16 s.tickets.length)
      { s.taken p with
        tickets := [], used := [], nextTicket := some 1, nightClock := 0, totals := .zero
        zones := s.zones.map fun z => { capacity := z.capacity, isOpen := false, pending := 0, present := 0, long := 0 }
        orders := { s.orders with table := [], seq := 1, kitchen := [], shelf := [], totals := .zero }
        calls := s.calls.map fun c => { c with queue := [] }
        entry := s.entry.map fun l => { l with counts := .zero }
        exits := s.exits.map fun x => { x with exits := 0, stuck := 0 } }))

/-- The queries of the Admission Table and the gate report change nothing but their port, and answer with the fields that R20, R21 and R46
list, in their order (the layouts are read from R195, log 12). -/
def Obligations.TableAndGateQueries : Prop :=
  ∀ (p : PortId) (tag : Byte) (s : State),
    let all : List Role := [.booth, .gate, .kitchen, .service]
    (∀ t : Ticket, s.accepts p ⟨0x08, tag, u16 t.number⟩ all = true → 1 ≤ t.number → t.number ≤ 65535 → s.ticket? t.number = some t →
      exec (.ticketQuery p tag (u16 t.number)) s = .next (State.replied p 0x08 tag
        (u16 t.number ++ u8 t.screen.val ++ u8 t.lane.val ++ u8 (if t.state = .pending then 0 else 1) ++ t.payment.byte ++
          (match t.payment with | .pass n => u8 1 ++ u16 n | .paid | .comp => u8 0) ++ u8 t.party ++
          (match t.state with
            | .pending => u8 0 ++ u8 0
            | .present cls enteredAt => u8 1 ++ enumByte [.car, .long, .unmeasured] cls ++ u8 1 ++ u16 enteredAt) ++
          flagByte t.tailgate ++ u8 t.openOrders) (s.taken p))) ∧
    (∀ n, s.accepts p ⟨0x08, tag, u16 n⟩ all = true → 1 ≤ n → n ≤ 65535 → s.ticket? n = none →
      exec (.ticketQuery p tag (u16 n)) s = .next ((s.taken p).refusedWith p 0x08 tag .noSuchTicket)) ∧
    (∀ n, s.accepts p ⟨0x09, tag, u16 n⟩ all = true → n ≤ 4095 → s.passLaws →
      exec (.passQuery p tag (u16 n)) s = .next (State.replied p 0x09 tag
        (flagByte (s.permits.isSet n) ++ flagByte (s.used.isSet n) ++
          (match s.tickets.find? (fun t => t.payment == .pass n) with | some t => u8 1 ++ u16 t.number | none => u8 0)) (s.taken p))) ∧
    (s.accepts p ⟨0x0A, tag, []⟩ all = true →
      exec (.zoneReport p tag []) s = .next (State.replied p 0x0A tag
        (([0, 1, 2, 3] : List ScreenId).flatMap fun i =>
          let z := s.zones[i]
          u16 z.capacity ++ u8 (if z.isOpen then 0 else 1) ++ u16 z.pending ++ u16 z.present ++ u16 z.long ++
            flagByte (z.pending + z.present == z.capacity)) (s.taken p))) ∧
    (s.accepts p ⟨0x0B, tag, []⟩ all = true →
      exec (.nightReport p tag []) s = .next (State.replied p 0x0B tag
        (u16 s.nightClock ++ (match s.nextTicket with | some n => u8 1 ++ u16 n | none => u8 0) ++ u16 s.tickets.length ++
          totalsBytes s.totals) (s.taken p))) ∧
    (s.accepts p ⟨0x11, tag, []⟩ all = true →
      let departed := sum4 s.totals.departed
      exec (.gateReport p tag []) s = .next (State.replied p 0x11 tag
        ((([0, 1, 2, 3] : List LaneId).flatMap fun n =>
          let l := s.entry[n]
          enumByte [.closed, .idle, .armed, .passing, .settling, .stuck] l.state ++ u8 (if l.loop = .clear then 0 else 1) ++
            u8 (if l.arm = .lowered then 0 else 1) ++ (match l.admission with | some k => u8 1 ++ u16 k | none => u8 0) ++
            u16 l.counts.commits ++ u16 l.counts.timeouts ++ u16 l.counts.tailgates ++ u16 l.counts.unadmitted ++ u16 l.counts.long ++
            u16 l.counts.stuck) ++
          (([0, 1] : List ExitId).flatMap fun n =>
            let x := s.exits[n]
            enumByte [.closed, .isOpen, .stuck] x.state ++ u8 (if x.loop = .clear then 0 else 1) ++ u16 x.exits ++ u16 x.stuck) ++
          u32 departed ++ u32 ((s.exits[0]).exits + (s.exits[1]).exits - departed)) (s.taken p)))

/-- NIGHT_CLOCK_ADVANCE moves the clock on by one and stops it at 65535, where nothing changes. Below it the ready shelf is examined at the
new second. An order is due when its last call ended a recall interval or more before, no call of it is queued or playing and it is not
owed. A due order with fewer than max calls played is recalled: its call joins its screen's queue, in the order of the shelf, while that
holds fewer than 16, and else the order is owed. One at max calls is removed, EXPIRED counted and ORDER_EXPIRED posted. An order not due is
untouched, and the calls and reads that can start then do. -/
def Obligations.NightClockAdvance : Prop :=
  ∀ s : State,
    (s.nightClock = 65535 → exec .nightClockAdvance s = .next s) ∧
    (s.nightClock < 65535 → s.bookLaws →
      let u := s.orders
      let due := (u.shelf.filterMap s.order?).filter fun o =>
        (match o.lastCallEnd with | some last => decide (last + u.settings.recallInterval ≤ s.nightClock + 1) | none => false) &&
          !(s.calls[o.screen]).hasCallOf o.number && !o.owed
      let recalled := fun i : ScreenId => due.filter fun o => o.screen == i && decide (o.callsPlayed < u.settings.maxCalls)
      let expired := due.filter fun o => decide (u.settings.maxCalls ≤ o.callsPlayed)
      let room := fun i : ScreenId => 16 - (s.calls[i]).queue.length
      exec .nightClockAdvance s = .next (State.startAll { s with
        nightClock := s.nightClock + 1
        tickets := s.tickets.map fun t => { t with openOrders := t.openOrders - expired.countP (·.ticket == t.number) }
        orders := { u with
          table := (u.table.filter fun o => !expired.contains o).map fun o =>
            if o ∈ (recalled o.screen).drop (room o.screen) then { o with owed := true } else o
          shelf := u.shelf.filter fun n => expired.all (·.number != n)
          totals := { u.totals with expired := min 65535 (u.totals.expired + expired.length) } }
        calls := Vector.ofFn fun i : ScreenId => { s.calls[i] with
          queue := (s.calls[i]).queue ++ ((recalled i).take (room i)).map fun o => .orderCall o.number }
        ports := (expired.foldl (fun s o => s.post .orderExpired (.order o.number)) s).ports }))

/-! ### Entry and exit lanes -/

/-- SET_LANE replaces the four settings of a CLOSED or IDLE entry lane or a CLOSED exit lane and is refused LANE_BUSY of any other.
LANE_OPEN takes a CLOSED lane to IDLE, an exit lane to OPEN with the stuck timer running if its loop is OCCUPIED, and changes no other
lane. LANE_CLOSE takes an IDLE entry lane or an OPEN exit lane to CLOSED and is refused LANE_BUSY of a lane in the middle of a passage. -/
def Obligations.LaneSettingsAndDoors : Prop :=
  ∀ (p : PortId) (tag : Byte) (n : LaneId) (x : ExitId) (t : LaneSettings) (s : State),
    let gate : List Role := [.gate, .service]
    let l := s.entry[n]
    let e := s.exits[x]
    let entryName := u8 0 ++ u8 n.val
    let exitName := u8 1 ++ u8 x.val
    let settings := u16 t.passWindow ++ u16 t.gapWindow ++ u16 t.longThreshold ++ u16 t.stuckLimit
    let entryStates : List EntryState := [.closed, .idle, .armed, .passing, .settling, .stuck]
    let exitStates : List ExitState := [.closed, .isOpen, .stuck]
    let inRange := 5 ≤ t.passWindow ∧ t.passWindow ≤ 255 ∧ 200 ≤ t.gapWindow ∧ t.gapWindow ≤ 5000 ∧ 500 ≤ t.longThreshold ∧
      t.longThreshold ≤ 20000 ∧ 10 ≤ t.stuckLimit ∧ t.stuckLimit ≤ 600
    (s.accepts p ⟨0x0C, tag, entryName ++ settings⟩ gate = true → inRange →
      exec (.setLane p tag (entryName ++ settings)) s = .next (
        if l.state = .closed ∨ l.state = .idle then State.replied p 0x0C tag settings
          { s.taken p with entry := upd s.entry n fun l => { l with settings := t } }
        else (s.taken p).refusedWith p 0x0C tag .laneBusy)) ∧
    (s.accepts p ⟨0x0C, tag, exitName ++ settings⟩ gate = true → inRange →
      exec (.setLane p tag (exitName ++ settings)) s = .next (
        if e.state = .closed then State.replied p 0x0C tag settings { s.taken p with exits := upd s.exits x fun e => { e with settings := t } }
        else (s.taken p).refusedWith p 0x0C tag .laneBusy)) ∧
    (s.accepts p ⟨0x0D, tag, entryName⟩ gate = true →
      exec (.laneOpen p tag entryName) s = .next (State.replied p 0x0D tag
        (enumByte entryStates (if l.state = .closed then .idle else l.state))
        { s.taken p with entry := upd s.entry n fun l => { l with state := if l.state = .closed then .idle else l.state } })) ∧
    (s.accepts p ⟨0x0D, tag, exitName⟩ gate = true →
      exec (.laneOpen p tag exitName) s = .next (State.replied p 0x0D tag
        (enumByte exitStates (if e.state = .closed then .isOpen else e.state))
        { s.taken p with exits := upd s.exits x fun e => { e with
          state := if e.state = .closed then .isOpen else e.state
          stuckTimer := if e.state = .closed ∧ e.loop = .occupied then some (e.settings.stuckLimit * 1000) else e.stuckTimer } })) ∧
    (s.accepts p ⟨0x0E, tag, entryName⟩ gate = true →
      exec (.laneClose p tag entryName) s = .next (
        if l.state = .closed ∨ l.state = .idle then State.replied p 0x0E tag (u8 0)
          { s.taken p with entry := upd s.entry n fun l => { l with state := .closed } }
        else (s.taken p).refusedWith p 0x0E tag .laneBusy)) ∧
    (s.accepts p ⟨0x0E, tag, exitName⟩ gate = true →
      exec (.laneClose p tag exitName) s = .next (
        if e.state = .stuck then (s.taken p).refusedWith p 0x0E tag .laneBusy
        else State.replied p 0x0E tag (u8 0) { s.taken p with exits := upd s.exits x fun e => { e with state := .closed, stuckTimer := none } }))

/-- The three voids of R14: the pass window's expiry, with the timeout counted and ADMIT_TIMEOUT posted, takes the lane to IDLE; an
accepted CANCEL_ADMIT does so with no event of its own and no count; LANE_RESET of an ARMED lane takes it to CLOSED with every timer
stopped. Each cancels every order naming the ticket with reason VOIDED, counted and posted one by one, with what R169 has the removals do to
the kitchen queue, the release-pending orders, the shelf and the call queues (the owed fill by log 24); no flag changes but ADMIT_TIMEOUT's
and those that this posts, ORDER_CANCELLED and KITCHEN_LOW.
CANCEL_ADMIT is refused NO_SUCH_TICKET, TICKET_STATE and, of a lane in PASSING, LANE_BUSY. (The admitted passage flag is false outside
PASSING by log 17, and the occupancy keeps its value by log 20.) -/
def Obligations.VoidsByTheLane : Prop :=
  ∀ (p : PortId) (tag : Byte) (n : LaneId) (t : Ticket) (s : State),
    let gate : List Role := [.gate, .service]
    let idle := fun l : EntryLane => { l with
      state := .idle, admission := none, admitted := false, lastCommit := none, arm := .lowered, passTimer := none, gapTimer := none }
    ((s.entry[n]).state = .armed → (s.entry[n]).passTimer ≠ none → (s.entry[n]).admission = some t.number → s.ticket? t.number = some t →
      ∃ u, exec (.passWindowExpiry n) s = .next u ∧ s.ticketVoided t u ∧ s.portsKept u ∧ s.flagPosted .admitTimeout (.entryLane n) u ∧
        s.flagsKeptBut [.admitTimeout, .orderCancelled, .kitchenLow] u ∧
        u.entry = upd s.entry n fun l => idle { l with counts := { l.counts with timeouts := inc16 l.counts.timeouts } }) ∧
    (1 ≤ t.number → t.number ≤ 65535 → s.accepts p ⟨0x0F, tag, u16 t.number⟩ gate = true →
      (s.ticket? t.number = none →
        exec (.cancelAdmit p tag (u16 t.number)) s = .next ((s.taken p).refusedWith p 0x0F tag .noSuchTicket)) ∧
      (s.ticket? t.number = some t → t.state ≠ .pending →
        exec (.cancelAdmit p tag (u16 t.number)) s = .next ((s.taken p).refusedWith p 0x0F tag .ticketState)) ∧
      (s.ticket? t.number = some t → t.state = .pending → (s.entry[t.lane]).state = .passing →
        exec (.cancelAdmit p tag (u16 t.number)) s = .next ((s.taken p).refusedWith p 0x0F tag .laneBusy)) ∧
      (s.ticket? t.number = some t → t.state = .pending → (s.entry[t.lane]).state = .armed →
        ∃ u, exec (.cancelAdmit p tag (u16 t.number)) s = .next u ∧ s.ticketVoided t u ∧ s.answeredAt p 0x0F tag .ok (u8 t.lane.val) u ∧
          s.flagsKeptBut [.orderCancelled, .kitchenLow] u ∧ u.entry = upd s.entry t.lane idle)) ∧
    (s.accepts p ⟨0x10, tag, u8 0 ++ u8 n.val⟩ gate = true → (s.entry[n]).state = .armed → (s.entry[n]).admission = some t.number →
      s.ticket? t.number = some t →
      ∃ u, exec (.laneReset p tag (u8 0 ++ u8 n.val)) s = .next u ∧ s.ticketVoided t u ∧
        s.answeredAt p 0x10 tag .ok (u8 2 ++ (u8 1 ++ u16 t.number)) u ∧ s.flagsKeptBut [.orderCancelled, .kitchenLow] u ∧
        u.entry = upd s.entry n fun l => { idle l with state := .closed, longTimer := none })

/-- LANE_RESET of an entry lane that is not ARMED takes it to CLOSED, arm lowered, every timer stopped and nothing held; an admitted
passage is committed UNMEASURED first. Of an exit lane it stops the stuck timer and keeps the counts. The state found and the ticket
committed are answered, and no event is posted. (The admitted passage flag is false outside PASSING by log 17, and the occupancy keeps its
value by log 20.) -/
def Obligations.LaneResetOtherwise : Prop :=
  ∀ (p : PortId) (tag : Byte) (n : LaneId) (x : ExitId) (t : Ticket) (s : State),
    let gate : List Role := [.gate, .service]
    let l := s.entry[n]
    let found := enumByte ([.closed, .idle, .armed, .passing, .settling, .stuck] : List EntryState) l.state
    let closed := fun l : EntryLane => { l with
      state := .closed, admission := none, admitted := false, lastCommit := none, arm := .lowered, passTimer := none, gapTimer := none
      longTimer := none }
    (s.accepts p ⟨0x10, tag, u8 0 ++ u8 n.val⟩ gate = true →
      (l.state = .closed ∨ l.state = .idle ∨ l.state = .settling ∨ l.state = .stuck ∨ (l.state = .passing ∧ l.admitted = false) →
        exec (.laneReset p tag (u8 0 ++ u8 n.val)) s = .next (State.replied p 0x10 tag (found ++ u8 0)
          (State.startAll { s.taken p with entry := upd s.entry n closed }))) ∧
      (l.state = .passing → l.admitted = true → l.admission = some t.number → s.ticket? t.number = some t →
        exec (.laneReset p tag (u8 0 ++ u8 n.val)) s = .next (State.replied p 0x10 tag (found ++ (u8 1 ++ u16 t.number))
          (State.startAll { (s.taken p).withCommit t .unmeasured with
            entry := upd s.entry n fun l => closed { l with counts := { l.counts with commits := inc16 l.counts.commits } } })))) ∧
    (s.accepts p ⟨0x10, tag, u8 1 ++ u8 x.val⟩ gate = true →
      exec (.laneReset p tag (u8 1 ++ u8 x.val)) s = .next (State.replied p 0x10 tag
        (enumByte ([.closed, .isOpen, .stuck] : List ExitState) (s.exits[x]).state ++ u8 0)
        { s.taken p with exits := upd s.exits x fun e => { e with state := .closed, stuckTimer := none } }))

/-- A rise of an entry loop: in ARMED the admitted passage begins and the pass window stops; in SETTLING it is a tailgater, counted,
posted and marked on the ticket last committed if that is live; in IDLE and CLOSED it is an unadmitted pass, counted and posted. A fall of
an entry loop: in PASSING for the admitted vehicle the ticket is committed, LONG when the occupancy is at or above the long threshold and
CAR below it, and the lane settles, a LONG commit being counted, posted and lit for 10 s; in STUCK the arm falls and the lane is IDLE; in
IDLE, CLOSED and ARMED only the loop field changes. (The occupancy moves by the operand, log 3, and keeps its value after the fall, log 20;
the admitted passage flag is false outside PASSING, log 17.) -/
def Obligations.EntryLoopEdges : Prop :=
  (∀ (n : LaneId) (s : State), (s.entry[n]).loop = .clear →
    ((s.entry[n]).state = .armed → exec (.entryLoopRise n) s = .next { s with
      entry := upd s.entry n fun l =>
        { l with loop := .occupied, state := .passing, admitted := true, passTimer := none, occupancyUs := 0 } }) ∧
    ((s.entry[n]).state = .settling → exec (.entryLoopRise n) s = .next (State.post .tailgate (.entryLane n) { s with
      tickets := s.tickets.map fun t => if some t.number = (s.entry[n]).lastCommit then { t with tailgate := true } else t
      entry := upd s.entry n fun l =>
        { l with loop := .occupied, state := .passing, admitted := false, admission := none, arm := .lowered, gapTimer := none
                 occupancyUs := 0, counts := { l.counts with tailgates := inc16 l.counts.tailgates } } })) ∧
    ((s.entry[n]).state = .idle ∨ (s.entry[n]).state = .closed →
      exec (.entryLoopRise n) s = .next (State.post .unadmittedPass (.entryLane n) { s with
        entry := upd s.entry n fun l =>
          { l with loop := .occupied, counts := { l.counts with unadmitted := inc16 l.counts.unadmitted } } }))) ∧
  (∀ (n : LaneId) (us : Nat) (t : Ticket) (s : State), (s.entry[n]).loop = .occupied →
    let l := s.entry[n]
    let cls : VehicleClass := if l.settings.longThreshold * 1000 ≤ l.occupancyUs + us then .long else .car
    (l.state = .passing → l.admitted = true → l.admission = some t.number → s.ticket? t.number = some t →
      exec (.entryLoopFall n us) s = .next (State.postIf (cls = .long) .longVehicle (.entryLane n) { s.withCommit t cls with
        entry := upd s.entry n fun l =>
          { l with
            loop := .clear, state := .settling, admission := none, admitted := false, lastCommit := some t.number, arm := .lowered
            gapTimer := some l.settings.gapWindow, occupancyUs := l.occupancyUs + us
            longTimer := if cls = .long then some 10000 else l.longTimer
            counts := { l.counts with
              commits := inc16 l.counts.commits, long := if cls = .long then inc16 l.counts.long else l.counts.long } } })) ∧
    (l.state = .stuck → exec (.entryLoopFall n us) s = .next { s with
      entry := upd s.entry n fun l =>
        { l with loop := .clear, state := .idle, admission := none, admitted := false, lastCommit := none, arm := .lowered
                 passTimer := none, gapTimer := none } }) ∧
    (l.state = .idle ∨ l.state = .closed ∨ l.state = .armed → exec (.entryLoopFall n us) s = .next { s with
      entry := upd s.entry n fun l => { l with loop := .clear } }))

/-- A fall in PASSING with the admitted passage flag false commits nothing, counts nothing and returns the lane to SETTLING with the gap
window started at its full setting and the last commit unchanged. A further rise then is a further tailgater: the gap timer stops, the arm
stays lowered, no admission is held, the occupancy runs from 0, the loop and the state follow, a second TAILGATE is posted and counted, and
the same ticket is marked if it is still live; nothing else changes. (The occupancy field moves by the operand of the fall, log 3, and then
keeps its value until the next rise, log 20: the model's choices.) -/
def Obligations.TailgaterFallAndFurtherTailgater : Prop :=
  ∀ (n : LaneId) (us : Nat) (s : State), (s.entry[n]).loop = .occupied → (s.entry[n]).state = .passing → (s.entry[n]).admitted = false →
    let u : State := { s with entry := upd s.entry n fun l =>
      { l with loop := .clear, state := .settling, arm := .lowered, gapTimer := some l.settings.gapWindow, occupancyUs := l.occupancyUs + us } }
    exec (.entryLoopFall n us) s = .next u ∧
      exec (.entryLoopRise n) u = .next (State.post .tailgate (.entryLane n) { s with
        tickets := s.tickets.map fun t => if some t.number = (s.entry[n]).lastCommit then { t with tailgate := true } else t
        entry := upd s.entry n fun l =>
          { l with loop := .occupied, state := .passing, admitted := false, admission := none, arm := .lowered, gapTimer := none
                   occupancyUs := 0, counts := { l.counts with tailgates := inc16 l.counts.tailgates } } })

/-- The lane timers: the gap window's expiry takes a SETTLING lane to IDLE with its last commit cleared; the stuck limit's takes a PASSING
lane to STUCK with the arm raised, LOOP_STUCK posted, an admitted passage being committed UNMEASURED and a tailgater's being given
nothing; the long lamp timer's makes LANE_LONG false. (The admitted passage flag is false outside PASSING by log 17, and the occupancy keeps
its value by log 20.) -/
def Obligations.EntryLaneTimers : Prop :=
  ∀ (n : LaneId) (t : Ticket) (s : State),
    let l := s.entry[n]
    let stuck := fun l : EntryLane => { l with
      state := .stuck, admission := none, admitted := false, lastCommit := none, arm := .raised
      counts := { l.counts with stuck := inc16 l.counts.stuck } }
    (l.state = .settling → l.gapTimer ≠ none → exec (.gapWindowExpiry n) s = .next { s with
      entry := upd s.entry n fun l =>
        { l with state := .idle, admission := none, admitted := false, lastCommit := none, arm := .lowered, passTimer := none, gapTimer := none } }) ∧
    (l.state = .passing → l.admitted = true → l.admission = some t.number → s.ticket? t.number = some t →
      exec (.entryStuckLimitExpiry n) s = .next (State.post .loopStuck (.stuckEntry n) { s.withCommit t .unmeasured with
        entry := upd s.entry n fun l => stuck { l with counts := { l.counts with commits := inc16 l.counts.commits } } })) ∧
    (l.state = .passing → l.admitted = false →
      exec (.entryStuckLimitExpiry n) s = .next (State.post .loopStuck (.stuckEntry n) { s with entry := upd s.entry n stuck })) ∧
    exec (.longLampTimerExpiry n) s = .next { s with entry := upd s.entry n fun l => { l with longTimer := none } } ∧
    (∀ u, exec (.longLampTimerExpiry n) s = .next u → u.sourceValue (.laneLong n) = false)

/-- The exit lanes: in OPEN a rise starts the stuck timer and a fall stops it and counts one exit; its expiry takes the lane to STUCK,
counted and posted; a fall in STUCK counts one exit and takes the lane to OPEN; in CLOSED edges change only the loop field. -/
def Obligations.ExitLoops : Prop :=
  ∀ (x : ExitId) (s : State),
    let e := s.exits[x]
    (e.loop = .clear → exec (.exitLoopRise x) s = .next { s with
      exits := upd s.exits x fun e =>
        { e with loop := .occupied, stuckTimer := if e.state = .isOpen then some (e.settings.stuckLimit * 1000) else e.stuckTimer } }) ∧
    (e.loop = .occupied → exec (.exitLoopFall x) s = .next { s with
      exits := upd s.exits x fun e =>
        { e with
          loop := .clear, state := if e.state = .stuck then .isOpen else e.state
          stuckTimer := if e.state = .isOpen then none else e.stuckTimer
          exits := if e.state = .closed then e.exits else inc16 e.exits } }) ∧
    (e.state = .isOpen → e.stuckTimer ≠ none →
      exec (.exitStuckTimerExpiry x) s = .next (State.post .loopStuck (.stuckExit x) { s with
        exits := upd s.exits x fun e => { e with state := .stuck, stuckTimer := none, stuck := inc16 e.stuck } }))

/-! ### Show clocks and frame monitoring -/

/-- SET_SCREEN: a change of rate is refused SCREEN_STATE outside IDLE and ENDED, then RANGE when a cue or the clock has a frame at or
above the new fps; else the five settings are replaced, the delay is formed anew, and a change of rate sets P_last, e and the reference.
-/
def Obligations.SetScreen : Prop :=
  ∀ (p : PortId) (tag : Byte) (i : ScreenId) (t : ScreenSettings) (fps : Nat) (s : State),
    let w := s.shows[i]
    let bytes := u8 fps ++ u16 t.picture ++ u16 t.exciter ++ i16 t.trim ++ u8 (if t.holdOnLoss then 1 else 0)
    let sum := (t.picture : Int) - t.exciter + t.trim
    let clamped : Bool := decide (sum < 0 ∨ 1250 < sum)
    let tenths := if sum < 0 then 0 else if 1250 < sum then 1250 else sum.toNat
    s.accepts p ⟨0x12, tag, u8 i.val ++ bytes⟩ [.booth, .service] = true →
    (fps = 24 ∧ t.rate = .fps24) ∨ (fps = 25 ∧ t.rate = .fps25) ∨ (fps = 30 ∧ t.rate = .fps30) →
    t.picture ≤ 2000 → t.exciter ≤ 2000 → -500 ≤ t.trim → t.trim ≤ 500 →
    exec (.setScreen p tag (u8 i.val ++ bytes)) s = .next (
      if t.rate ≠ w.settings.rate ∧ ¬(w.state = .idle ∨ w.state = .ended) then (s.taken p).refusedWith p 0x12 tag .screenState
      else if t.rate ≠ w.settings.rate ∧ ((s.cues[i]).cues.any (fun c => decide (fps ≤ c.pos.frame)) = true ∨ fps ≤ w.clock.frame) then
        (s.taken p).refusedWith p 0x12 tag .range
      else State.replied p 0x12 tag (bytes ++ flagByte clamped) { s.taken p with
        shows := upd s.shows i fun w => { w with
          settings := t
          monitor := if t.rate = w.settings.rate then w.monitor
            else { w.monitor with pLast := (1000000 + fps / 2) / fps, e := 4 * ((1000000 + fps / 2) / fps), reference := .stale } }
        aligns := upd s.aligns i fun a => { a with dTenths := tenths, clamped := clamped, dSamples := (tenths * 48 + 5) / 10 } })

/-- START_SHOW and a show-mark edge set start pending in ARMED; in the other states the one is refused SCREEN_STATE and the other ignored.
ARM_SHOW in IDLE and ENDED makes the changes of R57 in the clock, the monitor, the screen record, the Cue Unit, the Order Unit, the Audio
Intake and the Alignment Unit, and nothing else; in any other state it is refused SCREEN_STATE. -/
def Obligations.ArmAndStart : Prop :=
  ∀ (p : PortId) (tag : Byte) (i : ScreenId) (s : State),
    let armed := (s.shows[i]).state = .armed
    let idle := (s.shows[i]).state = .idle ∨ (s.shows[i]).state = .ended
    (s.accepts p ⟨0x13, tag, u8 i.val⟩ [.booth, .service] = true →
      (¬idle → exec (.armShow p tag (u8 i.val)) s = .next ((s.taken p).refusedWith p 0x13 tag .screenState)) ∧
      (idle → exec (.armShow p tag (u8 i.val)) s = .next (State.replied p 0x13 tag [] { s.taken p with
      shows := upd s.shows i fun w => { w with
        clock := { second := 0, frame := 0 }, clockLimit := false
        monitor := { w.monitor with pLast := w.settings.rate.pNom, reference := .stale, glitches := 0, late := 0 }
        state := .armed, startPending := false, framesStopped := false, holdReason := none, losses := 0 }
      cues := upd s.cues i fun u =>
        { u with cues := u.cues.map (fun c => { c with outcome := .notReached }), cursor := 0, flagA := false, flagB := false }
      orders := { s.orders with released := upd s.orders.released i fun _ => false }
      intakes := upd s.intakes i fun k => { k with
        ring := [], isOpen := true, lastAccepted := none, expected := none
        returnLine := if k.holding then k.returnLine ++ [.resume] else k.returnLine
        holdTimer := if k.holding then none else k.holdTimer
        holding := false, counts := { IntakeCounts.zero with resumes := if k.holding then 1 else 0 } }
      aligns := upd s.aligns i fun a => { a with mode := .muted, readPoint := 0, repeatTaken := false, lastSlip := none, counts := .zero } }))) ∧
    (s.accepts p ⟨0x14, tag, u8 i.val⟩ [.booth, .service] = true →
      exec (.startShow p tag (u8 i.val)) s = .next (
        if armed then State.replied p 0x14 tag [] { s.taken p with shows := upd s.shows i fun w => { w with startPending := true } }
        else (s.taken p).refusedWith p 0x14 tag .screenState)) ∧
    exec (.showMarkEdge i) s = .next (
      if armed then { s with shows := upd s.shows i fun w => { w with startPending := true } } else s)

/-- HOLD_SHOW takes RUNNING and LOST to HELD with reason REQUEST, the pause asserted and SHOW_HELD posted, changes nothing in HELD, and is
refused in the other states. RESUME_SHOW is refused outside HELD, refused SOUND_DOWN of a show held for sound that is still down with the
option ON, and else makes the show RUNNING with the pause released and the stall timer started. -/
def Obligations.HoldAndResume : Prop :=
  ∀ (p : PortId) (tag : Byte) (i : ScreenId) (s : State),
    let w := s.shows[i]
    let clock := u16 w.clock.second ++ u8 w.clock.frame
    (s.accepts p ⟨0x15, tag, u8 i.val⟩ [.booth, .service] = true →
      (w.state = .running ∨ w.state = .lost → exec (.holdShow p tag (u8 i.val)) s = .next (State.replied p 0x15 tag (u8 3 ++ clock)
        (State.post .showHeld (.held i .request) { s.taken p with
          shows := upd s.shows i fun w =>
            { w with state := .held, holdReason := some .request, pause := true, framesStopped := decide (w.state = .lost) } }))) ∧
      (w.state = .held → exec (.holdShow p tag (u8 i.val)) s = .next (State.replied p 0x15 tag (u8 3 ++ clock) (s.taken p))) ∧
      (w.state = .idle ∨ w.state = .armed ∨ w.state = .ended →
        exec (.holdShow p tag (u8 i.val)) s = .next ((s.taken p).refusedWith p 0x15 tag .screenState))) ∧
    (s.accepts p ⟨0x16, tag, u8 i.val⟩ [.booth, .service] = true →
      let forSound := w.holdReason = some .sound ∧ w.settings.holdOnLoss = true ∧ (s.links[i]).soundUp = false
      (w.state ≠ .held → exec (.resumeShow p tag (u8 i.val)) s = .next ((s.taken p).refusedWith p 0x16 tag .screenState)) ∧
      (w.state = .held → forSound → exec (.resumeShow p tag (u8 i.val)) s = .next ((s.taken p).refusedWith p 0x16 tag .soundDown)) ∧
      (w.state = .held → ¬forSound → exec (.resumeShow p tag (u8 i.val)) s = .next (State.replied p 0x16 tag (u8 2 ++ clock)
        { s.taken p with
          shows := upd s.shows i fun w => { w with
            state := .running, holdReason := none, pause := false, framesStopped := false
            stallTimer := some w.settings.rate.stallLimit }
          aligns := upd s.aligns i fun a =>
            if w.framesStopped = true ∧ a.mode = .paused then { a with mode := .waiting } else a })))

/-- END_SHOW in a show ends it, with the changes of R65 that `State.showOver` names: which orders stay, the SHOW_ENDED total, the tickets'
open-order counts and the posts among them. The clock is answered, and the calls that can start then do. Outside a show it is refused
SCREEN_STATE. SCREEN_RESET takes the screen to IDLE from any state, posts nothing and answers the state found; it closes the windows,
empties the call queue and cuts the call, whose order and those of the queue are owed. The other screens' call units keep their windows,
queues and calls, the clip reader apart. -/
def Obligations.EndShowAndScreenReset : Prop :=
  ∀ (p : PortId) (tag : Byte) (i : ScreenId) (s : State),
    let w := s.shows[i]
    (s.accepts p ⟨0x17, tag, u8 i.val⟩ [.booth, .service] = true →
      (w.state.inShow = false → exec (.endShow p tag (u8 i.val)) s = .next ((s.taken p).refusedWith p 0x17 tag .screenState)) ∧
      (w.state.inShow = true → s.bookLaws → exec (.endShow p tag (u8 i.val)) s = .next (State.replied p 0x17 tag
        (u16 w.clock.second ++ u8 w.clock.frame) (State.startAll ((s.taken p).showOver i))))) ∧
    (s.accepts p ⟨0x18, tag, u8 i.val⟩ [.booth, .service] = true → ∃ u, exec (.screenReset p tag (u8 i.val)) s = .next u ∧
      u = { s with
        shows := upd s.shows i fun w =>
          { w with state := .idle, startPending := false, holdReason := none, framesStopped := false, stallTimer := none, pause := false }
        intakes := upd s.intakes i fun k => { k with ring := [], isOpen := false, holdTimer := none }
        aligns := upd s.aligns i fun a => { a with readPoint := 0, repeatTaken := false, mode := .muted }
        orders := { s.orders with
          table := s.orders.table.map fun o => if (s.calls[i]).hasCallOf o.number = true then { o with owed := true } else o }
        calls := u.calls, reader := u.reader, ports := u.ports } ∧
      u.ports = (State.replied p 0x18 tag
        (enumByte ([.idle, .armed, .running, .held, .lost, .ended] : List ScreenState) w.state) (s.taken p)).ports ∧
      u.calls[i] = { s.calls[i] with
        callWindow := false, orderWindow := false, queue := [], slot := none
        duckState := if (s.calls[i]).slot.isSome then .rampUp (s.calls[i]).gain 0 else (s.calls[i]).duckState
        cut := if (s.calls[i]).slot.isSome then inc16 (s.calls[i]).cut else (s.calls[i]).cut } ∧
      ∀ j : ScreenId, j ≠ i → (s.calls[j]).sameButReads u.calls[j])

/-- A frame pulse is judged against e as it stands when it is taken, the operand being the time since e last moved (log 3), in every screen
state: a glitch below P_lo, counted, with no other effect than the calls that can start; else accepted with e restarted at 0, and
measured, late or unmeasured by the reference and P_hi. What an accepted pulse does beyond the monitor is said by AcceptedPulseEffects and
CueTurn. -/
def Obligations.FramePulseJudged : Prop :=
  ∀ (i : ScreenId) (us : Nat) (s : State),
    let r := (s.shows[i]).settings.rate
    let m := (s.shows[i]).monitor
    let e := min r.stallLimit (m.e + us)
    let stale := m.reference = .stale ∨ e = r.stallLimit
    ∃ u, exec (.framePulse i us) s = .next u ∧
      (u.shows[i]).monitor =
        (if e < r.pLo then { m with e := e, reference := if stale then .stale else .valid, glitches := inc16 m.glitches }
        else if stale then { m with e := 0, reference := .valid }
        else if e ≤ r.pHi then { m with e := 0, pLast := e }
        else { m with e := 0, pLast := r.pHi, late := inc16 m.late }) ∧
      (e < r.pLo → u = State.startAll { s with shows := upd s.shows i fun w => { w with monitor := (u.shows[i]).monitor } })

/-- An accepted pulse, by the state it finds: no effect beyond the monitor in IDLE, ENDED and ARMED without start pending, whatever the cue
list; and where no cue stands at the position it reaches, the start of the show at 0+0, an advance in RUNNING and HELD, and recovery from
LOST with FRAME_RESUMED. At the saturated clock CLOCK_LIMIT is posted once a show, the clock stands and no pass is made, whatever the cue
list. (CueTurn says what a pulse does that reaches a position with cues.) -/
def Obligations.AcceptedPulseEffects : Prop :=
  ∀ (i : ScreenId) (us : Nat) (s : State),
    let w := s.shows[i]
    let r := w.settings.rate
    let m := (w.elapse us).monitor
    let monitor := m.pulse r
    let saturated := w.clock = { second := 65535, frame := r.fps - 1 }
    let reached := if w.state = .armed ∨ saturated then w.clock else w.clock.succ r.fps
    let limit := saturated ∧ w.clockLimit = false
    let noCue := ∀ c, (s.cues[i]).cues[(s.cues[i]).cursor]? = some c → c.pos ≠ reached
    r.pLo ≤ m.e →
    (w.state = .idle ∨ w.state = .ended ∨ (w.state = .armed ∧ w.startPending = false) →
      exec (.framePulse i us) s = .next (State.startAll { s with shows := upd s.shows i fun w => { w with monitor := monitor } })) ∧
    (w.state = .armed → w.startPending = true → noCue → exec (.framePulse i us) s = .next (State.startAll { s with
      shows := upd s.shows i fun w =>
        { w with monitor := monitor, state := .running, startPending := false, stallTimer := some r.stallLimit }
      aligns := upd s.aligns i fun a => { a with mode := .waiting } })) ∧
    (w.state = .running ∨ w.state = .held → saturated ∨ noCue → exec (.framePulse i us) s = .next (State.startAll
      (State.postIf limit .clockLimit (.screen i) { s with
        shows := upd s.shows i fun w => { w with
          monitor := monitor, stallTimer := some r.stallLimit, clock := reached
          framesStopped := if w.state = .held then false else w.framesStopped
          clockLimit := if saturated then true else w.clockLimit }
        aligns := upd s.aligns i fun a =>
          if w.state = .held ∧ w.framesStopped = true ∧ a.mode = .paused then { a with mode := .waiting } else a }))) ∧
    (w.state = .lost → saturated ∨ noCue → exec (.framePulse i us) s = .next (State.startAll
      (State.postIf limit .clockLimit (.screen i) (State.post .frameResumed (.screen i) { s with
        shows := upd s.shows i fun w => { w with
          monitor := monitor, state := .running, stallTimer := some r.stallLimit, clock := reached
          clockLimit := if saturated then true else w.clockLimit }
        aligns := upd s.aligns i fun a => if a.mode = .paused then { a with mode := .waiting } else a }))))

/-- The stalls: e at the stall limit marks the reference STALE and posts nothing; the stall timer's expiry makes a RUNNING show LOST,
counted and posted, and sets frames stopped in HELD with no event, the sound being paused in both; with the timer stopped there is no
expiry, and nothing changes (log 2). -/
def Obligations.Stalls : Prop :=
  ∀ (i : ScreenId) (s : State),
    let w := s.shows[i]
    let paused := upd s.aligns i fun a => { a with mode := .paused }
    exec (.frameMonitorStall i) s = .next { s with
      shows := upd s.shows i fun w => { w with monitor := { w.monitor with e := w.settings.rate.stallLimit, reference := .stale } } } ∧
    (w.stallTimer = none → exec (.stallTimerExpiry i) s = .next s) ∧
    (w.stallTimer ≠ none → w.state = .running → exec (.stallTimerExpiry i) s = .next (State.post .frameLost (.screen i) { s with
      shows := upd s.shows i fun w => { w with stallTimer := none, state := .lost, losses := inc16 w.losses }, aligns := paused })) ∧
    (w.stallTimer ≠ none → w.state = .held → exec (.stallTimerExpiry i) s = .next { s with
      shows := upd s.shows i fun w => { w with stallTimer := none, framesStopped := true }, aligns := paused })

/-! ### Cue lists -/

/-- LOAD_CUE places a cue after every cue whose position is not later than its own and before every other, raising a cursor that stands
beyond its place, and answers its index and the number of cues; it is refused RANGE, LIST_FULL, DUPLICATE_ID and CUE_PAST in this order.
-/
def Obligations.LoadCue : Prop :=
  ∀ (p : PortId) (tag : Byte) (a : LoadCueArgs) (s : State),
    let payload := u8 a.screen.val ++ u8 a.id ++ (u16 a.pos.second ++ u8 a.pos.frame) ++
      enumByte ([.always, .ifA, .ifNotA, .ifB, .ifNotB, .ifBoth, .ifEither, .ifNeither] : List Guard) a.guard ++ a.action.byte ++
      a.action.argument.getD []
    let w := s.shows[a.screen]
    let u := s.cues[a.screen]
    s.accepts p ⟨0x1A, tag, payload⟩ [.booth, .service] = true → 1 ≤ a.id → a.id ≤ 255 → a.pos.second ≤ 65535 → a.pos.frame ≤ 255 →
    (∀ code, a.action = .mark code → code ≤ 255) →
    let refused := fun status => exec (.loadCue p tag payload) s = .next ((s.taken p).refusedWith p 0x1A tag status)
    (w.settings.rate.fps ≤ a.pos.frame → refused .range) ∧
    (a.pos.frame < w.settings.rate.fps → 64 ≤ u.cues.length → refused .listFull) ∧
    (a.pos.frame < w.settings.rate.fps → u.cues.length < 64 → (∃ c ∈ u.cues, c.id = a.id) → refused .duplicateId) ∧
    (a.pos.frame < w.settings.rate.fps → u.cues.length < 64 → (∀ c ∈ u.cues, c.id ≠ a.id) →
      (w.state.inShow = true ∧ a.pos.later w.clock = false → refused .cuePast) ∧
      (w.state.inShow = false ∨ a.pos.later w.clock = true → u.cues.Pairwise (fun b c => b.pos.later c.pos = false) →
        ∃ before after : List Cue, u.cues = before ++ after ∧ (∀ c ∈ before, c.pos.later a.pos = false) ∧
          (∀ c ∈ after, c.pos.later a.pos = true) ∧
          exec (.loadCue p tag payload) s = .next (State.replied p 0x1A tag (u8 before.length ++ u8 (u.cues.length + 1))
            { s.taken p with cues := upd s.cues a.screen fun u => { u with
              cues := before ++ [{ id := a.id, pos := a.pos, guard := a.guard, action := a.action, outcome := .notReached }] ++ after
              cursor := if before.length < u.cursor then u.cursor + 1 else u.cursor } })))

/-- DELETE_CUE removes the cue with the id, lowering a cursor beyond it, answers the number of cues left, and is refused RANGE for a screen
or an id out of its range, then NO_SUCH_CUE, then, of a cue before the cursor in a show, CUE_PAST. R77 whole: CLEAR_CUES outside a show
empties the list, sets the cursor to 0, the flags to false and the cue lamps to OFF; it is refused RANGE for a screen out of its range and
SCREEN_STATE in a show. Neither changes anything else, the screen's state included. -/
def Obligations.DeleteAndClearCues : Prop :=
  ∀ (p : PortId) (tag : Byte) (i : ScreenId) (id : Nat) (s : State),
    let u := s.cues[i]
    let state := (s.shows[i]).state
    let inShow := state = .running ∨ state = .held ∨ state = .lost
    (∀ screen k : Byte, s.accepts p ⟨0x1B, tag, [screen, k]⟩ [.booth, .service] = true → 4 ≤ screen.toNat ∨ k = 0#8 →
      exec (.deleteCue p tag [screen, k]) s = .next ((s.taken p).refusedWith p 0x1B tag .range)) ∧
    (∀ screen : Byte, s.accepts p ⟨0x1C, tag, [screen]⟩ [.booth, .service] = true → 4 ≤ screen.toNat →
      exec (.clearCues p tag [screen]) s = .next ((s.taken p).refusedWith p 0x1C tag .range)) ∧
    (s.accepts p ⟨0x1B, tag, u8 i.val ++ u8 id⟩ [.booth, .service] = true → 1 ≤ id → id ≤ 255 →
      ((∀ c ∈ u.cues, c.id ≠ id) →
        exec (.deleteCue p tag (u8 i.val ++ u8 id)) s = .next ((s.taken p).refusedWith p 0x1B tag .noSuchCue)) ∧
      (∀ before c after, u.cues = before ++ c :: after → (∀ b ∈ before, b.id ≠ id) → c.id = id →
        exec (.deleteCue p tag (u8 i.val ++ u8 id)) s = .next (
          if inShow ∧ before.length < u.cursor then (s.taken p).refusedWith p 0x1B tag .cuePast
          else State.replied p 0x1B tag (u8 (before ++ after).length) { s.taken p with cues := upd s.cues i fun u =>
            { u with cues := before ++ after, cursor := if before.length < u.cursor then u.cursor - 1 else u.cursor } }))) ∧
    (s.accepts p ⟨0x1C, tag, u8 i.val⟩ [.booth, .service] = true →
      exec (.clearCues p tag (u8 i.val)) s = .next (
        if inShow then (s.taken p).refusedWith p 0x1C tag .screenState
        else State.replied p 0x1C tag [] { s.taken p with cues := upd s.cues i fun _ =>
          { cues := [], cursor := 0, flagA := false, flagB := false, lamps := #v[false, false, false, false] } }))

/-- The cues at the position that an accepted pulse reaches take their turns in list order, from ARMED with start pending, RUNNING, HELD and
LOST alike, each finding what those before it left: the cursor moves past the cue, and its action is carried out when its guard holds by the
table of R81, EXECUTED, else SKIPPED; after an END carried out the later ones are PASSED_OVER. Each action is then shown of one cue in
RUNNING: TEST, whose source R84's table gives and whose flag R83 gives for each mode; MARK; LAMP; HOLD; the entry and window actions; END,
with the changes of R65 that `State.showOver` names; KITCHEN_RELEASE, which with the release flag clear sets it, moves the held orders to
the queue while that holds fewer than 48, makes the rest release pending and posts the crossings; and CALLS_OPEN, which opens a CLOSED
window, runs the owed fill (all its room taken by log 24) and starts the head call. -/
def Obligations.CueTurn : Prop :=
  (∀ (i : ScreenId) (us : Nat) (front due back : List Cue) (s : State),
    let w := s.shows[i]
    let r := w.settings.rate
    let reached := if w.state = .armed then w.clock else w.clock.succ r.fps
    (w.state = .armed ∧ w.startPending = true) ∨
      ((w.state = .running ∨ w.state = .held ∨ w.state = .lost) ∧ w.clock ≠ { second := 65535, frame := r.fps - 1 }) →
    r.pLo ≤ (w.elapse us).monitor.e → (s.cues[i]).cues = front ++ due ++ back → (s.cues[i]).cursor = front.length →
    (∀ c ∈ due, c.pos = reached) → (∀ c ∈ back.head?, c.pos ≠ reached) →
    let atPulse := State.postIf (w.state = .lost) .frameResumed (.screen i) { s with
      shows := upd s.shows i fun w => { w with
        monitor := (w.elapse us).monitor.pulse r, stallTimer := some r.stallLimit, clock := reached
        state := if w.state = .held then .held else .running
        startPending := if w.state = .armed then false else w.startPending
        framesStopped := if w.state = .held then false else w.framesStopped }
      aligns := upd s.aligns i fun a =>
        if w.state = .armed ∨ (a.mode = .paused ∧ (w.state = .lost ∨ (w.state = .held ∧ w.framesStopped = true))) then { a with mode := .waiting }
        else a }
    let turn := fun (x : State × Bool) (c : Cue) =>
      let k := (x.1.cues[i]).cursor
      let past : State := { x.1 with cues := upd x.1.cues i fun u => { u with cursor := u.cursor + 1 } }
      let marked := fun (out : CueOutcome) (s : State) =>
        { s with cues := upd s.cues i fun u => { u with cues := u.cues.modify k fun c => { c with outcome := out } } }
      let a := (x.1.cues[i]).flagA
      let b := (x.1.cues[i]).flagB
      let holds := match c.guard with
        | .always => true | .ifA => a | .ifNotA => !a | .ifB => b | .ifNotB => !b
        | .ifBoth => a && b | .ifEither => a || b | .ifNeither => !(a || b)
      if x.2 then (marked .passedOver past, true)
      else if holds then (marked .executed (past.runAction i c.action), decide (c.action = .endShow))
      else (marked .skipped past, false)
    exec (.framePulse i us) s = .next (due.foldl turn (atPulse, false)).1.startAll) ∧
  ∀ (i : ScreenId) (us : Nat) (c : Cue) (s : State),
    let w := s.shows[i]
    let u := s.cues[i]
    let r := w.settings.rate
    let holds : Bool := match c.guard with
      | .always => true | .ifA => u.flagA | .ifNotA => !u.flagA | .ifB => u.flagB | .ifNotB => !u.flagB
      | .ifBoth => u.flagA && u.flagB | .ifEither => u.flagA || u.flagB | .ifNeither => !(u.flagA || u.flagB)
    w.state = .running → r.pLo ≤ (w.elapse us).monitor.e → w.clock ≠ { second := 65535, frame := r.fps - 1 } →
    u.cues[u.cursor]? = some c → c.pos = w.clock.succ r.fps → (∀ d, u.cues[u.cursor + 1]? = some d → d.pos ≠ c.pos) →
    let moved : State := { s with
      shows := upd s.shows i fun w =>
        { w with monitor := (w.elapse us).monitor.pulse r, stallTimer := some r.stallLimit, clock := w.clock.succ r.fps }
      cues := upd s.cues i fun u => { u with
        cursor := u.cursor + 1
        cues := u.cues.modify u.cursor fun c => { c with outcome := if holds then .executed else .skipped } } }
    let becomes := fun t : State => exec (.framePulse i us) s = .next t.startAll
    (holds = false → becomes moved) ∧
    let value := fun source : TestSource => match source with
      | .one => true
      | .zero => false
      | .flagA => u.flagA
      | .flagB => u.flagB
      | .soundUp => (s.links[i]).soundUp
      | .audioReady => decide ((s.aligns[i]).dSamples + 240 ≤ (s.intakes[i]).ring.length * 240)
      | .alignLocked => decide ((s.aligns[i]).mode = .locked)
      | .zoneFull => decide ((s.zones[i]).pending + (s.zones[i]).present = (s.zones[i]).capacity)
      | .entryOpen => (s.zones[i]).isOpen
      | .ordersHeld => s.orders.table.any fun o => o.screen == i && match o.state with | .held _ => true | _ => false
      | .kitchenHigh => decide (s.orders.settings.high ≤ s.orders.kitchen.length)
      | .callsPending => decide ((s.calls[i]).queue ≠ []) || (s.calls[i]).slot.isSome
      | .lanesQuiet => ([0, 1, 2, 3] : List LaneId).all fun n =>
        let l := s.entry[n]
        let admits := (l.admission.bind s.ticket?).any fun t => t.screen == i
        !(admits && (l.state == .armed || (l.state == .passing && l.admitted)))
    (∀ source mode, c.action = .test source mode .a → holds = true →
      let v := value source
      becomes { moved with cues := upd moved.cues i fun u => { u with
        flagA := match mode with | .set => v | .and => u.flagA && v | .or => u.flagA || v | .xor => xor u.flagA v } }) ∧
    (∀ source mode, c.action = .test source mode .b → holds = true →
      let v := value source
      becomes { moved with cues := upd moved.cues i fun u => { u with
        flagB := match mode with | .set => v | .and => u.flagB && v | .or => u.flagB || v | .xor => xor u.flagB v } }) ∧
    (∀ code, c.action = .mark code → holds = true → becomes (moved.post .cueMark (.mark i code))) ∧
    (∀ k on, c.action = .lamp k on → holds = true →
      becomes { moved with cues := upd moved.cues i fun u => { u with lamps := upd u.lamps k fun _ => on } }) ∧
    (c.action = .hold → holds = true → becomes (State.post .showHeld (.held i .cue) { moved with
      shows := upd moved.shows i fun w => { w with state := .held, holdReason := some .cue, pause := true, framesStopped := false } })) ∧
    (c.action = .entryOpen ∨ c.action = .entryClose → holds = true → becomes { moved with
      zones := upd s.zones i fun z => { z with isOpen := decide (c.action = .entryOpen) } }) ∧
    (c.action = .ordersOpen ∨ c.action = .ordersClose → holds = true → becomes { moved with
      calls := upd s.calls i fun k => { k with orderWindow := decide (c.action = .ordersOpen) } }) ∧
    (c.action = .callsClose → holds = true → becomes { moved with calls := upd s.calls i fun k => { k with callWindow := false } }) ∧
    (c.action = .endShow → holds = true → s.bookLaws → becomes (moved.showOver i)) ∧
    (c.action = .kitchenRelease → holds = true →
      let b := s.orders
      let fill := b.kitchen.length
      let held := b.table.filter fun o => o.screen == i && o.state == .held false
      let joins := held.take (48 - fill)
      let after := fill + joins.length
      (b.released[i] = true → becomes moved) ∧
      (b.released[i] = false → s.bookLaws → becomes
        (State.postIf (fill = 0 ∧ 0 < after) .kitchenWork (.fill after)
          (State.postIf (fill < b.settings.high ∧ b.settings.high ≤ after) .kitchenHigh (.fill after) { moved with
            orders := { b with
              released := upd b.released i fun _ => true
              kitchen := b.kitchen ++ joins.map (·.number)
              table := b.table.map fun o =>
                if o ∈ joins then { o with state := .queued } else if o ∈ held then { o with state := .held true } else o } })))) ∧
    (c.action = .callsOpen → holds = true →
      let k := s.calls[i]
      (k.callWindow = true → becomes moved) ∧
      (k.callWindow = false → ∃ t, exec (.framePulse i us) s = .next t ∧
        t = { moved with orders := t.orders, calls := t.calls, reader := t.reader } ∧
        (∀ j : ScreenId, (t.calls[j]).orderWindow = (s.calls[j]).orderWindow ∧
          (t.calls[j]).callWindow = if j = i then true else (s.calls[j]).callWindow) ∧
        let owed := s.owedNow i
        let room := 16 - k.queue.length
        let queue := k.queue ++ (owed.take room).map CallEntry.orderCall
        let starts := (s.links[i]).soundUp = true ∧ s.dir.reading = false ∧ k.slot = none ∧ k.duckState = .up
        (¬starts ∨ queue = [] → CallUnit.sameButReads { k with callWindow := true, queue } t.calls[i]) ∧
        ∀ e rest, starts → queue = e :: rest → e.composed s.dir ≠ [] → (∀ n, e = .orderCall n → n < 1000) →
          CallUnit.entered e (e.composed s.dir) k.settings (.rampDown 0)
            (rest ++ ((owed.drop room).take (16 - rest.length)).map CallEntry.orderCall) { k with callWindow := true } t.calls[i]))

/-! ### Audio intake -/

/-- SET_SOUND replaces the three settings and, with the intake OPEN, examines the flow against the new marks: HOLD in FLOWING at or above
the new high mark, RESUME in HOLDING at or below the new low mark, else nothing. The flow state answered is that after the examination (the
model's choice, log 25). The hold timer's expiry in HOLDING sends HOLD again, restarts the timer and leaves the flow HOLDING; with the timer
stopped there is no expiry, and nothing changes (log 2). -/
def Obligations.SoundSettingsAndHoldTimer : Prop :=
  ∀ (p : PortId) (tag : Byte) (i : ScreenId) (t : SoundSettings) (s : State),
    let payload := u8 i.val ++ u8 t.high ++ u8 t.low ++ u16 t.holdTime
    let hold := fun k : Intake => { k with
      returnLine := k.returnLine ++ [FlowMessage.hold k.settings.holdTime], holding := true, holdTimer := some k.settings.holdTime
      counts := { k.counts with holds := inc16 k.counts.holds } }
    let resume := fun k : Intake => { k with
      returnLine := k.returnLine ++ [FlowMessage.resume], holding := false, holdTimer := none
      counts := { k.counts with resumes := inc16 k.counts.resumes } }
    let k := s.intakes[i]
    let holds := k.isOpen = true ∧ k.holding = false ∧ t.high ≤ k.ring.length
    let resumes := k.isOpen = true ∧ k.holding = true ∧ k.ring.length ≤ t.low
    (s.accepts p ⟨0x1E, tag, payload⟩ [.booth, .service] = true → 2 ≤ t.high → t.high ≤ 32 → t.low + 2 ≤ t.high → 10 ≤ t.holdTime →
      t.holdTime ≤ 1000 →
      exec (.setSound p tag payload) s = .next (State.replied p 0x1E tag
        (u8 t.high ++ u8 t.low ++ u16 t.holdTime ++ u8 k.ring.length ++
          u8 (if holds ∨ (k.holding = true ∧ ¬resumes) then 1 else 0))
        { s.taken p with intakes := upd s.intakes i fun k =>
          if holds then hold { k with settings := t } else if resumes then resume { k with settings := t } else { k with settings := t } })) ∧
    (k.holding = true → k.holdTimer ≠ none →
      exec (.holdTimerExpiry i) s = .next { s with intakes := upd s.intakes i hold }) ∧
    (k.holdTimer = none → exec (.holdTimerExpiry i) s = .next s)

/-- An arriving block judged by the steps of R93: a closed intake, a block that fails (R201: its first two bytes not the sync, fewer than
971 bytes, or a check that disagrees; bytes after the 971st are ignored), the sequence comparison, a malformed stamp, a stamp position below
the last accepted one plus 240, a full ring with AUDIO_OVERRUN and HOLD again, and the acceptance with its examination of the flow. Each
outcome changes what the steps give and nothing else. -/
def Obligations.AudioBlockArrival : Prop :=
  ∀ (i : ScreenId) (s : State),
    let k := s.intakes[i]
    let r := (s.shows[i]).settings.rate
    let outcome := fun (bytes : List Byte) (f : Intake → Intake) =>
      exec (.audioBlockArrival i bytes) s = .next { s with intakes := upd s.intakes i f }
    let hold := fun k : Intake => { k with
      returnLine := k.returnLine ++ [FlowMessage.hold k.settings.holdTime], holding := true, holdTimer := some k.settings.holdTime
      counts := { k.counts with holds := inc16 k.counts.holds } }
    (∀ bytes, k.isOpen = false →
      outcome bytes fun k => { k with counts := { k.counts with closed := inc16 k.counts.closed } }) ∧
    (∀ bytes, k.isOpen = true →
      bytes.take 2 ≠ [0xA5#8, 0x5A#8] ∨ bytes.length < 971 ∨
        (∃ body check extra, body.length = 967 ∧ check.length = 2 ∧ bytes = [0xA5#8, 0x5A#8] ++ body ++ check ++ extra ∧
          check ≠ checkBytes body) →
      outcome bytes fun k => { k with counts := { k.counts with blockBad := inc16 k.counts.blockBad } }) ∧
    (∀ (b : BlockFields) (extra : List Byte), k.isOpen = true → b.sequence < 65536 → b.second < 65536 → b.frame < 256 → b.offset < 65536 → b.samples.length = 240 →
      let asp := (b.second * r.fps + b.frame) * r.spf + b.offset
      let judged := fun k : Intake => { k with
        expected := some ((b.sequence + 1) % 65536)
        counts := { k.counts with
          seqGap := if k.expected ≠ none ∧ k.expected ≠ some b.sequence then inc16 k.counts.seqGap else k.counts.seqGap } }
      let wellFormed := b.frame < r.fps ∧ b.offset < r.spf
      let back := ∃ last, k.lastAccepted = some last ∧ asp < last + 240
      let placed := fun k : Intake =>
        let k := judged k
        { k with
          ring := k.ring ++ [{ second := b.second, frame := b.frame, offset := b.offset, asp, samples := b.samples }]
          lastAccepted := some asp, counts := { k.counts with accepted := inc16 k.counts.accepted } }
      (¬wellFormed → outcome (b.bytes ++ extra) fun k =>
        { judged k with counts := { (judged k).counts with stampBad := inc16 k.counts.stampBad } }) ∧
      (wellFormed → back → outcome (b.bytes ++ extra) fun k =>
        { judged k with counts := { (judged k).counts with stampBack := inc16 k.counts.stampBack } }) ∧
      (wellFormed → ¬back → 32 ≤ k.ring.length →
        exec (.audioBlockArrival i (b.bytes ++ extra)) s = .next (State.post .audioOverrun (.screen i) { s with
          intakes := upd s.intakes i fun k =>
            hold { judged k with counts := { (judged k).counts with overruns := inc16 k.counts.overruns } } })) ∧
      (wellFormed → ¬back → k.ring.length < 32 → outcome (b.bytes ++ extra) fun k =>
        if k.holding = false ∧ k.settings.high ≤ k.ring.length + 1 then hold (placed k) else placed k))

/-! ### Output instants -/

/-- The instants that take nothing: MUTED, PAUSED, WAITING with an empty ring, and WAITING with the next sample not yet due hand the mixer
silence, and leave the ring, the alignment record, the flags and every other block but the Call Unit as they were. PSP, by which these and
the playing instants of PlayingInstants judge what is due, is the place that R109 forms from the clock, e and P_last in every mode. -/
def Obligations.QuietInstants : Prop :=
  ∀ (i : ScreenId) (us : Nat) (s : State), s.inReset = false →
    let w := (s.shows[i]).elapse us
    let r := w.settings.rate
    let standing := w.state = .lost ∨ (w.state = .held ∧ w.framesStopped = true) ∨ w.clockLimit = true
    let psp := (w.clock.second * r.fps + w.clock.frame) * r.spf +
      (if standing then r.spf - 1 else min (r.spf - 1) (w.monitor.e * r.spf / w.monitor.pLast))
    let a := s.aligns[i]
    w.psp = psp ∧ (a.mode = .muted ∨ a.mode = .paused ∨
      (a.mode = .waiting ∧ ∀ b ∈ (s.intakes[i]).ring.head?, psp < b.asp + a.readPoint + a.dSamples) →
    ∃ u, exec (.outputInstant i us) s = .next u ∧
      u = { s with shows := upd s.shows i (·.elapse us), orders := u.orders, calls := u.calls, reader := u.reader } ∧
      ((s.calls[i]).slot = none → (s.calls[i]).duckState = .up → (u.calls[i]).audioOut = (0, 0)))

/-- The instants that play: inside a block by R116, with samples 119 and 239 dropped in CATCH_UP and emitted twice in HOLD_BACK; at a block
start by the mode table of R115, with the slip recorded; and at WAITING's end, at any read point. The sample chosen goes out unchanged where
no call is mixed over it, the read point moves on (nothing then being due again, log 13), and the block passed leaves the ring with the flow
examined. -/
def Obligations.PlayingInstants : Prop :=
  ∀ (i : ScreenId) (us : Nat) (b next : Block) (rest : List Block) (s : State), s.inReset = false →
    let w := (s.shows[i]).elapse us
    let r := w.settings.rate
    let a := s.aligns[i]
    let playing := a.mode = .locked ∨ a.mode = .catchUp ∨ a.mode = .holdBack
    let slipOf := fun (b : Block) (k : Nat) => (w.psp : Int) - ((b.asp : Int) + k + a.dSamples)
    let near := fun slip : Int => -(2 * (r.spf : Int)) ≤ slip ∧ slip ≤ 2 * (r.spf : Int)
    let flow := fun (ring : List Block) (k : Intake) =>
      if ring.length < k.ring.length ∧ k.holding = true ∧ ring.length ≤ k.settings.low then
        { k with ring := ring, returnLine := k.returnLine ++ [.resume], holding := false, holdTimer := none
                 counts := { k.counts with resumes := inc16 k.counts.resumes } }
      else { k with ring := ring }
    let plays := fun (out : Pair) (ring : List Block) (a : Align) => ∃ u, exec (.outputInstant i us) s = .next u ∧
      u = { s with
        shows := upd s.shows i (·.elapse us), intakes := upd s.intakes i (flow ring), aligns := upd s.aligns i fun _ => a
        orders := u.orders, calls := u.calls, reader := u.reader } ∧
      ((s.calls[i]).slot = none → (s.calls[i]).duckState = .up → (u.calls[i]).audioOut = out)
    let sample := fun (b : Block) (k : Nat) => b.samples.getD k (0, 0)
    let on := fun (mode : AlignMode) (slip : Option Int) (counts : AlignCounts) (k : Nat) =>
      { a with mode := mode, lastSlip := slip, counts := counts, readPoint := k, repeatTaken := false }
    let dropped := { a.counts with dropped := inc32 a.counts.dropped }
    let repeated := { a.counts with repeated := inc32 a.counts.repeated }
    ((s.intakes[i]).ring = b :: rest → a.readPoint ≠ 0 → a.readPoint < 239 → playing →
      (a.mode = .locked ∨ a.readPoint ≠ 119 →
        plays (sample b a.readPoint) (b :: rest) (on a.mode a.lastSlip a.counts (a.readPoint + 1))) ∧
      (a.mode = .catchUp → a.readPoint = 119 → plays (sample b 120) (b :: rest) (on .catchUp a.lastSlip dropped 121)) ∧
      (a.mode = .holdBack → a.readPoint = 119 → a.repeatTaken = false →
        plays (sample b 119) (b :: rest) { a with repeatTaken := true }) ∧
      (a.mode = .holdBack → a.readPoint = 119 → a.repeatTaken = true →
        plays (sample b 119) (b :: rest) (on .holdBack a.lastSlip repeated 120))) ∧
    ((s.intakes[i]).ring = b :: rest → a.readPoint = 239 →
      (a.mode = .locked → plays (sample b 239) rest (on .locked a.lastSlip a.counts 0)) ∧
      (a.mode = .holdBack → a.repeatTaken = false → plays (sample b 239) (b :: rest) { a with repeatTaken := true }) ∧
      (a.mode = .holdBack → a.repeatTaken = true → plays (sample b 239) rest (on .holdBack a.lastSlip repeated 0))) ∧
    ((s.intakes[i]).ring = b :: next :: rest → a.readPoint = 239 → a.mode = .catchUp → near (slipOf next 0) →
      plays (sample next 0) (next :: rest) (on (blockMode .catchUp (slipOf next 0)) (some (slipOf next 0)) dropped 1)) ∧
    ((s.intakes[i]).ring = b :: rest → a.readPoint = 0 → near (slipOf b 0) →
      (playing → plays (sample b 0) (b :: rest) (on (blockMode a.mode (slipOf b 0)) (some (slipOf b 0)) a.counts 1)) ∧
      (a.mode = .waiting → 0 ≤ slipOf b 0 →
        plays (sample b 0) (b :: rest) (on (blockMode .locked (slipOf b 0)) (some (slipOf b 0)) a.counts 1))) ∧
    ((s.intakes[i]).ring = b :: rest → a.mode = .waiting → a.readPoint ≠ 0 → a.readPoint < 239 → 0 ≤ slipOf b a.readPoint →
      slipOf b a.readPoint ≤ 2 * (r.spf : Int) →
      plays (sample b a.readPoint) (b :: rest) (on .locked a.lastSlip a.counts (a.readPoint + 1))) ∧
    ((s.intakes[i]).ring = b :: rest → a.mode = .waiting → a.readPoint = 239 → 0 ≤ slipOf b 239 → slipOf b 239 ≤ 2 * (r.spf : Int) →
      plays (sample b 239) rest (on .locked a.lastSlip a.counts 0))

/-- A resync toward a later position discards and counts the blocks before the target, is counted and posts SOUND_RESYNC; the sample of
the target goes out in LOCKED when the head then holds it, else WAITING starts. A resync to wait keeps the head block whole. An underrun
is counted, posts nothing, and goes to WAITING. Each is judged at a block start, at WAITING's sample and, in CATCH_UP with the read point
at 239, after the drop of that sample: the head leaves the ring, the drop is counted, and the next block's start, or the underrun of an
empty ring, follows in the same instant. The flow is examined where the ring has fallen. (Repeat taken is false once the read point has
moved, log 13.) -/
def Obligations.ResyncsAndUnderruns : Prop :=
  ∀ (i : ScreenId) (us : Nat) (s : State), s.inReset = false →
    let w := (s.shows[i]).elapse us
    let r := w.settings.rate
    let a := s.aligns[i]
    let playing := a.mode = .locked ∨ a.mode = .catchUp ∨ a.mode = .holdBack
    let drops := a.mode = .catchUp ∧ a.readPoint = 239 ∧ (s.intakes[i]).ring ≠ []
    let ring := if drops then (s.intakes[i]).ring.tail else (s.intakes[i]).ring
    let point := if drops then 0 else a.readPoint
    let counted := if drops then { a.counts with dropped := inc32 a.counts.dropped } else a.counts
    let slipOf := fun b : Block => (w.psp : Int) - ((b.asp : Int) + point + a.dSamples)
    let target := w.psp - a.dSamples
    let flow := fun (ring : List Block) (k : Intake) =>
      if ring.length < k.ring.length ∧ k.holding = true ∧ ring.length ≤ k.settings.low then
        { k with ring := ring, returnLine := k.returnLine ++ [.resume], holding := false, holdTimer := none
                 counts := { k.counts with resumes := inc16 k.counts.resumes } }
      else { k with ring := ring }
    let gives := fun (posts : Bool) (out : Pair) (ring : List Block) (a : Align) => ∃ u, exec (.outputInstant i us) s = .next u ∧
      u = { s with
        shows := upd s.shows i (·.elapse us), intakes := upd s.intakes i (flow ring), aligns := upd s.aligns i fun _ => a
        orders := u.orders, calls := u.calls, reader := u.reader, ports := (s.postIf posts .soundResync (.screen i)).ports } ∧
      ((s.calls[i]).slot = none → (s.calls[i]).duckState = .up → (u.calls[i]).audioOut = out)
    let waits := fun (slip : Option Int) (counts : AlignCounts) =>
      { a with mode := .waiting, lastSlip := slip, counts := counts, readPoint := 0, repeatTaken := false }
    (∀ before left : List Block, ring = before ++ left → (∀ b ∈ before, b.asp + 239 < target) → (∀ b ∈ left.head?, target ≤ b.asp + 239) →
      (∃ b ∈ ring.head?, 2 * (r.spf : Int) < slipOf b ∧ ((playing ∧ point = 0) ∨ a.mode = .waiting)) →
      let slip := if playing then ring.head?.map slipOf else a.lastSlip
      let counts := { counted with
        lateResyncs := inc16 a.counts.lateResyncs, discarded := min 65535 (a.counts.discarded + before.length) }
      (left = [] → gives true (0, 0) [] (waits slip counts)) ∧
      (∀ b rest, left = b :: rest → target < b.asp → gives true (0, 0) left (waits slip counts)) ∧
      (∀ b rest, left = b :: rest → b.asp ≤ target → target < b.asp + 239 →
        gives true (b.samples.getD (target - b.asp) (0, 0)) left
          { a with mode := .locked, lastSlip := some 0, counts := counts, readPoint := target - b.asp + 1, repeatTaken := false }) ∧
      (∀ b rest, left = b :: rest → target = b.asp + 239 →
        gives true (b.samples.getD 239 (0, 0)) rest
          { a with mode := .locked, lastSlip := some 0, counts := counts, readPoint := 0, repeatTaken := false })) ∧
    (∀ b rest, ring = b :: rest → playing → point = 0 → slipOf b < -(2 * (r.spf : Int)) →
      gives true (0, 0) (b :: rest) (waits (some (slipOf b)) { counted with earlyResyncs := inc16 a.counts.earlyResyncs })) ∧
    (ring = [] → playing → gives false (0, 0) [] (waits a.lastSlip { counted with underruns := inc16 a.counts.underruns }))

/-- The mixer at an instant: the gain of the duck state's step, the clip sample, each output sample floor(prog × gain / 256) + floor(clip
× level / 256) held within −32768..32767, each sample so changed counted, and a block not in the buffer at its first sample counted late
and played as silence. The duck state moves on as R136 gives, and settings held back take effect at UP. The lead runs down, and then the
place moves on sample by sample and block by block. At the last sample the call ends: counted as played, reported to the Order Unit, whose
READY order has one call more and the night clock as its last call end, and the slot left. When a call may follow, the head entry enters
the slot at once with the latched settings, DUCKED; else the slot is empty and the duck state RAMP_UP from the duck gain. Behind a call that
has entered its slot the owed fill brings in the owed orders that there is room for, earliest on the shelf first (log 24). -/
def Obligations.MixOfAnInstant : Prop :=
  ∀ (i : ScreenId) (us : Nat) (s : State), s.inReset = false →
    let c := s.calls[i]
    let prog := ((s.modShow i (·.elapse us)).sounding i).out
    let duck := match c.slot with | some q => q.duck | none => c.settings.duck
    let level := match c.slot with | some q => q.level | none => c.settings.level
    let late := match c.slot with
      | some q => decide (q.lead = 0 ∧ q.sample = 0 ∧ ∀ b ∈ q.buffer, b.index ≠ q.block)
      | none => false
    let clip : Sample := match c.slot with
      | some q => if 0 < q.lead ∨ q.skipping = true ∨ late = true then 0
          else (((q.buffer.find? fun b => b.index == q.block).bind fun b => b.samples[q.sample]?).getD 0)
      | none => 0
    let gain := match c.duckState with
      | .up => 256
      | .rampDown k => 256 - (256 - duck) * (k + 1) / 480
      | .ducked => duck
      | .rampUp g k => g + (256 - g) * (k + 1) / 480
    let next : DuckState := match c.duckState with
      | .up => .up
      | .rampDown k => if 480 ≤ k + 1 then .ducked else .rampDown (k + 1)
      | .ducked => .ducked
      | .rampUp g k => if 480 ≤ k + 1 then .up else .rampUp g (k + 1)
    let exact := fun v : Sample => v.toInt * (gain : Int) / 256 + clip.toInt * (level : Int) / 256
    let held := fun x : Int => max (-32768) (min 32767 x)
    let changed := fun v : Sample => if held (exact v) = exact v then 0 else 1
    let settled : MixSettings := if next = .up then c.heldBack.getD c.settings else c.settings
    let follows := c.callWindow = true ∧ (s.links[i]).soundUp = true ∧ s.dir.reading = false ∧ c.queue ≠ []
    let joined := fun rest : List CallEntry => (s.owedNow i).take (16 - rest.length)
    ∃ u, exec (.outputInstant i us) s = .next u ∧ (u.calls[i]).gain = gain ∧
      (u.calls[i]).audioOut = (BitVec.ofInt 16 (held (exact prog.1)), BitVec.ofInt 16 (held (exact prog.2))) ∧
      (u.calls[i]).saturations = min 4294967295 (c.saturations + (changed prog.1 + changed prog.2)) ∧
      (u.calls[i]).clipLate = (if late then inc16 c.clipLate else c.clipLate) ∧
      (∀ j : ScreenId, j ≠ i → (s.calls[j]).sameButReads u.calls[j]) ∧
      let moved := fun played : Nat => { u.calls[i] with
        callWindow := c.callWindow, orderWindow := c.orderWindow, settings := settled
        heldBack := if next = .up then none else c.heldBack, played, cut := c.cut }
      (c.slot = none → next ≠ .up ∨ ¬follows → u.orders = s.orders ∧ u.calls[i] = { moved c.played with
        queue := c.queue, slot := none, duckState := next }) ∧
      (∀ e rest, c.slot = none → next = .up → follows → c.queue = e :: rest → e.composed s.dir ≠ [] → (∀ n, e = .orderCall n → n < 1000) →
        CallUnit.entered e (e.composed s.dir) settled (.rampDown 0) (rest ++ (joined rest).map CallEntry.orderCall) (moved c.played)
          u.calls[i] ∧ u.orders = s.orders.unowed (joined rest)) ∧
      (∀ q, c.slot = some q → q.block < totalBlocks q.sequence →
        let size := ((blockAt q.sequence q.block).map Prod.snd).getD 0
        let left := q.lead = 0 ∧ size ≤ q.sample + 1
        let ends := left ∧ totalBlocks q.sequence ≤ q.block + 1
        let reported := fun o : Order => match q.entry, o.state with
          | .orderCall n, .ready _ =>
            if o.number = n then { o with callsPlayed := o.callsPlayed + 1, lastCallEnd := some s.nightClock } else o
          | _, _ => o
        (¬ends → u.orders = s.orders ∧ (u.calls[i]).queue = c.queue ∧ (u.calls[i]).duckState = next ∧ (u.calls[i]).played = c.played ∧
          ∃ nextRead readPending, (u.calls[i]).slot = some { q with
            lead := q.lead - 1
            block := if left then q.block + 1 else q.block
            sample := if 0 < q.lead then q.sample else if left then 0 else q.sample + 1
            skipping := if left then false else q.skipping || late
            buffer := if left then q.buffer.filter (fun b => b.index != q.block) else q.buffer
            nextRead, readPending }) ∧
        (ends → ¬follows → u.orders = { s.orders with table := s.orders.table.map reported } ∧ (u.calls[i]).slot = none ∧
          (u.calls[i]).queue = c.queue ∧ (u.calls[i]).duckState = .rampUp q.duck 0 ∧ (u.calls[i]).played = inc16 c.played) ∧
        (∀ e rest, ends → follows → c.queue = e :: rest → e.composed s.dir ≠ [] → (∀ n, e = .orderCall n → n < 1000) →
          CallUnit.entered e (e.composed s.dir) { duck := q.duck, level := q.level } .ducked
              (rest ++ (joined rest).map CallEntry.orderCall) (moved (inc16 c.played)) u.calls[i] ∧
            u.orders = OrderUnit.unowed (joined rest) { s.orders with table := s.orders.table.map reported }))

/-! ### Calls -/

/-- CLIP_RESCAN is refused CLIP_BUSY while a call is in some slot or the directory is being read; else it sets the reading mark, and its
reply waits. At the completion the directory is replaced whole, each entry by the seven bytes that the header gives it, every entry absent
when the header is not valid, the mark is cleared, and the header-valid mark and the number of present entries are answered at the port it
came by. -/
def Obligations.ClipRescan : Prop :=
  ∀ (p : PortId) (tag : Byte) (header : List Byte) (s : State),
    let busy := s.dir.reading = true ∨ ∃ j : ScreenId, (s.calls[j]).slot ≠ none
    let valid := header.length = 229 ∧ header.take 3 = [0x57#8, 0xDC#8, 1#8] ∧ header.drop 227 = checkBytes (header.take 227)
    let entries : Vector (Option Clip) 32 :=
      Vector.ofFn fun k => if valid then headerEntry header k.val else none
    (s.accepts p ⟨0x21, tag, []⟩ [.booth, .service] = true →
      (busy → exec (.clipRescan p tag []) s = .next ((s.taken p).refusedWith p 0x21 tag .clipBusy)) ∧
      (¬busy → exec (.clipRescan p tag []) s = .next
        { s.taken p with dir := { s.dir with reading := true, rescan := some (p, tag) } })) ∧
    (s.dir.rescan = some (p, tag) → exec (.clipRescanDone header) s = .next (State.startAll
      (State.replied p 0x21 tag (u8 (if valid then 1 else 0) ++ u8 (entries.toList.countP (·.isSome)))
        { s with dir := { entries := entries, valid := decide valid, reading := false, rescan := none } })))

/-- ANNOUNCE is refused CLIP_UNKNOWN when a clip named is absent, then QUEUE_FULL; accepted it joins the tail of the queue, and calls that
can start then do. The number answered is that after the join (log 18). SET_CALLS changes the mix settings at once in UP and holds them
back in any other duck state. CALLS_CLOSE, ORDERS_OPEN and ORDERS_CLOSE set their windows and nothing else, a call in the slot playing on.
-/
def Obligations.AnnouncementsAndWindows : Prop :=
  ∀ (p : PortId) (tag : Byte) (i : ScreenId) (clips : List (Fin 32)) (m : MixSettings) (s : State),
    let c := s.calls[i]
    let ids := clips.map (·.val)
    let payload := u8 i.val ++ u8 clips.length ++ ids.flatMap u8
    let settings := fun m : MixSettings => u16 m.duck ++ u16 m.level
    let set := fun c : CallUnit => if c.duckState = .up then { c with settings := m } else { c with heldBack := some m }
    (s.accepts p ⟨0x22, tag, payload⟩ [.booth, .service] = true → 1 ≤ clips.length → clips.length ≤ 8 →
      ((∃ k ∈ clips, s.dir.entries[k] = none) → exec (.announce p tag payload) s = .next ((s.taken p).refusedWith p 0x22 tag .clipUnknown)) ∧
      ((∀ k ∈ clips, s.dir.entries[k] ≠ none) → 16 ≤ c.queue.length →
        exec (.announce p tag payload) s = .next ((s.taken p).refusedWith p 0x22 tag .queueFull)) ∧
      ((∀ k ∈ clips, s.dir.entries[k] ≠ none) → c.queue.length < 16 →
        exec (.announce p tag payload) s = .next (State.replied p 0x22 tag (u8 (c.queue.length + 1)) (State.startAll
          { s.taken p with calls := upd s.calls i fun c => { c with queue := c.queue ++ [.announce ids] } })))) ∧
    (s.accepts p ⟨0x23, tag, u8 i.val ++ settings m⟩ [.booth, .service] = true → m.duck ≤ 256 → m.level ≤ 256 →
      exec (.setCalls p tag (u8 i.val ++ settings m)) s = .next (State.replied p 0x23 tag
        (settings (set c).settings ++ (match (set c).heldBack with | some m => u8 1 ++ settings m | none => u8 0))
        { s.taken p with calls := upd s.calls i set })) ∧
    (s.accepts p ⟨0x25, tag, u8 i.val⟩ [.booth, .service] = true →
      exec (.callsClose p tag (u8 i.val)) s = .next (State.replied p 0x25 tag (u8 1)
        { s.taken p with calls := upd s.calls i fun c => { c with callWindow := false } })) ∧
    (s.accepts p ⟨0x26, tag, u8 i.val⟩ [.booth, .kitchen, .service] = true →
      exec (.ordersOpen p tag (u8 i.val)) s = .next (State.replied p 0x26 tag (u8 0)
        { s.taken p with calls := upd s.calls i fun c => { c with orderWindow := true } })) ∧
    (s.accepts p ⟨0x27, tag, u8 i.val⟩ [.booth, .kitchen, .service] = true →
      exec (.ordersClose p tag (u8 i.val)) s = .next (State.replied p 0x27 tag (u8 1)
        { s.taken p with calls := upd s.calls i fun c => { c with orderWindow := false } }))

/-- CALLS_OPEN of an OPEN window changes nothing but its port; of a CLOSED one it opens the window and runs the owed fill, the owed orders
of the screen joining the queue while it has room, earliest on the shelf first, their marks cleared (log 24); and with SOUND_UP, the
directory not being read, the slot empty and the gain UP the head entry starts: composed of its present clips, its settings latched, ramping
down with a lead of 480 instants, the fill running again behind it; one whose sequence is empty ends at once, counted as played (log 16). A
completed clip read, with two bytes for each of its samples (log 15), enters the buffer of the call that asked for it, and is discarded when
that call has left its slot. A screen whose call has a free buffer place and blocks not yet asked for asks for its next block, and the
reader, free again and the directory not being read, grants the first screen that asks after the one it last served: that block of the
call's sequence, clip after clip, is in flight. With no read in flight there is no completion, and nothing changes (log 2). -/
def Obligations.CallStartAndClipReads : Prop :=
  ∀ (p : PortId) (tag : Byte) (i : ScreenId) (e : CallEntry) (rest : List CallEntry) (f : ClipRead) (q : Playing) (bytes : List Byte)
      (s : State),
    let c := s.calls[i]
    (s.accepts p ⟨0x24, tag, u8 i.val⟩ [.booth, .service] = true →
      (c.callWindow = true → exec (.callsOpen p tag (u8 i.val)) s = .next (State.replied p 0x24 tag (u8 0) (s.taken p))) ∧
      (c.callWindow = false → ∃ u, exec (.callsOpen p tag (u8 i.val)) s = .next u ∧
        u = { s with orders := u.orders, calls := u.calls, reader := u.reader, ports := u.ports } ∧
        u.ports = (State.replied p 0x24 tag (u8 0) (s.taken p)).ports ∧ (u.calls[i]).callWindow = true ∧
        s.callsResumed i true (s.links[i]).soundUp u ∧
        ((s.links[i]).soundUp = true → s.dir.reading = false → c.slot = none → c.duckState = .up → c.queue = e :: rest →
          (∀ n, e = .orderCall n → n < 1000) →
          e.composed s.dir = [] → rest = [] → (∀ o ∈ s.orders.table, o.owed = false) →
            (u.calls[i]).slot = none ∧ (u.calls[i]).duckState = .up ∧ (u.calls[i]).queue = [] ∧ (u.calls[i]).played = inc16 c.played))) ∧
    (s.reader.inFlight = some f → bytes.length = 2 * f.count →
      let blocks := fun x : SeqClip => (x.clip.length + 239) / 240
      let delivered := fun j : ScreenId => (s.calls[j]).slot.map fun q =>
        if j = f.screen ∧ f.live = true ∧ (q.block < f.index ∨ (q.block = f.index ∧ q.skipping = false)) then
          { q with buffer := q.buffer ++ [{ index := f.index, samples := samplesOf bytes }] }
        else q
      let asks := fun q : Playing => q.readPending || decide (q.buffer.length < 2 ∧ q.nextRead < (q.sequence.map blocks).sum)
      let asking := fun j : ScreenId => (delivered j).any asks = true
      let asked := fun (k : ScreenId) (u : State) =>
        u.calls[k] = { s.calls[k] with slot := (delivered k).map fun q => { q with readPending := asks q } }
      ∃ u, exec (.clipReadComplete bytes) s = .next u ∧ u = { s with calls := u.calls, reader := u.reader } ∧
        (∀ f', u.reader.inFlight = some f' → f'.live = true ∧ ∃ q', (u.calls[f'.screen]).slot = some q' ∧ q'.nextRead = f'.index + 1) ∧
        (∀ j : ScreenId, (u.calls[j]).queue = (s.calls[j]).queue ∧ ((u.calls[j]).slot = none ↔ (s.calls[j]).slot = none)) ∧
        ((s.calls[f.screen]).slot = some q →
          ∃ q', (u.calls[f.screen]).slot = some q' ∧ q'.entry = q.entry ∧ q'.block = q.block ∧ q'.sample = q.sample ∧
            (f.live = true → q.block < f.index ∨ (q.block = f.index ∧ q.skipping = false) →
              q'.buffer = q.buffer ++ [{ index := f.index, samples := samplesOf bytes }]) ∧
            (f.live = false → q'.buffer = q.buffer)) ∧
        (s.dir.reading = true ∨ (∀ k : ScreenId, ¬asking k) →
          u.reader = { s.reader with inFlight := none } ∧ ∀ k : ScreenId, asked k u) ∧
        ∀ (k : ScreenId) (q : Playing) (before after : List SeqClip) (x : SeqClip) (n : Nat),
          let j := s.reader.last + 1 + k
          s.dir.reading = false → (∀ m < k, ¬asking (s.reader.last + 1 + m)) → delivered j = some q → asks q = true →
          q.sequence = before ++ x :: after → q.nextRead = (before.map blocks).sum + n → n < blocks x →
          u.reader = { last := j, inFlight := some {
            screen := j, index := q.nextRead, start := x.clip.start + 480 * n, count := min 240 (x.clip.length - 240 * n), live := true } } ∧
          u.calls[j] = { s.calls[j] with slot := some { q with nextRead := q.nextRead + 1, readPending := false } } ∧
          ∀ m : ScreenId, m ≠ j → asked m u) ∧
    (s.reader.inFlight = none → exec (.clipReadComplete bytes) s = .next s)

/-! ### Exciter links -/

/-- SET_EXCITER equal to the settings in force changes nothing but its port; any other replaces them and makes a cycle. A cycle, begun by it
or by the refresh timer's expiry, is a SETTINGS send that starts the refresh timer; one that falls due in UP with 4 sends unanswered first
declares the link LOST, posted with cause LINK, a fall of SOUND_UP then holding the show and cutting the call (R63, R138). The link state
and SOUND_UP that SET_EXCITER then answers are those after the loss (the model's choice, log 26). A send takes the next number, stands
UNANSWERED, and leaves when the line is free of other messages: none of the part leaving or waiting, and none of the exciter's being
collected once the inputs that the row carries are taken (that rows carry them, and what leaves and waits, is log 10). With the refresh
timer stopped there is no expiry, and nothing changes (log 2). -/
def Obligations.SettingsCycles : Prop :=
  ∀ (p : PortId) (tag : Byte) (i : ScreenId) (t : ExciterSettings) (heard : List LineInput) (s : State),
    let payload := u8 i.val ++ flagByte t.mute ++ flagByte t.mono ++ u8 t.deviation
    let k := s.links[i]
    let hears := fun k : Link => { k with collector := k.collector.hear heard }
    let send := fun k : Link =>
      let quiet := match k.collector with | .collecting _ => false | .idle | .ignoring => true
      let free := k.leaving = none ∧ k.waiting = [] ∧ quiet = true
      { k with
        nextSend := k.nextSend + 1, latest := some (k.nextSend, false), ackTimer := none, refreshTimer := some 1000
        unanswered := if k.state = .up then k.unanswered + 1 else k.unanswered
        counts := { k.counts with sends := inc16 k.counts.sends }
        leaving := if free then some (.settings k.nextSend k.settings) else k.leaving
        waiting := if free then [] else k.waiting ++ [.settings k.nextSend k.settings] }
    let lost := fun k : Link => { k with state := .lost, soundUp := false, counts := { k.counts with losses := inc16 k.counts.losses } }
    let late := k.state = .up ∧ 4 ≤ k.unanswered
    let status := fun k : Link => u8 (match k.state with | .down => 0 | .up => 1 | .lost => 2) ++
      (match k.last with | some c => u8 1 ++ flagByte c.carrier ++ flagByte c.fault | none => u8 0) ++ flagByte k.soundUp
    let settings := flagByte t.mute ++ flagByte t.mono ++ u8 t.deviation
    (s.accepts p ⟨0x2A, tag, payload⟩ [.booth, .service] = true → t.deviation ≤ 100 →
      (k.settings = t → exec (.setExciter p tag ⟨payload, heard⟩) s = .next (State.replied p 0x2A tag (settings ++ status k) (s.taken p))) ∧
      (k.settings ≠ t → ¬late → exec (.setExciter p tag ⟨payload, heard⟩) s = .next (State.replied p 0x2A tag (settings ++ status k)
        { s.taken p with links := upd s.links i fun k => send { hears k with settings := t } })) ∧
      (k.settings ≠ t → late → ∃ u, exec (.setExciter p tag ⟨payload, heard⟩) s = .next u ∧
        u.links = (upd s.links i fun k => send (lost { hears k with settings := t })) ∧ s.linkLost i u ∧
        s.answeredAt p 0x2A tag .ok (settings ++ status (lost k)) u)) ∧
    (k.refreshTimer ≠ none →
      (¬late → exec (.refreshTimerExpiry i heard) s = .next { s with links := upd s.links i fun k => send (hears k) }) ∧
      (late → ∃ u, exec (.refreshTimerExpiry i heard) s = .next u ∧
        u.links = (upd s.links i fun k => send (lost (hears k))) ∧ s.linkLost i u ∧ s.portsKept u)) ∧
    (k.refreshTimer = none → exec (.refreshTimerExpiry i heard) s = .next s)

/-- An ACK is valid when it carries the number of the latest send and that send is UNANSWERED. A valid one answers the send, stops the ack
timer, sets the unanswered count to 0, takes the condition reported and brings the link UP, from LOST with SOUND_RESTORED of cause LINK and
from DOWN with no event; SOUND_UP is derived anew. In UP a fall posts SOUND_LOST, with cause RF_FAULT when the fault became true and else
CARRIER, holds the show and cuts the call; a rise posts SOUND_RESTORED, with cause CARRIER when the carrier came on and else RF_FAULT. Any
rise runs the owed fill (all its room taken by log 24) and starts the head call. Any other ACK is stale: counted, and the link record is
otherwise unchanged. Either way the line is free of the message, and the first one waiting leaves (log 10). Where what was heard does not
end that ACK, nothing changes (log 2). -/
def Obligations.ExciterAcks : Prop :=
  ∀ (i : ScreenId) (heard : List LineInput) (number flags : Byte) (s : State),
    let k := s.links[i]
    let t : ExciterStatus := { carrier := flags.getLsbD 0, fault := flags.getLsbD 1 }
    let sound := t.carrier && !t.fault
    let freed := fun k : Link => match k.leaving, k.waiting with
      | none, m :: rest => { k with collector := .idle, leaving := some m, waiting := rest }
      | _, _ => { k with collector := .idle }
    let answered := fun k : Link => { freed k with
      latest := some (number, true), ackTimer := none, unanswered := 0, state := .up, last := some t, soundUp := sound
      counts := { k.counts with valid := inc16 k.counts.valid } }
    ((∀ c, k.collector.ends heard ≠ some (c, .ack number flags)) → exec (.exciterAck ⟨i, heard⟩ number flags) s = .next s) ∧
    (k.collector.ends heard = some (.idle, .ack number flags) →
      (k.latest ≠ some (number, false) → exec (.exciterAck ⟨i, heard⟩ number flags) s = .next { s with
        links := upd s.links i fun k => { freed k with counts := { k.counts with stale := inc16 k.counts.stale } } }) ∧
      (k.latest = some (number, false) → ∃ u, exec (.exciterAck ⟨i, heard⟩ number flags) s = .next u ∧ u.links = upd s.links i answered ∧ s.portsKept u ∧
        (k.state = .lost → k.soundUp = false → s.flagPosted .soundRestored (.sound i .link) u ∧ s.flagsKeptBut [.soundRestored] u) ∧
        (k.state = .down → k.soundUp = false → s.flagsKeptBut [] u) ∧
        (k.state = .up → k.soundUp = sound → u = { s with links := u.links }) ∧
        (k.soundUp = false → sound = false → u = { s with links := u.links, ports := u.ports }) ∧
        (k.state = .up → k.soundUp = true → sound = false →
          s.soundFell i (if (∀ c ∈ k.last, c.fault = false) ∧ t.fault = true then .rfFault else .carrier) u) ∧
        (k.state = .up → k.soundUp = false → sound = true → s.flagsKeptBut [.soundRestored] u ∧
          s.flagPosted .soundRestored (.sound i (if (∀ c ∈ k.last, c.carrier = false) ∧ t.carrier = true then .carrier else .rfFault)) u) ∧
        (k.soundUp = false → sound = true → s.soundRose i u)))

/-- The ack timer's expiry: in UP a retry, which is a further SETTINGS send, with fewer than 4 sends unanswered, and the loss of the link
with 4, a fall of SOUND_UP then holding the show and cutting the call; in DOWN and LOST it only stops. A STATUS is answered with STATUS_ACK
and counted, and its condition taken; in UP SOUND_UP follows it, posted with the cause that R152's table gives, a fall with its hold and
cut, a rise with the owed fill (log 24) and the head call. A damaged message is counted and not answered. The end of a SETTINGS send starts
the ack timer when that send is still the latest, none made after it waiting, and the end of either message lets the next one leave. An
expiry, a message or an end that cannot occur changes nothing (log 2); that rows carry what was heard on the line, and what leaves and
waits, is log 10. A message of the exciter is collected from a 0xE7 heard while none is; one whole with its check is an ACK or a STATUS, one
with another check, or cut short by a silence, is damaged; one of an unknown kind is damaged at its kind byte, and what follows is ignored
until a silence. What is heard in parts is collected as one. -/
def Obligations.LinkTimersAndMessages : Prop :=
  (∀ (i : ScreenId) (number flags : Byte) (heard : List LineInput) (s : State),
    let k := s.links[i]
    let t : ExciterStatus := { carrier := flags.getLsbD 0, fault := flags.getLsbD 1 }
    let sound := t.carrier && !t.fault
    let hears := fun k : Link => { k with collector := k.collector.hear heard }
    let quiet := fun k : Link => match k.collector with | .collecting _ => false | .idle | .ignoring => true
    let queued := fun (m : LineMessage) (k : Link) =>
      if k.leaving = none ∧ quiet k = true ∧ k.waiting = [] then { k with leaving := some m } else { k with waiting := k.waiting ++ [m] }
    let next := fun k : Link => match k.waiting with
      | m :: rest => if k.leaving = none ∧ quiet k = true then { k with leaving := some m, waiting := rest } else k
      | [] => k
    let latest := fun waiting : List LineMessage => waiting.all fun m => match m with | .settings _ _ => false | .statusAck _ => true
    let retry := fun k : Link => queued (.settings k.nextSend k.settings) { k with
      nextSend := k.nextSend + 1, latest := some (k.nextSend, false), unanswered := k.unanswered + 1, ackTimer := none
      counts := { k.counts with sends := inc16 k.counts.sends, retries := inc16 k.counts.retries } }
    let statusTaken := fun k : Link =>
      let k := queued (.statusAck number) (next { k with collector := .idle })
      { k with last := some t, soundUp := if k.state = .up then sound else k.soundUp
               counts := { k.counts with statuses := inc16 k.counts.statuses } }
    (k.ackTimer = none → exec (.ackTimerExpiry i heard) s = .next s) ∧
    (k.ackTimer ≠ none →
      (k.state = .up → k.unanswered < 4 →
        exec (.ackTimerExpiry i heard) s = .next { s with links := upd s.links i fun k => retry (hears k) }) ∧
      (k.state = .up → 4 ≤ k.unanswered → ∃ u, exec (.ackTimerExpiry i heard) s = .next u ∧ s.portsKept u ∧
        s.linkLost i u ∧ u.links = upd s.links i fun k =>
          { hears k with
            ackTimer := none, state := .lost, soundUp := false, counts := { k.counts with losses := inc16 k.counts.losses } }) ∧
      (k.state ≠ .up → exec (.ackTimerExpiry i heard) s = .next { s with
        links := upd s.links i fun k => { hears k with ackTimer := none } })) ∧
    ((∀ c, k.collector.ends heard ≠ some (c, .status number flags)) → exec (.exciterStatus ⟨i, heard⟩ number flags) s = .next s) ∧
    (k.collector.ends heard = some (.idle, .status number flags) →
      ∃ u, exec (.exciterStatus ⟨i, heard⟩ number flags) s = .next u ∧ u.links = upd s.links i statusTaken ∧ s.portsKept u ∧
        (k.state ≠ .up ∨ k.soundUp = sound → u = { s with links := u.links }) ∧
        (k.state = .up → k.soundUp = true → sound = false →
          s.soundFell i (if (∀ c ∈ k.last, c.fault = false) ∧ t.fault = true then .rfFault else .carrier) u) ∧
        (k.state = .up → k.soundUp = false → sound = true → s.soundRose i u ∧ s.flagsKeptBut [.soundRestored] u ∧
          s.flagPosted .soundRestored (.sound i (if (∀ c ∈ k.last, c.carrier = false) ∧ t.carrier = true then .carrier else .rfFault)) u)) ∧
    ((∀ c, k.collector.ends heard ≠ some (c, .bad)) → exec (.exciterBadMessage ⟨i, heard⟩) s = .next s) ∧
    (∀ c, k.collector.ends heard = some (c, .bad) → exec (.exciterBadMessage ⟨i, heard⟩) s = .next { s with
      links := upd s.links i fun k => { next { k with collector := c } with counts := { k.counts with bad := inc16 k.counts.bad } } }) ∧
    ((∀ n e, k.leaving ≠ some (.settings n e)) → exec (.settingsSendEnd ⟨i, heard⟩) s = .next s) ∧
    (∀ n e, k.leaving = some (.settings n e) → exec (.settingsSendEnd ⟨i, heard⟩) s = .next { s with
      links := upd s.links i fun k => next { hears k with
        leaving := none, ackTimer := if latest k.waiting then some 25 else k.ackTimer } }) ∧
    ((∀ n, k.leaving ≠ some (.statusAck n)) → exec (.statusAckSendEnd ⟨i, heard⟩) s = .next s) ∧
    (∀ n, k.leaving = some (.statusAck n) → exec (.statusAckSendEnd ⟨i, heard⟩) s = .next { s with
      links := upd s.links i fun k => next { hears k with leaving := none } })) ∧
  (∀ (junk : List LineInput) (kind number flags hi lo : Byte), (∀ x ∈ junk, x ≠ .byte 0xE7#8) →
    let sent := fun bytes : List Byte => junk ++ (0xE7#8 :: bytes).map LineInput.byte
    let known := kind = 0x90#8 ∨ kind = 0x91#8
    let body := [kind, number, flags]
    Collector.idle.ends junk = none ∧ Collector.idle.hear junk = .idle ∧
    (known → checkBytes body = [hi, lo] → Collector.idle.ends (sent (body ++ [hi, lo])) =
      some (.idle, if kind = 0x90#8 then .ack number flags else .status number flags)) ∧
    (known → checkBytes body ≠ [hi, lo] → Collector.idle.ends (sent (body ++ [hi, lo])) = some (.idle, .bad)) ∧
    (known → ∀ k ≤ 4, Collector.idle.hear (sent ((body ++ [hi, lo]).take k)) = .collecting ((body ++ [hi, lo]).take k) ∧
      Collector.idle.ends (sent ((body ++ [hi, lo]).take k) ++ [.silence]) = some (.idle, .bad)) ∧
    (¬known → Collector.idle.ends (sent [kind]) = some (.ignoring, .bad))) ∧
  (∀ bytes : List Byte, Collector.ignoring.hear (bytes.map .byte) = .ignoring ∧ Collector.ignoring.ends (bytes.map .byte) = none ∧
    Collector.ignoring.hear (bytes.map .byte ++ [.silence]) = .idle) ∧
  ∀ (c : Collector) (first later : List LineInput), (∀ before, before <+: first → c.ends before = none) →
    c.ends (first ++ later) = (c.hear first).ends later ∧ c.hear (first ++ later) = (c.hear first).hear later

/-! ### Concession orders -/

/-- SET_KITCHEN replaces the five settings, answers them with the fill and posts nothing. PLACE_ORDER is refused NO_SUCH_TICKET,
TICKET_LIMIT, WINDOW_CLOSED or KITCHEN_FULL, and TABLE_FULL in this order; accepted, it enters the order under the first free number, in
the state R161 gives, at the tail of the kitchen queue when QUEUED, with its ticket's count and its total raised and a crossing of the
high level or from an empty queue posted. (The release pending mark of a QUEUED order as one byte 0 of the reply is the model's choice, log
12.) -/
def Obligations.PlaceOrder : Prop :=
  ∀ (p : PortId) (tag : Byte) (n items prep : Nat) (pickup : Pickup) (t : Ticket) (k : KitchenSettings) (s : State),
    let byte := match pickup with | .now => 0 | .atBreak => 1
    let payload := u16 n ++ u8 byte ++ u8 items ++ u8 prep
    let settings := u8 k.high ++ u8 k.low ++ u16 k.unitSeconds ++ u16 k.recallInterval ++ u8 k.maxCalls
    let u := s.orders
    let fill := u.kitchen.length
    let refused := fun status => exec (.placeOrder p tag payload) s = .next ((s.taken p).refusedWith p 0x30 tag status)
    (s.accepts p ⟨0x2C, tag, settings⟩ [.kitchen, .service] = true → 1 ≤ k.high → k.high ≤ 48 → k.low < k.high → 1 ≤ k.unitSeconds →
      k.unitSeconds ≤ 60 → 60 ≤ k.recallInterval → k.recallInterval ≤ 900 → 1 ≤ k.maxCalls → k.maxCalls ≤ 4 →
      exec (.setKitchen p tag settings) s = .next (State.replied p 0x2C tag (settings ++ u8 fill)
        { s.taken p with orders := { u with settings := k } })) ∧
    (s.accepts p ⟨0x30, tag, payload⟩ [.gate, .kitchen, .service] = true → 1 ≤ n → n ≤ 65535 → 1 ≤ items → items ≤ 15 → 1 ≤ prep → prep ≤ 255 →
      (s.ticket? n = none → refused .noSuchTicket) ∧
      (s.ticket? n = some t → 4 ≤ t.openOrders → refused .ticketLimit) ∧
      (s.ticket? n = some t → t.openOrders < 4 → pickup = .atBreak → (s.calls[t.screen]).orderWindow = false → refused .windowClosed) ∧
      (s.ticket? n = some t → t.openOrders < 4 → pickup = .now → u.settings.high ≤ fill → refused .kitchenFull) ∧
      (s.ticket? n = some t → t.openOrders < 4 →
        ((pickup = .atBreak ∧ (s.calls[t.screen]).orderWindow = true) ∨ (pickup = .now ∧ fill < u.settings.high)) →
        (256 ≤ u.table.length → refused .tableFull) ∧
        (∀ j < 999, u.table.length < 256 →
          let numberOf := fun j => (u.seq - 1 + j) % 999 + 1
          let free := fun number => (∀ o ∈ u.table, o.number ≠ number) ∧
            ∀ i : ScreenId, ∀ q, (s.calls[i]).slot = some q → q.entry ≠ .orderCall number
          let number := numberOf j
          free number → (∀ k < j, ¬free (numberOf k)) →
          let queued := pickup = .now ∨ (u.released[t.screen] = true ∧ fill < 48)
          let first : OrderState := if queued then .queued else .held u.released[t.screen]
          let order : Order :=
            { number, ticket := n, screen := t.screen, pickup, items, prep, state := first, origin := p, placedAt := s.nightClock
              callsPlayed := 0, lastCallEnd := none, owed := false }
          let units := ((u.table.filter fun o => match o.state with | .queued | .cooking => true | _ => false).map (·.prep)).sum + prep
          exec (.placeOrder p tag payload) s = .next (State.replied p 0x30 tag
            (u16 number ++ u8 (if queued then 1 else 0) ++ flagByte (!decide queued && u.released[t.screen]) ++
              u16 (if queued then min 5999 (units * u.settings.unitSeconds) else 0))
            (State.postIf (queued ∧ fill = 0) .kitchenWork (.fill 1)
              (State.postIf (queued ∧ fill < u.settings.high ∧ u.settings.high ≤ fill + 1) .kitchenHigh (.fill (fill + 1))
                { s.taken p with
                  tickets := s.tickets.map fun r => if r.number = n then { r with openOrders := r.openOrders + 1 } else r
                  orders := { u with
                    table := u.table ++ [order], seq := number % 999 + 1
                    kitchen := if queued then u.kitchen ++ [number] else u.kitchen
                    totals := match pickup with
                      | .now => { u.totals with placedNow := inc16 u.totals.placedNow }
                      | .atBreak => { u.totals with placedBreak := inc16 u.totals.placedBreak } } }))))))

/-- TAKE_ORDER is refused QUEUE_EMPTY, and else takes the head of the kitchen queue to COOKING; with no order release pending nothing joins
the queue, and with one the oldest of the first screen after the pointer does. MARK_READY makes a COOKING order READY at the tail of the
shelf and asks for its call, which joins the tail of its screen's queue, or leaves the order owed when the queue is full, or changes nothing
there when the queue or the slot holds its call; where a call can start the head entry then does, the owed fill running behind it, all its
room taken (log 24). It is refused NO_SUCH_ORDER and ORDER_STATE. -/
def Obligations.TakeAndMarkReady : Prop :=
  ∀ (p : PortId) (tag : Byte) (n : Nat) (rest : List Nat) (o : Order) (s : State),
    let u := s.orders
    let set := fun (n : Nat) (st : OrderState) (table : List Order) => table.map fun r => if r.number = n then { r with state := st } else r
    let taken := fun fill : Nat => u16 o.number ++ u16 o.ticket ++ u8 o.screen.val ++ u8 (match o.pickup with | .now => 0 | .atBreak => 1) ++
      u8 o.items ++ u8 o.prep ++ u8 o.origin.val ++ u16 o.placedAt ++ u8 fill
    (s.accepts p ⟨0x2D, tag, []⟩ [.kitchen, .service] = true →
      (u.kitchen = [] → exec (.takeOrder p tag []) s = .next ((s.taken p).refusedWith p 0x2D tag .queueEmpty)) ∧
      (u.kitchen = n :: rest → s.order? n = some o → (∀ r ∈ u.table, r.number ≠ n → r.isPending = false) →
        exec (.takeOrder p tag []) s = .next (State.replied p 0x2D tag (taken rest.length)
          (State.postIf (u.settings.low < rest.length + 1 ∧ rest.length ≤ u.settings.low) .kitchenLow (.fill rest.length)
            { s.taken p with orders := { u with kitchen := rest, table := set n .cooking u.table } }))) ∧
      (∀ (i k : ScreenId) (before after : List Order) (r : Order), u.kitchen = n :: rest → s.order? n = some o →
        (u.table.map (·.number)).Nodup → r.number ≠ n →
        i = u.pointer + 1 + k → (∀ j < k, ∀ q ∈ u.table, q.screen = u.pointer + 1 + j → q.isPending = false) →
        u.table = before ++ r :: after → r.isPending = true → r.screen = i → (∀ q ∈ before, q.screen = i → q.isPending = false) →
        o.isPending = false →
        exec (.takeOrder p tag []) s = .next (State.replied p 0x2D tag (taken (rest.length + 1))
          { s.taken p with orders := { u with
              pointer := i, kitchen := rest ++ [r.number], table := set r.number .queued (set n .cooking u.table) } }))) ∧
    (s.accepts p ⟨0x2E, tag, u16 n⟩ [.kitchen, .service] = true → 1 ≤ n → n ≤ 999 →
      (s.order? n = none → exec (.markReady p tag (u16 n)) s = .next ((s.taken p).refusedWith p 0x2E tag .noSuchOrder)) ∧
      (s.order? n = some o → o.state ≠ .cooking →
        exec (.markReady p tag (u16 n)) s = .next ((s.taken p).refusedWith p 0x2E tag .orderState)) ∧
      (s.order? n = some o → o.state = .cooking → (s.calls[o.screen]).hasCallOf n = false →
        let ready := set n (.ready s.nightClock) u.table
        ((s.calls[o.screen]).queue.length < 16 →
          exec (.markReady p tag (u16 n)) s = .next (State.replied p 0x2E tag (u16 s.nightClock ++ flagByte o.owed) (State.startAll
            { s.taken p with
              orders := { u with table := ready, shelf := u.shelf ++ [n] }
              calls := upd s.calls o.screen fun c => { c with queue := c.queue ++ [.orderCall n] } }))) ∧
        (16 ≤ (s.calls[o.screen]).queue.length →
          exec (.markReady p tag (u16 n)) s = .next (State.replied p 0x2E tag (u16 s.nightClock ++ u8 1) (State.startAll
            { s.taken p with orders := { u with
                table := ready.map fun r => if r.number = n then { r with owed := true } else r, shelf := u.shelf ++ [n] } })))) ∧
      (s.order? n = some o → o.state = .cooking → ∃ t, exec (.markReady p tag (u16 n)) s = .next t ∧
        let c := s.calls[o.screen]
        let queue := if c.hasCallOf n = true ∨ 16 ≤ c.queue.length then c.queue else c.queue ++ [.orderCall n]
        let table := (set n (.ready s.nightClock) u.table).map fun r =>
          if r.number = n ∧ c.hasCallOf n = false ∧ 16 ≤ c.queue.length then { r with owed := true } else r
        let owed := State.owedNow o.screen { s with orders := { u with table, shelf := u.shelf ++ [n] } }
        let starts := c.callWindow = true ∧ (s.links[o.screen]).soundUp = true ∧ s.dir.reading = false ∧ c.slot = none ∧ c.duckState = .up
        (¬starts → CallUnit.sameButReads { c with queue } t.calls[o.screen]) ∧
        ∀ e rest, starts → queue = e :: rest → e.composed s.dir ≠ [] → (∀ n, e = .orderCall n → n < 1000) →
          CallUnit.entered e (e.composed s.dir) c.settings (.rampDown 0)
            (rest ++ (owed.take (16 - rest.length)).map CallEntry.orderCall) c t.calls[o.screen]))

/-- COLLECT_ORDER removes a READY order and posts nothing; CANCEL_ORDER removes a live order in any state and posts ORDER_CANCELLED, no
other flag changing but KITCHEN_LOW's. Either way the order leaves the table, the queue and the shelf, every other order keeping its record
but for its owed mark and calls, its ticket's count is lower by one and its outcome is counted. Its queued call is withdrawn, and on a
screen where no call can start the owed fill then brings in the owed orders that there is room for, earliest on the shelf first, and clears
their marks alone (log 24). The kitchen queue is the rest in order. A QUEUED order frees a slot: the oldest release-pending order of the
first screen after the pointer that has one is QUEUED at the tail, and with none KITCHEN_LOW is posted where the fill comes down to the low
level. They are refused NO_SUCH_ORDER, and COLLECT_ORDER of an order that is not READY is refused ORDER_STATE. -/
def Obligations.CollectAndCancel : Prop :=
  ∀ (p : PortId) (tag : Byte) (n : Nat) (o : Order) (s : State), 1 ≤ n → n ≤ 999 →
    let b := s.orders
    let gone := fun (totals : OrderTotals) (u : State) =>
      u = { s with tickets := u.tickets, orders := u.orders, calls := u.calls, reader := u.reader, ports := u.ports } ∧
        u.tickets = s.tickets.map (fun t => if t.number = o.ticket then { t with openOrders := t.openOrders - 1 } else t) ∧
        s.ordersGone [o] totals u
    (s.accepts p ⟨0x2F, tag, u16 n⟩ [.kitchen, .service] = true →
      (s.order? n = none → exec (.collectOrder p tag (u16 n)) s = .next ((s.taken p).refusedWith p 0x2F tag .noSuchOrder)) ∧
      (s.order? n = some o → (∀ at_, o.state ≠ .ready at_) →
        exec (.collectOrder p tag (u16 n)) s = .next ((s.taken p).refusedWith p 0x2F tag .orderState)) ∧
      (∀ at_, s.bookLaws → s.order? n = some o → o.state = .ready at_ → ∃ u, exec (.collectOrder p tag (u16 n)) s = .next u ∧
        gone { b.totals with collected := inc16 b.totals.collected } u ∧ u.orders.kitchen = b.kitchen ∧ u.orders.pointer = b.pointer ∧
        s.flagsKeptBut [] u ∧ s.answeredAt p 0x2F tag .ok (u16 o.ticket ++ u8 o.callsPlayed) u)) ∧
    (s.accepts p ⟨0x31, tag, u16 n⟩ [.gate, .kitchen, .service] = true →
      (s.order? n = none → exec (.cancelOrder p tag (u16 n)) s = .next ((s.taken p).refusedWith p 0x31 tag .noSuchOrder)) ∧
      (s.bookLaws → s.order? n = some o → ∃ u, exec (.cancelOrder p tag (u16 n)) s = .next u ∧
        gone { b.totals with request := inc16 b.totals.request } u ∧ s.flagPosted .orderCancelled (.order n) u ∧
        s.flagsKeptBut [.orderCancelled, .kitchenLow] u ∧
        s.answeredAt p 0x31 tag .ok (u8 (match o.state with | .held _ => 0 | .queued => 1 | .cooking => 2 | .ready _ => 3)) u ∧
        (o.state ≠ .queued → u.orders.kitchen = b.kitchen ∧ u.orders.pointer = b.pointer ∧ s.flagKept .kitchenLow u) ∧
        (∀ (i k : ScreenId) (before after : List Order) (r : Order), o.state = .queued → i = b.pointer + 1 + k →
          (∀ j < k, ∀ q ∈ b.table, q.screen = b.pointer + 1 + j → q.isPending = false) →
          b.table = before ++ r :: after → r.isPending = true → r.screen = i → (∀ q ∈ before, q.screen = i → q.isPending = false) →
          u.orders.kitchen = b.kitchen.filter (· != n) ++ [r.number] ∧ u.orders.pointer = i ∧ s.flagKept .kitchenLow u)))

/-! ### Lamps and attention -/

/-- SET_LAMP replaces a lamp's source, index, invert and blink and answers them with the output they give; the blink timebase moves one
eighth of its cycle at a phase change, and before the end of device reset does not run, a phase change then changing nothing
(log 2). A lamp is LIT when its source, inverted or not, is
true and its blink phase is on. -/
def Obligations.LampsAndBlink : Prop :=
  ∀ (p : PortId) (tag : Byte) (k : Fin 12) (l : Lamp) (s : State),
    let payload := u8 k.val ++ l.source.byte ++ flagByte l.invert ++ u8 (match l.blink with | .steady => 0 | .slow => 1 | .fast => 2) ++
      l.source.indexBytes.getD []
    let settings := l.source.byte ++ (match l.source.indexBytes with | some b => u8 1 ++ b | none => u8 0) ++ flagByte l.invert ++
      u8 (match l.blink with | .steady => 0 | .slow => 1 | .fast => 2)
    let value : Bool := match l.source with
      | .off => false
      | .on => true
      | .laneReady n => (s.entry[n]).state = .idle
      | .laneArmed n => (s.entry[n]).state = .armed
      | .laneClosed n => (s.entry[n]).state = .closed
      | .laneLong n => (s.entry[n]).longTimer.isSome
      | .zoneFull i => (s.zones[i]).pending + (s.zones[i]).present = (s.zones[i]).capacity
      | .entryOpen i => (s.zones[i]).isOpen
      | .ordersOpen i => (s.calls[i]).orderWindow
      | .callPlaying i => (s.calls[i]).slot.isSome
      | .screenHeld i => (s.shows[i]).state = .held
      | .screenLost i => (s.shows[i]).state = .lost
      | .soundDown i => !(s.links[i]).soundUp
      | .cueLamp i j => (s.cues[i]).lamps[j]
      | .kitchenHigh => s.orders.settings.high ≤ s.orders.kitchen.length
      | .kitchenWork => s.orders.kitchen.length ≠ 0
      | .attention q => (s.ports[q]).attention
    let phase : Bool := match l.blink, s.blink with
      | .steady, _ => true
      | _, none => false
      | .slow, some e => e.val < 4
      | .fast, some e => e.val = 0 ∨ e.val = 2 ∨ e.val = 4 ∨ e.val = 6
    let lit := xor value l.invert && phase
    (s.accepts p ⟨0x34, tag, payload⟩ [.booth, .service] = true →
      exec (.setLamp p tag payload) s = .next (State.replied p 0x34 tag (settings ++ u8 (if lit then 0 else 1))
        { s.taken p with lamps := upd s.lamps k fun _ => l })) ∧
    (s.lamps[k] = l → s.lampLit k = lit) ∧
    (s.blink = none → exec .blinkPhaseChange s = .next s) ∧
    (∀ e, s.blink = some e → exec .blinkPhaseChange s = .next { s with blink := some (if e.val = 7 then 0 else e + 1) })

/-- READ_EVENTS reports every flag of its port that is not CLEAR and makes the PENDING ones SEEN; CLEAR_EVENTS makes the SEEN flags it names
CLEAR and leaves the PENDING ones; SET_ATTENTION sets the mask. The line is examined by the last two, and no other port is touched. A
CLEAR_EVENTS naming a kind twice or beyond the 21 is refused RANGE. (The layouts, NONE as class 4 and the order of the kinds in the reply to
CLEAR_EVENTS are read from R195, log 12.) -/
def Obligations.EventRequests : Prop :=
  ∀ (p : PortId) (tag : Byte) (kinds : List EventKind) (m : Vector Bool 4) (s : State),
    let all : List Role := [.booth, .gate, .kitchen, .service]
    let q := s.ports[p]
    let index := fun k : EventKind => u8 k.index.val
    let listed := fun kinds : List EventKind => u8 kinds.length ++ kinds.flatMap index
    let set := fun kinds : List EventKind => kinds.filter fun k => (q.flag k).state = .seen
    let noted := eventKinds.filter fun k => (q.flag k).state ≠ .clear
    let highest := match eventKinds.find? fun k => (q.flag k).state = .pending with | some k => k.cls.val | none => 4
    let wants := fun (q : Port) => eventKinds.any fun k => q.mask[k.cls] && decide ((q.flag k).state ≠ .clear)
    let mask := ([0, 1, 2, 3] : List (Fin 4)).flatMap fun c => u8 (if m[c] then 0 else 1)
    let seen := fun f : Flag => if f.state = .pending then { f with state := .seen } else f
    (s.accepts p ⟨0x36, tag, []⟩ all = true →
      exec (.readEvents p tag []) s = .next (State.replied p 0x36 tag
        (u8 highest ++ u8 noted.length ++ noted.flatMap fun k =>
          index k ++ u8 (match (q.flag k).state with | .clear => 0 | .pending => 1 | .seen => 2) ++ u8 (q.flag k).count ++
            ((q.flag k).detail.map Detail.bytes).getD [])
        ((s.taken p).modPort p fun q => { q with flags := q.flags.map seen }))) ∧
    (s.accepts p ⟨0x37, tag, listed kinds⟩ all = true →
      (¬kinds.Nodup → kinds.length < 256 → exec (.clearEvents p tag (listed kinds)) s = .next ((s.taken p).refusedWith p 0x37 tag .range)) ∧
      (kinds.Nodup → ∃ u, exec (.clearEvents p tag (listed kinds)) s = .next (State.replied p 0x37 tag
          (listed (set kinds) ++ listed (kinds.filter fun k => (q.flag k).state = .pending))
          ((s.taken p).modPort p fun q => { q with flags := u, attention := wants { q with flags := u } })) ∧
        ∀ k : EventKind, u[k.index] = if k ∈ set kinds then Flag.none else q.flag k)) ∧
    (∀ b : Byte, 21 ≤ b.toNat → s.accepts p ⟨0x37, tag, u8 1 ++ [b]⟩ all = true →
      exec (.clearEvents p tag (u8 1 ++ [b])) s = .next ((s.taken p).refusedWith p 0x37 tag .range)) ∧
    (s.accepts p ⟨0x38, tag, mask⟩ all = true →
      exec (.setAttention p tag mask) s = .next (State.replied p 0x38 tag (mask ++ flagByte (wants { q with mask := m }))
        ((s.taken p).modPort p fun q => { q with mask := m, attention := wants { q with mask := m } })))

/-! ### Station ports -/

/-- What arrives at a port: a byte with its stop bit high is placed, lost and counted when the FIFO holds 256, and asserts hold-out at a
fill of 192; one with its stop bit low is a break mark, counted. The gap timer's expiry places a break mark unless one was placed last. A
byte of a reply that has left frees its place, the next leaving unless hold-in is asserted; the line's release lets the sending resume. With
no byte leaving REPLY_BYTE_SENT changes nothing (log 2). -/
def Obligations.BytesAndLines : Prop :=
  ∀ (p : PortId) (byte : Byte) (s : State),
    let q := s.ports[p]
    let fill := q.rx.countP RxItem.isByte
    let becomes := fun (c : Instr) (f : Port → Port) => exec c s = .next (s.modPort p f)
    let marked := fun q : Port => { q with rx := q.rx ++ [RxItem.mark], lastBreak := true }
    (becomes (.portByteReceived p byte false) fun q =>
      { marked q with gapTimer := some 5, counts := { q.counts with line := inc16 q.counts.line } }) ∧
    (256 ≤ fill → becomes (.portByteReceived p byte true) fun q =>
      { q with gapTimer := some 5, counts := { q.counts with overruns := inc16 q.counts.overruns } }) ∧
    (fill < 256 → becomes (.portByteReceived p byte true) fun q =>
      { q with gapTimer := some 5, rx := q.rx ++ [RxItem.byte byte], lastBreak := false, holdOut := q.holdOut || decide (192 ≤ fill + 1) }) ∧
    (q.gapTimer ≠ none → q.lastBreak = false → becomes (.gapTimerExpiry p) fun q => { marked q with gapTimer := none }) ∧
    (q.gapTimer ≠ none → q.lastBreak = true → becomes (.gapTimerExpiry p) fun q => { q with gapTimer := none }) ∧
    (q.sending = true → becomes (.replyByteSent p) fun q =>
      { q with tx := q.tx.tail, sending := !q.holdIn && !q.tx.tail.isEmpty }) ∧
    (q.sending = false → becomes (.replyByteSent p) id) ∧
    (becomes (.holdInChange p true) fun q => { q with holdIn := true }) ∧
    (becomes (.holdInChange p false) fun q => { q with holdIn := false, sending := q.sending || !q.tx.isEmpty })

/-- The parser takes nothing during the start-up hold and nothing while it holds a complete request (R190, R191), and of an empty FIFO there
is nothing to take (log 2). Else it takes the head of the FIFO: a byte other than the start byte in HUNT is counted; a length outside
2..250, or a break mark inside a frame, abandons it; the last byte of a frame completes it, held for taking when its check agrees and
counted when it does not. A byte that brings the fill to 64 releases hold-out. -/
def Obligations.ParserTakes : Prop :=
  ∀ (p : PortId) (b : Byte) (rest : List RxItem) (s : State),
    (s.startup = true ∨ (s.ports[p]).held ≠ none → exec (.parserTake p) s = .next s) ∧ (s.startup = false → (s.ports[p]).held = none →
    let q := s.ports[p]
    let fill := rest.countP RxItem.isByte
    let becomes := fun f : Port → Port => exec (.parserTake p) s = .next (s.modPort p f)
    let taken := fun q : Port => { q with rx := rest, holdOut := q.holdOut && decide (64 < fill) }
    let abandoned := fun q : Port => { q with parser := .hunt, counts := { q.counts with abandoned := inc16 q.counts.abandoned } }
    (q.rx = [] → exec (.parserTake p) s = .next s) ∧
    (q.rx = .mark :: rest → (q.parser = .hunt → becomes fun q => { q with rx := rest }) ∧
      (q.parser ≠ .hunt → becomes fun q => abandoned { q with rx := rest })) ∧
    (q.rx = .byte b :: rest → q.parser = .hunt →
      (b = 0xC3#8 → becomes fun q => { taken q with parser := .length }) ∧
      (b ≠ 0xC3#8 → becomes fun q => { taken q with counts := { q.counts with hunted := inc16 q.counts.hunted } })) ∧
    (q.rx = .byte b :: rest → q.parser = .length →
      (2 ≤ b.toNat → b.toNat ≤ 250 → becomes fun q => { taken q with parser := .body b.toNat [] }) ∧
      (b.toNat < 2 ∨ 250 < b.toNat → becomes fun q => abandoned (taken q))) ∧
    (∀ len got, q.rx = .byte b :: rest → q.parser = .body len got → 2 ≤ len → len ≤ 250 →
      (got.length < len + 1 → becomes fun q => { taken q with parser := .body len (got ++ [b]) }) ∧
      (∀ code tag payload hi, got = code :: tag :: payload ++ [hi] → payload.length + 2 = len →
        (checkBytes (u8 len ++ code :: tag :: payload) = [hi, b] →
          becomes fun q => { taken q with parser := .hunt, held := some ⟨code, tag, payload⟩ }) ∧
        (checkBytes (u8 len ++ code :: tag :: payload) ≠ [hi, b] →
          becomes fun q => { taken q with parser := .hunt, counts := { q.counts with check := inc16 q.counts.check } }))))

/-- DEVICE_RESET takes every block to its reset values, with each loop at the level found and no edge taken. What the spec leaves open of
this is the model's choice: the queue of commands and each hold-in line kept as they stand (logs 2, 6), the role, rate and gap timer that
State.reset gives a port (logs 7, 8), the control lines idle with nothing collected (log 10), the records of the return lines and audio
outputs empty and silent (log 11), and the header-valid mark false (log 22). Its end reads the straps, starts the blink timebase and makes
the first cycle of every link, whose send leaves at once or waits, while a message that the line has brought since is arriving (log 10). The
end of the start-up read sets each entry of the directory by the seven bytes that a valid header gives it, and ends the start-up hold. -/
def Obligations.ResetAndStartup : Prop :=
  ∀ (entryLoops : Vector Bool 4) (exitLoops : Vector Bool 2) (e : ResetEnd) (header : List Byte) (s : State),
    let level := fun b : Bool => if b then Loop.occupied else .clear
    let valid := header.length = 229 ∧ header.take 3 = [0x57#8, 0xDC#8, 1#8] ∧ header.drop 227 = checkBytes (header.take 227)
    let roleOf := fun t : Straps => match t.role1, t.role0 with
      | false, false => Role.booth | false, true => .gate | true, false => .kitchen | true, true => .service
    exec (.deviceReset entryLoops exitLoops) s = .next { State.reset with
      pending := s.pending
      entry := entryLoops.map fun b => { (State.reset.entry[(0 : Fin 4)]) with loop := level b }
      exits := exitLoops.map fun b => { (State.reset.exits[(0 : Fin 2)]) with loop := level b }
      ports := s.ports.map fun q => { (State.reset.ports[(0 : Fin 3)]) with holdIn := q.holdIn } } ∧
    (s.inReset = true → (∀ i : ScreenId, s.links[i] = { State.reset.links[i] with collector := (s.links[i]).collector }) →
      exec (.endOfDeviceReset e) s = .next { s with
        inReset := false, blink := some 0
        ports := Vector.ofFn fun j : PortId => { s.ports[j] with role := roleOf e.straps[j], fast := (e.straps[j]).rate }
        links := Vector.ofFn fun i : ScreenId =>
          let k := s.links[i]
          let collector := k.collector.hear e.heard[i]
          let quiet := match collector with | .collecting _ => false | .idle | .ignoring => true
          { k with
            nextSend := 1, latest := some (0, false), refreshTimer := some 1000, counts := { k.counts with sends := 1 }, collector
            leaving := if quiet then some (.settings 0 k.settings) else none
            waiting := if quiet then [] else [.settings 0 k.settings] } }) ∧
    (s.startup = true → s.inReset = false → exec (.startupDirectoryReadDone header) s = .next (State.startAll { s with
      startup := false
      dir := { s.dir with
        entries := Vector.ofFn fun k => if valid then headerEntry header k.val else none
        valid := decide valid, reading := false }
      ports := s.ports.map fun q => { q with holdOut := decide (192 ≤ q.rx.countP RxItem.isByte) } }))

/-! ### Queries -/

/-- The queries of a screen's show, cues, intake and alignment change nothing but their port and answer with the fields of R68, R78, R105
and R125 in their order (the layouts are read from R195, log 12). -/
def Obligations.ScreenQueries : Prop :=
  ∀ (p : PortId) (tag : Byte) (i : ScreenId) (s : State),
    let all : List Role := [.booth, .gate, .kitchen, .service]
    let asks := fun (code : Byte) (payload : List Byte) (c : Instr) (bytes : List Byte) => s.accepts p ⟨code, tag, payload⟩ all = true →
      exec c s = .next (State.replied p code tag bytes (s.taken p))
    let w := s.shows[i]
    let m := w.monitor
    let k := s.intakes[i]
    let a := s.aligns[i]
    let optional := fun (f : Nat → List Byte) (x : Option Nat) => match x with | some n => u8 1 ++ f n | none => u8 0
    let opening := u8 (if k.isOpen then 0 else 1)
    let r := w.settings.rate
    let standing := w.state = .lost ∨ (w.state = .held ∧ w.framesStopped = true) ∨ w.clockLimit = true
    let psp := (w.clock.second * r.fps + w.clock.frame) * r.spf + (if standing then r.spf - 1 else min (r.spf - 1) (m.e * r.spf / m.pLast))
    asks 0x19 (u8 i.val) (.screenQuery p tag (u8 i.val))
      (enumByte [.idle, .armed, .running, .held, .lost, .ended] w.state ++ flagByte w.startPending ++
        (match w.holdReason with | some reason => u8 1 ++ enumByte [.cue, .request, .sound] reason | none => u8 0) ++ flagByte w.framesStopped ++
        u16 w.clock.second ++ u8 w.clock.frame ++ flagByte w.clockLimit ++ u8 (match r with | .fps24 => 24 | .fps25 => 25 | .fps30 => 30) ++
        u16 m.pLast ++ u32 m.e ++ u8 (if m.reference = .valid then 0 else 1) ++ u16 m.glitches ++ u16 m.late ++ u16 w.losses ++
        flagByte w.settings.holdOnLoss ++ u16 w.settings.picture ++ u16 w.settings.exciter ++ i16 w.settings.trim) ∧
    (∀ first : Fin 64, let u := s.cues[i]
      asks 0x1D (u8 i.val ++ u8 first.val) (.cueQuery p tag (u8 i.val ++ u8 first.val))
        (u8 u.cues.length ++ u8 u.cursor ++ flagByte u.flagA ++ flagByte u.flagB ++
          (([0, 1, 2, 3] : List (Fin 4)).flatMap fun j => u8 (if u.lamps[j] then 0 else 1)) ++ u8 (min 16 (u.cues.length - first.val)) ++
          ((u.cues.drop first.val).take 16).flatMap fun c =>
            u8 c.id ++ u16 c.pos.second ++ u8 c.pos.frame ++
              enumByte ([.always, .ifA, .ifNotA, .ifB, .ifNotB, .ifBoth, .ifEither, .ifNeither] : List Guard) c.guard ++ c.action.byte ++
              (match c.action.argument with | some bytes => u8 1 ++ bytes | none => u8 0) ++
              enumByte ([.notReached, .executed, .skipped, .passedOver] : List CueOutcome) c.outcome)) ∧
    asks 0x1F (u8 i.val) (.intakeQuery p tag (u8 i.val))
      (opening ++ u8 k.ring.length ++ optional u32 (k.ring.head?.map (·.asp)) ++ optional u32 k.lastAccepted ++ optional u16 k.expected ++
        flagByte k.holding ++ flagByte k.holdTimer.isSome ++ u8 k.settings.high ++ u8 k.settings.low ++ u16 k.settings.holdTime ++
        u16 k.counts.accepted ++ u16 k.counts.closed ++ u16 k.counts.blockBad ++ u16 k.counts.seqGap ++ u16 k.counts.stampBad ++
        u16 k.counts.stampBack ++ u16 k.counts.overruns ++ u16 k.counts.holds ++ u16 k.counts.resumes) ∧
    asks 0x20 (u8 i.val) (.alignQuery p tag (u8 i.val))
      (u16 w.settings.picture ++ u16 w.settings.exciter ++ i16 w.settings.trim ++ u16 a.dTenths ++ flagByte a.clamped ++ u16 a.dSamples ++
        enumByte ([.muted, .paused, .waiting, .locked, .catchUp, .holdBack] : List AlignMode) a.mode ++
        optional u32 (if w.state = .running ∨ w.state = .held ∨ w.state = .lost then some psp else none) ++
        optional u32 (k.ring.head?.map fun b => b.asp + a.readPoint) ++ u8 a.readPoint ++
        (match a.lastSlip with | some slip => u8 1 ++ i32 slip | none => u8 0) ++ u16 a.counts.underruns ++ u16 a.counts.lateResyncs ++
        u16 a.counts.earlyResyncs ++ u16 a.counts.discarded ++ u32 a.counts.dropped ++ u32 a.counts.repeated)

/-- The queries of calls, clips, exciters, orders, the kitchen, lamps and ports change nothing but their port and answer with the fields
of R143, R141, R155, R174, R178 and R194 in their order (layouts by log 12); a PORT_QUERY finds itself taken and outstanding at its own
port (log 14). -/
def Obligations.OtherQueries : Prop :=
  ∀ (p : PortId) (tag : Byte) (i : ScreenId) (s : State),
    let all : List Role := [.booth, .gate, .kitchen, .service]
    let asks := fun (code : Byte) (payload : List Byte) (c : Instr) (bytes : List Byte) => s.accepts p ⟨code, tag, payload⟩ all = true →
      exec c s = .next (State.replied p code tag bytes (s.taken p))
    let c := s.calls[i]
    let k := s.links[i]
    let u := s.orders
    let mix := fun m : MixSettings => u16 m.duck ++ u16 m.level
    let optional := fun (f : Nat → List Byte) (x : Option Nat) => match x with | some n => u8 1 ++ f n | none => u8 0
    let entry := fun e : CallEntry => match e with
      | .orderCall n => u8 0 ++ u16 n
      | .announce clips => u8 1 ++ u8 clips.length ++ clips.flatMap u8
    asks 0x28 (u8 i.val) (.callQuery p tag (u8 i.val))
      (u8 (if c.callWindow then 0 else 1) ++ u8 (if c.orderWindow then 0 else 1) ++ u8 c.queue.length ++ c.queue.flatMap entry ++
        (match c.slot with
          | some q => u8 1 ++ entry q.entry ++ u8 q.sequence.length ++ q.sequence.flatMap (fun x => u8 x.id) ++ u32 q.placeSamples
          | none => u8 0) ++
        u8 (match c.duckState with | .up => 0 | .rampDown _ => 1 | .ducked => 2 | .rampUp _ _ => 3) ++ u16 c.gain ++ mix c.settings ++
        (match c.heldBack with | some m => u8 1 ++ mix m | none => u8 0) ++ u16 c.played ++ u16 c.cut ++ u16 c.clipLate ++ u32 c.saturations) ∧
    asks 0x29 [] (.clipQuery p tag [])
      (flagByte s.dir.valid ++ flagByte s.dir.reading ++ s.dir.entries.toList.flatMap fun x =>
        match x with | some clip => u8 1 ++ u24 clip.start ++ u24 clip.length | none => u8 0) ∧
    asks 0x2B (u8 i.val) (.exciterQuery p tag (u8 i.val))
      (flagByte k.settings.mute ++ flagByte k.settings.mono ++ u8 k.settings.deviation ++
        u8 (match k.state with | .down => 0 | .up => 1 | .lost => 2) ++ [k.nextSend] ++
        (match k.latest with | some (n, mark) => u8 1 ++ [n] ++ u8 (if mark then 0 else 1) | none => u8 0) ++ u8 k.unanswered ++
        flagByte k.ackTimer.isSome ++ flagByte k.refreshTimer.isSome ++
        (match k.last with | some t => u8 1 ++ flagByte t.carrier ++ flagByte t.fault | none => u8 0) ++ flagByte k.soundUp ++
        u16 k.counts.sends ++ u16 k.counts.retries ++ u16 k.counts.valid ++ u16 k.counts.stale ++ u16 k.counts.statuses ++ u16 k.counts.bad ++
        u16 k.counts.losses) ∧
    (∀ o n, 1 ≤ n → n ≤ 999 → s.order? n = some o → asks 0x32 (u16 n) (.orderQuery p tag (u16 n))
      (u16 n ++ u16 o.ticket ++ u8 o.screen.val ++ u8 (match o.pickup with | .now => 0 | .atBreak => 1) ++ u8 o.items ++ u8 o.prep ++
        u8 (match o.state with | .held _ => 0 | .queued => 1 | .cooking => 2 | .ready _ => 3) ++ u8 o.origin.val ++ u16 o.placedAt ++
        (match o.state with | .ready at_ => u8 1 ++ u16 at_ | _ => u8 0) ++ u8 o.callsPlayed ++ optional u16 o.lastCallEnd ++ flagByte o.owed ++
        (match o.state with | .held pending => u8 1 ++ flagByte pending | _ => u8 0) ++
        (match o.state with
          | .held _ => u8 1 ++ u8 (((u.table.filter fun r => r.isHeld && r.screen == o.screen).map (·.number)).idxOf n)
          | .queued => u8 1 ++ u8 (u.kitchen.idxOf n)
          | .cooking => u8 0
          | .ready _ => u8 1 ++ u8 (u.shelf.idxOf n)))) ∧
    (∀ n, 1 ≤ n → n ≤ 999 → s.order? n = none → s.accepts p ⟨0x32, tag, u16 n⟩ all = true →
      exec (.orderQuery p tag (u16 n)) s = .next ((s.taken p).refusedWith p 0x32 tag .noSuchOrder)) ∧
    asks 0x33 [] (.kitchenReport p tag [])
      (u8 u.kitchen.length ++ u8 u.kitchen.length ++ u.kitchen.flatMap u16 ++ u16 (u.table.countP fun o => o.state == .cooking) ++
        u16 (u.table.countP fun o => match o.state with | .ready _ => true | _ => false) ++ u16 (u.table.countP (·.owed)) ++
        (([0, 1, 2, 3] : List ScreenId).flatMap fun j =>
          let held := u.table.filter fun o => o.isHeld && o.screen == j
          u16 held.length ++ u16 (held.countP fun o => o.state == .held true) ++ flagByte u.released[j] ++
            u8 (if (s.calls[j]).orderWindow then 0 else 1)) ++
        u8 u.pointer.val ++ u16 u.seq ++ u8 u.settings.high ++ u8 u.settings.low ++ u16 u.settings.unitSeconds ++
        u16 u.settings.recallInterval ++ u8 u.settings.maxCalls ++ u16 u.totals.placedNow ++ u16 u.totals.placedBreak ++
        u16 u.totals.collected ++ u16 u.totals.voided ++ u16 u.totals.departed ++ u16 u.totals.showEnded ++ u16 u.totals.request ++
        u16 u.totals.expired) ∧
    asks 0x35 [] (.lampQuery p tag [])
      ((List.finRange 12).flatMap fun j =>
        let l := s.lamps[j]
        l.source.byte ++ (match l.source.indexBytes with | some bytes => u8 1 ++ bytes | none => u8 0) ++ flagByte l.invert ++
          u8 (match l.blink with | .steady => 0 | .slow => 1 | .fast => 2) ++ flagByte (s.sourceValue l.source) ++
          u8 (if s.lampLit j then 0 else 1)) ∧
    (∀ n : PortId, let q := (s.taken p).ports[n]
      q.held = none → asks 0x39 (u8 n.val) (.portQuery p tag (u8 n.val))
        (enumByte ([.booth, .gate, .kitchen, .service] : List Role) q.role ++ u32 (if q.fast then 460800 else 115200) ++
          u8 (match q.parser with | .hunt => 0 | .length => 1 | .body _ _ => 2) ++ u16 (q.rx.countP RxItem.isByte) ++ u16 q.tx.length ++
          flagByte q.holdOut ++ flagByte q.holdIn ++ flagByte (if n = p then true else q.outstanding) ++ u16 q.counts.taken ++
          u16 q.counts.refused ++ u16 q.counts.check ++ u16 q.counts.abandoned ++ u16 q.counts.hunted ++ u16 q.counts.line ++
          u16 q.counts.overruns))

/-! ### The laws every step keeps -/

/-- The laws hold right after device reset. -/
def Obligations.LawsAtReset : Prop :=
  State.reset.laneLaws ∧ State.reset.showLaws ∧ State.reset.clockLaws ∧ State.reset.delayLaws ∧ State.reset.ringLaws ∧ State.reset.cueLaws ∧
    State.reset.cursorLaws ∧ State.reset.queueLaws ∧ State.reset.soundLaws ∧ State.reset.attentionLaws ∧ State.reset.fifoLaws ∧
    State.reset.ticketLaws ∧ State.reset.orderLaws ∧ State.reset.passLaws ∧ State.reset.bookLaws

/-- R28 whole. Every step keeps the laws of the entry lanes: the arm is raised exactly in ARMED, in PASSING for an admitted vehicle and in
STUCK, and the admission is present exactly in ARMED and in PASSING for an admitted vehicle. A PASSING entered from SETTLING has the arm
lowered and the admitted passage flag false, and an entry into STUCK, a tailgater's too, has the arm raised. -/
def Obligations.LaneLawsAreKept : Prop :=
  ∀ s t : State, s.laneLaws → step s = .next t →
    t.laneLaws ∧ ∀ n : LaneId,
      ((s.entry[n]).state = .settling → (t.entry[n]).state = .passing → (t.entry[n]).arm = .lowered ∧ (t.entry[n]).admitted = false) ∧
      ((s.entry[n]).state = .passing → (t.entry[n]).state = .stuck → (t.entry[n]).arm = .raised)

/-- Every step keeps the laws of the screens: the projector pause exactly in HELD (R67) and the hold reason exactly there (R56); the show
clock within 65535+(fps − 1) (R53), with e and P_last within their limits (R50); and the applied delay formed from the settings in force,
within 0..6000 (R107, R108). -/
def Obligations.ScreenLawsAreKept : Prop :=
  ∀ s t : State, step s = .next t →
    (s.showLaws → t.showLaws) ∧ (s.clockLaws → t.clockLaws) ∧ (s.delayLaws → t.delayLaws)

/-- Every step keeps the laws of what a show and the kitchen store: a ring of at most 32 blocks with stamp positions rising by at least 240;
a cue list of at most 64 cues in order with distinct ids; with these and the clock laws, a cursor that divides the cues by the clock; the
bounds of the call queues and the kitchen queue; and the order book, the kitchen queue holding each QUEUED order once, the shelf each READY
one, and the queued order calls naming READY orders. -/
def Obligations.StoreLawsAreKept : Prop :=
  ∀ s t : State, step s = .next t →
    (s.ringLaws → t.ringLaws) ∧ (s.cueLaws → t.cueLaws) ∧ (s.clockLaws → s.cueLaws → s.cursorLaws → t.cursorLaws) ∧
      (s.queueLaws → t.queueLaws) ∧ (s.bookLaws → t.bookLaws)

/-- Every step keeps the laws of the signals: SOUND_UP exactly while the link is UP with the carrier on and no fault; an attention line
asserted exactly while an enabled flag is not CLEAR, with flags in their form; and the receive FIFOs within 256 bytes, hold-out asserted
from 192. -/
def Obligations.SignalLawsAreKept : Prop :=
  ∀ s t : State, step s = .next t →
    (s.soundLaws → t.soundLaws) ∧ (s.attentionLaws → t.attentionLaws) ∧ (s.fifoLaws → t.fifoLaws)

/-- Every step keeps the laws of the gate: with the lane laws, the tickets' numbers, admissions and zone counts; with these, the orders of
live tickets and the open-order counts, and the used marks, set exactly for the passes of live tickets. -/
def Obligations.GateLawsAreKept : Prop :=
  ∀ s t : State, s.laneLaws → s.ticketLaws → step s = .next t →
    t.ticketLaws ∧ (s.orderLaws → t.orderLaws) ∧ (s.passLaws → t.passLaws)
end

