-- ==== Sys2Proof/Laws/State.lean ====
section
/-! SUPPORT. One lemma per field per update of State, true by rfl, so that no later proof unfolds a record update. -/

namespace Sys2Proof.Machine

/-! ### One place of a vector -/

@[simp] theorem upd_get_self {α : Type} {n : Nat} (v : Vector α n) (i : Fin n) (f : α → α) : (upd v i f)[i] = f v[i] := by
  simp [upd]

theorem upd_get_ne {α : Type} {n : Nat} (v : Vector α n) (i j : Fin n) (f : α → α) (h : i ≠ j) : (upd v i f)[j] = v[j] := by
  have hij : i.val ≠ j.val := fun e => h (Fin.ext e)
  simp [upd, hij]

theorem upd_get {α : Type} {n : Nat} (v : Vector α n) (i j : Fin n) (f : α → α) :
    (upd v i f)[j] = if i = j then f v[j] else v[j] := by
  split
  · next h => subst h; exact upd_get_self v i f
  · next h => exact upd_get_ne v i j f h

/-- A property of every place survives an update that keeps it at the place updated. -/
theorem upd_forall {α : Type} {n : Nat} {P : α → Prop} {v : Vector α n} {i : Fin n} {f : α → α}
    (h : ∀ j : Fin n, P v[j]) (hf : P v[i] → P (f v[i])) : ∀ j : Fin n, P (upd v i f)[j] := by
  intro j
  rw [upd_get]
  split
  · next e => subst e; exact hf (h i)
  · exact h j

/-! ### modZone -/

@[simp] theorem State.modZone_pending (i : ScreenId) (f : Zone → Zone) (s : State) : (s.modZone i f).pending = s.pending := rfl
@[simp] theorem State.modZone_inReset (i : ScreenId) (f : Zone → Zone) (s : State) : (s.modZone i f).inReset = s.inReset := rfl
@[simp] theorem State.modZone_startup (i : ScreenId) (f : Zone → Zone) (s : State) : (s.modZone i f).startup = s.startup := rfl
@[simp] theorem State.modZone_tickets (i : ScreenId) (f : Zone → Zone) (s : State) : (s.modZone i f).tickets = s.tickets := rfl
@[simp] theorem State.modZone_nextTicket (i : ScreenId) (f : Zone → Zone) (s : State) : (s.modZone i f).nextTicket = s.nextTicket := rfl
@[simp] theorem State.modZone_nightClock (i : ScreenId) (f : Zone → Zone) (s : State) : (s.modZone i f).nightClock = s.nightClock := rfl
@[simp] theorem State.modZone_zones (i : ScreenId) (f : Zone → Zone) (s : State) : (s.modZone i f).zones = upd s.zones i f := rfl
@[simp] theorem State.modZone_permits (i : ScreenId) (f : Zone → Zone) (s : State) : (s.modZone i f).permits = s.permits := rfl
@[simp] theorem State.modZone_used (i : ScreenId) (f : Zone → Zone) (s : State) : (s.modZone i f).used = s.used := rfl
@[simp] theorem State.modZone_totals (i : ScreenId) (f : Zone → Zone) (s : State) : (s.modZone i f).totals = s.totals := rfl
@[simp] theorem State.modZone_entry (i : ScreenId) (f : Zone → Zone) (s : State) : (s.modZone i f).entry = s.entry := rfl
@[simp] theorem State.modZone_exits (i : ScreenId) (f : Zone → Zone) (s : State) : (s.modZone i f).exits = s.exits := rfl
@[simp] theorem State.modZone_shows (i : ScreenId) (f : Zone → Zone) (s : State) : (s.modZone i f).shows = s.shows := rfl
@[simp] theorem State.modZone_cues (i : ScreenId) (f : Zone → Zone) (s : State) : (s.modZone i f).cues = s.cues := rfl
@[simp] theorem State.modZone_intakes (i : ScreenId) (f : Zone → Zone) (s : State) : (s.modZone i f).intakes = s.intakes := rfl
@[simp] theorem State.modZone_aligns (i : ScreenId) (f : Zone → Zone) (s : State) : (s.modZone i f).aligns = s.aligns := rfl
@[simp] theorem State.modZone_calls (i : ScreenId) (f : Zone → Zone) (s : State) : (s.modZone i f).calls = s.calls := rfl
@[simp] theorem State.modZone_dir (i : ScreenId) (f : Zone → Zone) (s : State) : (s.modZone i f).dir = s.dir := rfl
@[simp] theorem State.modZone_reader (i : ScreenId) (f : Zone → Zone) (s : State) : (s.modZone i f).reader = s.reader := rfl
@[simp] theorem State.modZone_links (i : ScreenId) (f : Zone → Zone) (s : State) : (s.modZone i f).links = s.links := rfl
@[simp] theorem State.modZone_orders (i : ScreenId) (f : Zone → Zone) (s : State) : (s.modZone i f).orders = s.orders := rfl
@[simp] theorem State.modZone_lamps (i : ScreenId) (f : Zone → Zone) (s : State) : (s.modZone i f).lamps = s.lamps := rfl
@[simp] theorem State.modZone_blink (i : ScreenId) (f : Zone → Zone) (s : State) : (s.modZone i f).blink = s.blink := rfl
@[simp] theorem State.modZone_ports (i : ScreenId) (f : Zone → Zone) (s : State) : (s.modZone i f).ports = s.ports := rfl

/-! ### modEntry -/

@[simp] theorem State.modEntry_pending (i : LaneId) (f : EntryLane → EntryLane) (s : State) : (s.modEntry i f).pending = s.pending := rfl
@[simp] theorem State.modEntry_inReset (i : LaneId) (f : EntryLane → EntryLane) (s : State) : (s.modEntry i f).inReset = s.inReset := rfl
@[simp] theorem State.modEntry_startup (i : LaneId) (f : EntryLane → EntryLane) (s : State) : (s.modEntry i f).startup = s.startup := rfl
@[simp] theorem State.modEntry_tickets (i : LaneId) (f : EntryLane → EntryLane) (s : State) : (s.modEntry i f).tickets = s.tickets := rfl
@[simp] theorem State.modEntry_nextTicket (i : LaneId) (f : EntryLane → EntryLane) (s : State) : (s.modEntry i f).nextTicket = s.nextTicket := rfl
@[simp] theorem State.modEntry_nightClock (i : LaneId) (f : EntryLane → EntryLane) (s : State) : (s.modEntry i f).nightClock = s.nightClock := rfl
@[simp] theorem State.modEntry_zones (i : LaneId) (f : EntryLane → EntryLane) (s : State) : (s.modEntry i f).zones = s.zones := rfl
@[simp] theorem State.modEntry_permits (i : LaneId) (f : EntryLane → EntryLane) (s : State) : (s.modEntry i f).permits = s.permits := rfl
@[simp] theorem State.modEntry_used (i : LaneId) (f : EntryLane → EntryLane) (s : State) : (s.modEntry i f).used = s.used := rfl
@[simp] theorem State.modEntry_totals (i : LaneId) (f : EntryLane → EntryLane) (s : State) : (s.modEntry i f).totals = s.totals := rfl
@[simp] theorem State.modEntry_entry (i : LaneId) (f : EntryLane → EntryLane) (s : State) : (s.modEntry i f).entry = upd s.entry i f := rfl
@[simp] theorem State.modEntry_exits (i : LaneId) (f : EntryLane → EntryLane) (s : State) : (s.modEntry i f).exits = s.exits := rfl
@[simp] theorem State.modEntry_shows (i : LaneId) (f : EntryLane → EntryLane) (s : State) : (s.modEntry i f).shows = s.shows := rfl
@[simp] theorem State.modEntry_cues (i : LaneId) (f : EntryLane → EntryLane) (s : State) : (s.modEntry i f).cues = s.cues := rfl
@[simp] theorem State.modEntry_intakes (i : LaneId) (f : EntryLane → EntryLane) (s : State) : (s.modEntry i f).intakes = s.intakes := rfl
@[simp] theorem State.modEntry_aligns (i : LaneId) (f : EntryLane → EntryLane) (s : State) : (s.modEntry i f).aligns = s.aligns := rfl
@[simp] theorem State.modEntry_calls (i : LaneId) (f : EntryLane → EntryLane) (s : State) : (s.modEntry i f).calls = s.calls := rfl
@[simp] theorem State.modEntry_dir (i : LaneId) (f : EntryLane → EntryLane) (s : State) : (s.modEntry i f).dir = s.dir := rfl
@[simp] theorem State.modEntry_reader (i : LaneId) (f : EntryLane → EntryLane) (s : State) : (s.modEntry i f).reader = s.reader := rfl
@[simp] theorem State.modEntry_links (i : LaneId) (f : EntryLane → EntryLane) (s : State) : (s.modEntry i f).links = s.links := rfl
@[simp] theorem State.modEntry_orders (i : LaneId) (f : EntryLane → EntryLane) (s : State) : (s.modEntry i f).orders = s.orders := rfl
@[simp] theorem State.modEntry_lamps (i : LaneId) (f : EntryLane → EntryLane) (s : State) : (s.modEntry i f).lamps = s.lamps := rfl
@[simp] theorem State.modEntry_blink (i : LaneId) (f : EntryLane → EntryLane) (s : State) : (s.modEntry i f).blink = s.blink := rfl
@[simp] theorem State.modEntry_ports (i : LaneId) (f : EntryLane → EntryLane) (s : State) : (s.modEntry i f).ports = s.ports := rfl

/-! ### modExit -/

@[simp] theorem State.modExit_pending (i : ExitId) (f : ExitLane → ExitLane) (s : State) : (s.modExit i f).pending = s.pending := rfl
@[simp] theorem State.modExit_inReset (i : ExitId) (f : ExitLane → ExitLane) (s : State) : (s.modExit i f).inReset = s.inReset := rfl
@[simp] theorem State.modExit_startup (i : ExitId) (f : ExitLane → ExitLane) (s : State) : (s.modExit i f).startup = s.startup := rfl
@[simp] theorem State.modExit_tickets (i : ExitId) (f : ExitLane → ExitLane) (s : State) : (s.modExit i f).tickets = s.tickets := rfl
@[simp] theorem State.modExit_nextTicket (i : ExitId) (f : ExitLane → ExitLane) (s : State) : (s.modExit i f).nextTicket = s.nextTicket := rfl
@[simp] theorem State.modExit_nightClock (i : ExitId) (f : ExitLane → ExitLane) (s : State) : (s.modExit i f).nightClock = s.nightClock := rfl
@[simp] theorem State.modExit_zones (i : ExitId) (f : ExitLane → ExitLane) (s : State) : (s.modExit i f).zones = s.zones := rfl
@[simp] theorem State.modExit_permits (i : ExitId) (f : ExitLane → ExitLane) (s : State) : (s.modExit i f).permits = s.permits := rfl
@[simp] theorem State.modExit_used (i : ExitId) (f : ExitLane → ExitLane) (s : State) : (s.modExit i f).used = s.used := rfl
@[simp] theorem State.modExit_totals (i : ExitId) (f : ExitLane → ExitLane) (s : State) : (s.modExit i f).totals = s.totals := rfl
@[simp] theorem State.modExit_entry (i : ExitId) (f : ExitLane → ExitLane) (s : State) : (s.modExit i f).entry = s.entry := rfl
@[simp] theorem State.modExit_exits (i : ExitId) (f : ExitLane → ExitLane) (s : State) : (s.modExit i f).exits = upd s.exits i f := rfl
@[simp] theorem State.modExit_shows (i : ExitId) (f : ExitLane → ExitLane) (s : State) : (s.modExit i f).shows = s.shows := rfl
@[simp] theorem State.modExit_cues (i : ExitId) (f : ExitLane → ExitLane) (s : State) : (s.modExit i f).cues = s.cues := rfl
@[simp] theorem State.modExit_intakes (i : ExitId) (f : ExitLane → ExitLane) (s : State) : (s.modExit i f).intakes = s.intakes := rfl
@[simp] theorem State.modExit_aligns (i : ExitId) (f : ExitLane → ExitLane) (s : State) : (s.modExit i f).aligns = s.aligns := rfl
@[simp] theorem State.modExit_calls (i : ExitId) (f : ExitLane → ExitLane) (s : State) : (s.modExit i f).calls = s.calls := rfl
@[simp] theorem State.modExit_dir (i : ExitId) (f : ExitLane → ExitLane) (s : State) : (s.modExit i f).dir = s.dir := rfl
@[simp] theorem State.modExit_reader (i : ExitId) (f : ExitLane → ExitLane) (s : State) : (s.modExit i f).reader = s.reader := rfl
@[simp] theorem State.modExit_links (i : ExitId) (f : ExitLane → ExitLane) (s : State) : (s.modExit i f).links = s.links := rfl
@[simp] theorem State.modExit_orders (i : ExitId) (f : ExitLane → ExitLane) (s : State) : (s.modExit i f).orders = s.orders := rfl
@[simp] theorem State.modExit_lamps (i : ExitId) (f : ExitLane → ExitLane) (s : State) : (s.modExit i f).lamps = s.lamps := rfl
@[simp] theorem State.modExit_blink (i : ExitId) (f : ExitLane → ExitLane) (s : State) : (s.modExit i f).blink = s.blink := rfl
@[simp] theorem State.modExit_ports (i : ExitId) (f : ExitLane → ExitLane) (s : State) : (s.modExit i f).ports = s.ports := rfl

/-! ### modShow -/

@[simp] theorem State.modShow_pending (i : ScreenId) (f : Show → Show) (s : State) : (s.modShow i f).pending = s.pending := rfl
@[simp] theorem State.modShow_inReset (i : ScreenId) (f : Show → Show) (s : State) : (s.modShow i f).inReset = s.inReset := rfl
@[simp] theorem State.modShow_startup (i : ScreenId) (f : Show → Show) (s : State) : (s.modShow i f).startup = s.startup := rfl
@[simp] theorem State.modShow_tickets (i : ScreenId) (f : Show → Show) (s : State) : (s.modShow i f).tickets = s.tickets := rfl
@[simp] theorem State.modShow_nextTicket (i : ScreenId) (f : Show → Show) (s : State) : (s.modShow i f).nextTicket = s.nextTicket := rfl
@[simp] theorem State.modShow_nightClock (i : ScreenId) (f : Show → Show) (s : State) : (s.modShow i f).nightClock = s.nightClock := rfl
@[simp] theorem State.modShow_zones (i : ScreenId) (f : Show → Show) (s : State) : (s.modShow i f).zones = s.zones := rfl
@[simp] theorem State.modShow_permits (i : ScreenId) (f : Show → Show) (s : State) : (s.modShow i f).permits = s.permits := rfl
@[simp] theorem State.modShow_used (i : ScreenId) (f : Show → Show) (s : State) : (s.modShow i f).used = s.used := rfl
@[simp] theorem State.modShow_totals (i : ScreenId) (f : Show → Show) (s : State) : (s.modShow i f).totals = s.totals := rfl
@[simp] theorem State.modShow_entry (i : ScreenId) (f : Show → Show) (s : State) : (s.modShow i f).entry = s.entry := rfl
@[simp] theorem State.modShow_exits (i : ScreenId) (f : Show → Show) (s : State) : (s.modShow i f).exits = s.exits := rfl
@[simp] theorem State.modShow_shows (i : ScreenId) (f : Show → Show) (s : State) : (s.modShow i f).shows = upd s.shows i f := rfl
@[simp] theorem State.modShow_cues (i : ScreenId) (f : Show → Show) (s : State) : (s.modShow i f).cues = s.cues := rfl
@[simp] theorem State.modShow_intakes (i : ScreenId) (f : Show → Show) (s : State) : (s.modShow i f).intakes = s.intakes := rfl
@[simp] theorem State.modShow_aligns (i : ScreenId) (f : Show → Show) (s : State) : (s.modShow i f).aligns = s.aligns := rfl
@[simp] theorem State.modShow_calls (i : ScreenId) (f : Show → Show) (s : State) : (s.modShow i f).calls = s.calls := rfl
@[simp] theorem State.modShow_dir (i : ScreenId) (f : Show → Show) (s : State) : (s.modShow i f).dir = s.dir := rfl
@[simp] theorem State.modShow_reader (i : ScreenId) (f : Show → Show) (s : State) : (s.modShow i f).reader = s.reader := rfl
@[simp] theorem State.modShow_links (i : ScreenId) (f : Show → Show) (s : State) : (s.modShow i f).links = s.links := rfl
@[simp] theorem State.modShow_orders (i : ScreenId) (f : Show → Show) (s : State) : (s.modShow i f).orders = s.orders := rfl
@[simp] theorem State.modShow_lamps (i : ScreenId) (f : Show → Show) (s : State) : (s.modShow i f).lamps = s.lamps := rfl
@[simp] theorem State.modShow_blink (i : ScreenId) (f : Show → Show) (s : State) : (s.modShow i f).blink = s.blink := rfl
@[simp] theorem State.modShow_ports (i : ScreenId) (f : Show → Show) (s : State) : (s.modShow i f).ports = s.ports := rfl

/-! ### modCues -/

@[simp] theorem State.modCues_pending (i : ScreenId) (f : CueUnit → CueUnit) (s : State) : (s.modCues i f).pending = s.pending := rfl
@[simp] theorem State.modCues_inReset (i : ScreenId) (f : CueUnit → CueUnit) (s : State) : (s.modCues i f).inReset = s.inReset := rfl
@[simp] theorem State.modCues_startup (i : ScreenId) (f : CueUnit → CueUnit) (s : State) : (s.modCues i f).startup = s.startup := rfl
@[simp] theorem State.modCues_tickets (i : ScreenId) (f : CueUnit → CueUnit) (s : State) : (s.modCues i f).tickets = s.tickets := rfl
@[simp] theorem State.modCues_nextTicket (i : ScreenId) (f : CueUnit → CueUnit) (s : State) : (s.modCues i f).nextTicket = s.nextTicket := rfl
@[simp] theorem State.modCues_nightClock (i : ScreenId) (f : CueUnit → CueUnit) (s : State) : (s.modCues i f).nightClock = s.nightClock := rfl
@[simp] theorem State.modCues_zones (i : ScreenId) (f : CueUnit → CueUnit) (s : State) : (s.modCues i f).zones = s.zones := rfl
@[simp] theorem State.modCues_permits (i : ScreenId) (f : CueUnit → CueUnit) (s : State) : (s.modCues i f).permits = s.permits := rfl
@[simp] theorem State.modCues_used (i : ScreenId) (f : CueUnit → CueUnit) (s : State) : (s.modCues i f).used = s.used := rfl
@[simp] theorem State.modCues_totals (i : ScreenId) (f : CueUnit → CueUnit) (s : State) : (s.modCues i f).totals = s.totals := rfl
@[simp] theorem State.modCues_entry (i : ScreenId) (f : CueUnit → CueUnit) (s : State) : (s.modCues i f).entry = s.entry := rfl
@[simp] theorem State.modCues_exits (i : ScreenId) (f : CueUnit → CueUnit) (s : State) : (s.modCues i f).exits = s.exits := rfl
@[simp] theorem State.modCues_shows (i : ScreenId) (f : CueUnit → CueUnit) (s : State) : (s.modCues i f).shows = s.shows := rfl
@[simp] theorem State.modCues_cues (i : ScreenId) (f : CueUnit → CueUnit) (s : State) : (s.modCues i f).cues = upd s.cues i f := rfl
@[simp] theorem State.modCues_intakes (i : ScreenId) (f : CueUnit → CueUnit) (s : State) : (s.modCues i f).intakes = s.intakes := rfl
@[simp] theorem State.modCues_aligns (i : ScreenId) (f : CueUnit → CueUnit) (s : State) : (s.modCues i f).aligns = s.aligns := rfl
@[simp] theorem State.modCues_calls (i : ScreenId) (f : CueUnit → CueUnit) (s : State) : (s.modCues i f).calls = s.calls := rfl
@[simp] theorem State.modCues_dir (i : ScreenId) (f : CueUnit → CueUnit) (s : State) : (s.modCues i f).dir = s.dir := rfl
@[simp] theorem State.modCues_reader (i : ScreenId) (f : CueUnit → CueUnit) (s : State) : (s.modCues i f).reader = s.reader := rfl
@[simp] theorem State.modCues_links (i : ScreenId) (f : CueUnit → CueUnit) (s : State) : (s.modCues i f).links = s.links := rfl
@[simp] theorem State.modCues_orders (i : ScreenId) (f : CueUnit → CueUnit) (s : State) : (s.modCues i f).orders = s.orders := rfl
@[simp] theorem State.modCues_lamps (i : ScreenId) (f : CueUnit → CueUnit) (s : State) : (s.modCues i f).lamps = s.lamps := rfl
@[simp] theorem State.modCues_blink (i : ScreenId) (f : CueUnit → CueUnit) (s : State) : (s.modCues i f).blink = s.blink := rfl
@[simp] theorem State.modCues_ports (i : ScreenId) (f : CueUnit → CueUnit) (s : State) : (s.modCues i f).ports = s.ports := rfl

/-! ### modIntake -/

@[simp] theorem State.modIntake_pending (i : ScreenId) (f : Intake → Intake) (s : State) : (s.modIntake i f).pending = s.pending := rfl
@[simp] theorem State.modIntake_inReset (i : ScreenId) (f : Intake → Intake) (s : State) : (s.modIntake i f).inReset = s.inReset := rfl
@[simp] theorem State.modIntake_startup (i : ScreenId) (f : Intake → Intake) (s : State) : (s.modIntake i f).startup = s.startup := rfl
@[simp] theorem State.modIntake_tickets (i : ScreenId) (f : Intake → Intake) (s : State) : (s.modIntake i f).tickets = s.tickets := rfl
@[simp] theorem State.modIntake_nextTicket (i : ScreenId) (f : Intake → Intake) (s : State) : (s.modIntake i f).nextTicket = s.nextTicket := rfl
@[simp] theorem State.modIntake_nightClock (i : ScreenId) (f : Intake → Intake) (s : State) : (s.modIntake i f).nightClock = s.nightClock := rfl
@[simp] theorem State.modIntake_zones (i : ScreenId) (f : Intake → Intake) (s : State) : (s.modIntake i f).zones = s.zones := rfl
@[simp] theorem State.modIntake_permits (i : ScreenId) (f : Intake → Intake) (s : State) : (s.modIntake i f).permits = s.permits := rfl
@[simp] theorem State.modIntake_used (i : ScreenId) (f : Intake → Intake) (s : State) : (s.modIntake i f).used = s.used := rfl
@[simp] theorem State.modIntake_totals (i : ScreenId) (f : Intake → Intake) (s : State) : (s.modIntake i f).totals = s.totals := rfl
@[simp] theorem State.modIntake_entry (i : ScreenId) (f : Intake → Intake) (s : State) : (s.modIntake i f).entry = s.entry := rfl
@[simp] theorem State.modIntake_exits (i : ScreenId) (f : Intake → Intake) (s : State) : (s.modIntake i f).exits = s.exits := rfl
@[simp] theorem State.modIntake_shows (i : ScreenId) (f : Intake → Intake) (s : State) : (s.modIntake i f).shows = s.shows := rfl
@[simp] theorem State.modIntake_cues (i : ScreenId) (f : Intake → Intake) (s : State) : (s.modIntake i f).cues = s.cues := rfl
@[simp] theorem State.modIntake_intakes (i : ScreenId) (f : Intake → Intake) (s : State) : (s.modIntake i f).intakes = upd s.intakes i f := rfl
@[simp] theorem State.modIntake_aligns (i : ScreenId) (f : Intake → Intake) (s : State) : (s.modIntake i f).aligns = s.aligns := rfl
@[simp] theorem State.modIntake_calls (i : ScreenId) (f : Intake → Intake) (s : State) : (s.modIntake i f).calls = s.calls := rfl
@[simp] theorem State.modIntake_dir (i : ScreenId) (f : Intake → Intake) (s : State) : (s.modIntake i f).dir = s.dir := rfl
@[simp] theorem State.modIntake_reader (i : ScreenId) (f : Intake → Intake) (s : State) : (s.modIntake i f).reader = s.reader := rfl
@[simp] theorem State.modIntake_links (i : ScreenId) (f : Intake → Intake) (s : State) : (s.modIntake i f).links = s.links := rfl
@[simp] theorem State.modIntake_orders (i : ScreenId) (f : Intake → Intake) (s : State) : (s.modIntake i f).orders = s.orders := rfl
@[simp] theorem State.modIntake_lamps (i : ScreenId) (f : Intake → Intake) (s : State) : (s.modIntake i f).lamps = s.lamps := rfl
@[simp] theorem State.modIntake_blink (i : ScreenId) (f : Intake → Intake) (s : State) : (s.modIntake i f).blink = s.blink := rfl
@[simp] theorem State.modIntake_ports (i : ScreenId) (f : Intake → Intake) (s : State) : (s.modIntake i f).ports = s.ports := rfl

/-! ### modAlign -/

@[simp] theorem State.modAlign_pending (i : ScreenId) (f : Align → Align) (s : State) : (s.modAlign i f).pending = s.pending := rfl
@[simp] theorem State.modAlign_inReset (i : ScreenId) (f : Align → Align) (s : State) : (s.modAlign i f).inReset = s.inReset := rfl
@[simp] theorem State.modAlign_startup (i : ScreenId) (f : Align → Align) (s : State) : (s.modAlign i f).startup = s.startup := rfl
@[simp] theorem State.modAlign_tickets (i : ScreenId) (f : Align → Align) (s : State) : (s.modAlign i f).tickets = s.tickets := rfl
@[simp] theorem State.modAlign_nextTicket (i : ScreenId) (f : Align → Align) (s : State) : (s.modAlign i f).nextTicket = s.nextTicket := rfl
@[simp] theorem State.modAlign_nightClock (i : ScreenId) (f : Align → Align) (s : State) : (s.modAlign i f).nightClock = s.nightClock := rfl
@[simp] theorem State.modAlign_zones (i : ScreenId) (f : Align → Align) (s : State) : (s.modAlign i f).zones = s.zones := rfl
@[simp] theorem State.modAlign_permits (i : ScreenId) (f : Align → Align) (s : State) : (s.modAlign i f).permits = s.permits := rfl
@[simp] theorem State.modAlign_used (i : ScreenId) (f : Align → Align) (s : State) : (s.modAlign i f).used = s.used := rfl
@[simp] theorem State.modAlign_totals (i : ScreenId) (f : Align → Align) (s : State) : (s.modAlign i f).totals = s.totals := rfl
@[simp] theorem State.modAlign_entry (i : ScreenId) (f : Align → Align) (s : State) : (s.modAlign i f).entry = s.entry := rfl
@[simp] theorem State.modAlign_exits (i : ScreenId) (f : Align → Align) (s : State) : (s.modAlign i f).exits = s.exits := rfl
@[simp] theorem State.modAlign_shows (i : ScreenId) (f : Align → Align) (s : State) : (s.modAlign i f).shows = s.shows := rfl
@[simp] theorem State.modAlign_cues (i : ScreenId) (f : Align → Align) (s : State) : (s.modAlign i f).cues = s.cues := rfl
@[simp] theorem State.modAlign_intakes (i : ScreenId) (f : Align → Align) (s : State) : (s.modAlign i f).intakes = s.intakes := rfl
@[simp] theorem State.modAlign_aligns (i : ScreenId) (f : Align → Align) (s : State) : (s.modAlign i f).aligns = upd s.aligns i f := rfl
@[simp] theorem State.modAlign_calls (i : ScreenId) (f : Align → Align) (s : State) : (s.modAlign i f).calls = s.calls := rfl
@[simp] theorem State.modAlign_dir (i : ScreenId) (f : Align → Align) (s : State) : (s.modAlign i f).dir = s.dir := rfl
@[simp] theorem State.modAlign_reader (i : ScreenId) (f : Align → Align) (s : State) : (s.modAlign i f).reader = s.reader := rfl
@[simp] theorem State.modAlign_links (i : ScreenId) (f : Align → Align) (s : State) : (s.modAlign i f).links = s.links := rfl
@[simp] theorem State.modAlign_orders (i : ScreenId) (f : Align → Align) (s : State) : (s.modAlign i f).orders = s.orders := rfl
@[simp] theorem State.modAlign_lamps (i : ScreenId) (f : Align → Align) (s : State) : (s.modAlign i f).lamps = s.lamps := rfl
@[simp] theorem State.modAlign_blink (i : ScreenId) (f : Align → Align) (s : State) : (s.modAlign i f).blink = s.blink := rfl
@[simp] theorem State.modAlign_ports (i : ScreenId) (f : Align → Align) (s : State) : (s.modAlign i f).ports = s.ports := rfl

/-! ### modCalls -/

@[simp] theorem State.modCalls_pending (i : ScreenId) (f : CallUnit → CallUnit) (s : State) : (s.modCalls i f).pending = s.pending := rfl
@[simp] theorem State.modCalls_inReset (i : ScreenId) (f : CallUnit → CallUnit) (s : State) : (s.modCalls i f).inReset = s.inReset := rfl
@[simp] theorem State.modCalls_startup (i : ScreenId) (f : CallUnit → CallUnit) (s : State) : (s.modCalls i f).startup = s.startup := rfl
@[simp] theorem State.modCalls_tickets (i : ScreenId) (f : CallUnit → CallUnit) (s : State) : (s.modCalls i f).tickets = s.tickets := rfl
@[simp] theorem State.modCalls_nextTicket (i : ScreenId) (f : CallUnit → CallUnit) (s : State) : (s.modCalls i f).nextTicket = s.nextTicket := rfl
@[simp] theorem State.modCalls_nightClock (i : ScreenId) (f : CallUnit → CallUnit) (s : State) : (s.modCalls i f).nightClock = s.nightClock := rfl
@[simp] theorem State.modCalls_zones (i : ScreenId) (f : CallUnit → CallUnit) (s : State) : (s.modCalls i f).zones = s.zones := rfl
@[simp] theorem State.modCalls_permits (i : ScreenId) (f : CallUnit → CallUnit) (s : State) : (s.modCalls i f).permits = s.permits := rfl
@[simp] theorem State.modCalls_used (i : ScreenId) (f : CallUnit → CallUnit) (s : State) : (s.modCalls i f).used = s.used := rfl
@[simp] theorem State.modCalls_totals (i : ScreenId) (f : CallUnit → CallUnit) (s : State) : (s.modCalls i f).totals = s.totals := rfl
@[simp] theorem State.modCalls_entry (i : ScreenId) (f : CallUnit → CallUnit) (s : State) : (s.modCalls i f).entry = s.entry := rfl
@[simp] theorem State.modCalls_exits (i : ScreenId) (f : CallUnit → CallUnit) (s : State) : (s.modCalls i f).exits = s.exits := rfl
@[simp] theorem State.modCalls_shows (i : ScreenId) (f : CallUnit → CallUnit) (s : State) : (s.modCalls i f).shows = s.shows := rfl
@[simp] theorem State.modCalls_cues (i : ScreenId) (f : CallUnit → CallUnit) (s : State) : (s.modCalls i f).cues = s.cues := rfl
@[simp] theorem State.modCalls_intakes (i : ScreenId) (f : CallUnit → CallUnit) (s : State) : (s.modCalls i f).intakes = s.intakes := rfl
@[simp] theorem State.modCalls_aligns (i : ScreenId) (f : CallUnit → CallUnit) (s : State) : (s.modCalls i f).aligns = s.aligns := rfl
@[simp] theorem State.modCalls_calls (i : ScreenId) (f : CallUnit → CallUnit) (s : State) : (s.modCalls i f).calls = upd s.calls i f := rfl
@[simp] theorem State.modCalls_dir (i : ScreenId) (f : CallUnit → CallUnit) (s : State) : (s.modCalls i f).dir = s.dir := rfl
@[simp] theorem State.modCalls_reader (i : ScreenId) (f : CallUnit → CallUnit) (s : State) : (s.modCalls i f).reader = s.reader := rfl
@[simp] theorem State.modCalls_links (i : ScreenId) (f : CallUnit → CallUnit) (s : State) : (s.modCalls i f).links = s.links := rfl
@[simp] theorem State.modCalls_orders (i : ScreenId) (f : CallUnit → CallUnit) (s : State) : (s.modCalls i f).orders = s.orders := rfl
@[simp] theorem State.modCalls_lamps (i : ScreenId) (f : CallUnit → CallUnit) (s : State) : (s.modCalls i f).lamps = s.lamps := rfl
@[simp] theorem State.modCalls_blink (i : ScreenId) (f : CallUnit → CallUnit) (s : State) : (s.modCalls i f).blink = s.blink := rfl
@[simp] theorem State.modCalls_ports (i : ScreenId) (f : CallUnit → CallUnit) (s : State) : (s.modCalls i f).ports = s.ports := rfl

/-! ### modLink -/

@[simp] theorem State.modLink_pending (i : ScreenId) (f : Link → Link) (s : State) : (s.modLink i f).pending = s.pending := rfl
@[simp] theorem State.modLink_inReset (i : ScreenId) (f : Link → Link) (s : State) : (s.modLink i f).inReset = s.inReset := rfl
@[simp] theorem State.modLink_startup (i : ScreenId) (f : Link → Link) (s : State) : (s.modLink i f).startup = s.startup := rfl
@[simp] theorem State.modLink_tickets (i : ScreenId) (f : Link → Link) (s : State) : (s.modLink i f).tickets = s.tickets := rfl
@[simp] theorem State.modLink_nextTicket (i : ScreenId) (f : Link → Link) (s : State) : (s.modLink i f).nextTicket = s.nextTicket := rfl
@[simp] theorem State.modLink_nightClock (i : ScreenId) (f : Link → Link) (s : State) : (s.modLink i f).nightClock = s.nightClock := rfl
@[simp] theorem State.modLink_zones (i : ScreenId) (f : Link → Link) (s : State) : (s.modLink i f).zones = s.zones := rfl
@[simp] theorem State.modLink_permits (i : ScreenId) (f : Link → Link) (s : State) : (s.modLink i f).permits = s.permits := rfl
@[simp] theorem State.modLink_used (i : ScreenId) (f : Link → Link) (s : State) : (s.modLink i f).used = s.used := rfl
@[simp] theorem State.modLink_totals (i : ScreenId) (f : Link → Link) (s : State) : (s.modLink i f).totals = s.totals := rfl
@[simp] theorem State.modLink_entry (i : ScreenId) (f : Link → Link) (s : State) : (s.modLink i f).entry = s.entry := rfl
@[simp] theorem State.modLink_exits (i : ScreenId) (f : Link → Link) (s : State) : (s.modLink i f).exits = s.exits := rfl
@[simp] theorem State.modLink_shows (i : ScreenId) (f : Link → Link) (s : State) : (s.modLink i f).shows = s.shows := rfl
@[simp] theorem State.modLink_cues (i : ScreenId) (f : Link → Link) (s : State) : (s.modLink i f).cues = s.cues := rfl
@[simp] theorem State.modLink_intakes (i : ScreenId) (f : Link → Link) (s : State) : (s.modLink i f).intakes = s.intakes := rfl
@[simp] theorem State.modLink_aligns (i : ScreenId) (f : Link → Link) (s : State) : (s.modLink i f).aligns = s.aligns := rfl
@[simp] theorem State.modLink_calls (i : ScreenId) (f : Link → Link) (s : State) : (s.modLink i f).calls = s.calls := rfl
@[simp] theorem State.modLink_dir (i : ScreenId) (f : Link → Link) (s : State) : (s.modLink i f).dir = s.dir := rfl
@[simp] theorem State.modLink_reader (i : ScreenId) (f : Link → Link) (s : State) : (s.modLink i f).reader = s.reader := rfl
@[simp] theorem State.modLink_links (i : ScreenId) (f : Link → Link) (s : State) : (s.modLink i f).links = upd s.links i f := rfl
@[simp] theorem State.modLink_orders (i : ScreenId) (f : Link → Link) (s : State) : (s.modLink i f).orders = s.orders := rfl
@[simp] theorem State.modLink_lamps (i : ScreenId) (f : Link → Link) (s : State) : (s.modLink i f).lamps = s.lamps := rfl
@[simp] theorem State.modLink_blink (i : ScreenId) (f : Link → Link) (s : State) : (s.modLink i f).blink = s.blink := rfl
@[simp] theorem State.modLink_ports (i : ScreenId) (f : Link → Link) (s : State) : (s.modLink i f).ports = s.ports := rfl

/-! ### modPort -/

@[simp] theorem State.modPort_pending (i : PortId) (f : Port → Port) (s : State) : (s.modPort i f).pending = s.pending := rfl
@[simp] theorem State.modPort_inReset (i : PortId) (f : Port → Port) (s : State) : (s.modPort i f).inReset = s.inReset := rfl
@[simp] theorem State.modPort_startup (i : PortId) (f : Port → Port) (s : State) : (s.modPort i f).startup = s.startup := rfl
@[simp] theorem State.modPort_tickets (i : PortId) (f : Port → Port) (s : State) : (s.modPort i f).tickets = s.tickets := rfl
@[simp] theorem State.modPort_nextTicket (i : PortId) (f : Port → Port) (s : State) : (s.modPort i f).nextTicket = s.nextTicket := rfl
@[simp] theorem State.modPort_nightClock (i : PortId) (f : Port → Port) (s : State) : (s.modPort i f).nightClock = s.nightClock := rfl
@[simp] theorem State.modPort_zones (i : PortId) (f : Port → Port) (s : State) : (s.modPort i f).zones = s.zones := rfl
@[simp] theorem State.modPort_permits (i : PortId) (f : Port → Port) (s : State) : (s.modPort i f).permits = s.permits := rfl
@[simp] theorem State.modPort_used (i : PortId) (f : Port → Port) (s : State) : (s.modPort i f).used = s.used := rfl
@[simp] theorem State.modPort_totals (i : PortId) (f : Port → Port) (s : State) : (s.modPort i f).totals = s.totals := rfl
@[simp] theorem State.modPort_entry (i : PortId) (f : Port → Port) (s : State) : (s.modPort i f).entry = s.entry := rfl
@[simp] theorem State.modPort_exits (i : PortId) (f : Port → Port) (s : State) : (s.modPort i f).exits = s.exits := rfl
@[simp] theorem State.modPort_shows (i : PortId) (f : Port → Port) (s : State) : (s.modPort i f).shows = s.shows := rfl
@[simp] theorem State.modPort_cues (i : PortId) (f : Port → Port) (s : State) : (s.modPort i f).cues = s.cues := rfl
@[simp] theorem State.modPort_intakes (i : PortId) (f : Port → Port) (s : State) : (s.modPort i f).intakes = s.intakes := rfl
@[simp] theorem State.modPort_aligns (i : PortId) (f : Port → Port) (s : State) : (s.modPort i f).aligns = s.aligns := rfl
@[simp] theorem State.modPort_calls (i : PortId) (f : Port → Port) (s : State) : (s.modPort i f).calls = s.calls := rfl
@[simp] theorem State.modPort_dir (i : PortId) (f : Port → Port) (s : State) : (s.modPort i f).dir = s.dir := rfl
@[simp] theorem State.modPort_reader (i : PortId) (f : Port → Port) (s : State) : (s.modPort i f).reader = s.reader := rfl
@[simp] theorem State.modPort_links (i : PortId) (f : Port → Port) (s : State) : (s.modPort i f).links = s.links := rfl
@[simp] theorem State.modPort_orders (i : PortId) (f : Port → Port) (s : State) : (s.modPort i f).orders = s.orders := rfl
@[simp] theorem State.modPort_lamps (i : PortId) (f : Port → Port) (s : State) : (s.modPort i f).lamps = s.lamps := rfl
@[simp] theorem State.modPort_blink (i : PortId) (f : Port → Port) (s : State) : (s.modPort i f).blink = s.blink := rfl
@[simp] theorem State.modPort_ports (i : PortId) (f : Port → Port) (s : State) : (s.modPort i f).ports = upd s.ports i f := rfl

/-! ### modLamp -/

@[simp] theorem State.modLamp_pending (i : Fin 12) (f : Lamp → Lamp) (s : State) : (s.modLamp i f).pending = s.pending := rfl
@[simp] theorem State.modLamp_inReset (i : Fin 12) (f : Lamp → Lamp) (s : State) : (s.modLamp i f).inReset = s.inReset := rfl
@[simp] theorem State.modLamp_startup (i : Fin 12) (f : Lamp → Lamp) (s : State) : (s.modLamp i f).startup = s.startup := rfl
@[simp] theorem State.modLamp_tickets (i : Fin 12) (f : Lamp → Lamp) (s : State) : (s.modLamp i f).tickets = s.tickets := rfl
@[simp] theorem State.modLamp_nextTicket (i : Fin 12) (f : Lamp → Lamp) (s : State) : (s.modLamp i f).nextTicket = s.nextTicket := rfl
@[simp] theorem State.modLamp_nightClock (i : Fin 12) (f : Lamp → Lamp) (s : State) : (s.modLamp i f).nightClock = s.nightClock := rfl
@[simp] theorem State.modLamp_zones (i : Fin 12) (f : Lamp → Lamp) (s : State) : (s.modLamp i f).zones = s.zones := rfl
@[simp] theorem State.modLamp_permits (i : Fin 12) (f : Lamp → Lamp) (s : State) : (s.modLamp i f).permits = s.permits := rfl
@[simp] theorem State.modLamp_used (i : Fin 12) (f : Lamp → Lamp) (s : State) : (s.modLamp i f).used = s.used := rfl
@[simp] theorem State.modLamp_totals (i : Fin 12) (f : Lamp → Lamp) (s : State) : (s.modLamp i f).totals = s.totals := rfl
@[simp] theorem State.modLamp_entry (i : Fin 12) (f : Lamp → Lamp) (s : State) : (s.modLamp i f).entry = s.entry := rfl
@[simp] theorem State.modLamp_exits (i : Fin 12) (f : Lamp → Lamp) (s : State) : (s.modLamp i f).exits = s.exits := rfl
@[simp] theorem State.modLamp_shows (i : Fin 12) (f : Lamp → Lamp) (s : State) : (s.modLamp i f).shows = s.shows := rfl
@[simp] theorem State.modLamp_cues (i : Fin 12) (f : Lamp → Lamp) (s : State) : (s.modLamp i f).cues = s.cues := rfl
@[simp] theorem State.modLamp_intakes (i : Fin 12) (f : Lamp → Lamp) (s : State) : (s.modLamp i f).intakes = s.intakes := rfl
@[simp] theorem State.modLamp_aligns (i : Fin 12) (f : Lamp → Lamp) (s : State) : (s.modLamp i f).aligns = s.aligns := rfl
@[simp] theorem State.modLamp_calls (i : Fin 12) (f : Lamp → Lamp) (s : State) : (s.modLamp i f).calls = s.calls := rfl
@[simp] theorem State.modLamp_dir (i : Fin 12) (f : Lamp → Lamp) (s : State) : (s.modLamp i f).dir = s.dir := rfl
@[simp] theorem State.modLamp_reader (i : Fin 12) (f : Lamp → Lamp) (s : State) : (s.modLamp i f).reader = s.reader := rfl
@[simp] theorem State.modLamp_links (i : Fin 12) (f : Lamp → Lamp) (s : State) : (s.modLamp i f).links = s.links := rfl
@[simp] theorem State.modLamp_orders (i : Fin 12) (f : Lamp → Lamp) (s : State) : (s.modLamp i f).orders = s.orders := rfl
@[simp] theorem State.modLamp_lamps (i : Fin 12) (f : Lamp → Lamp) (s : State) : (s.modLamp i f).lamps = upd s.lamps i f := rfl
@[simp] theorem State.modLamp_blink (i : Fin 12) (f : Lamp → Lamp) (s : State) : (s.modLamp i f).blink = s.blink := rfl
@[simp] theorem State.modLamp_ports (i : Fin 12) (f : Lamp → Lamp) (s : State) : (s.modLamp i f).ports = s.ports := rfl

/-! ### modTotals -/

@[simp] theorem State.modTotals_pending (f : NightTotals → NightTotals) (s : State) : (s.modTotals f).pending = s.pending := rfl
@[simp] theorem State.modTotals_inReset (f : NightTotals → NightTotals) (s : State) : (s.modTotals f).inReset = s.inReset := rfl
@[simp] theorem State.modTotals_startup (f : NightTotals → NightTotals) (s : State) : (s.modTotals f).startup = s.startup := rfl
@[simp] theorem State.modTotals_tickets (f : NightTotals → NightTotals) (s : State) : (s.modTotals f).tickets = s.tickets := rfl
@[simp] theorem State.modTotals_nextTicket (f : NightTotals → NightTotals) (s : State) : (s.modTotals f).nextTicket = s.nextTicket := rfl
@[simp] theorem State.modTotals_nightClock (f : NightTotals → NightTotals) (s : State) : (s.modTotals f).nightClock = s.nightClock := rfl
@[simp] theorem State.modTotals_zones (f : NightTotals → NightTotals) (s : State) : (s.modTotals f).zones = s.zones := rfl
@[simp] theorem State.modTotals_permits (f : NightTotals → NightTotals) (s : State) : (s.modTotals f).permits = s.permits := rfl
@[simp] theorem State.modTotals_used (f : NightTotals → NightTotals) (s : State) : (s.modTotals f).used = s.used := rfl
@[simp] theorem State.modTotals_totals (f : NightTotals → NightTotals) (s : State) : (s.modTotals f).totals = f s.totals := rfl
@[simp] theorem State.modTotals_entry (f : NightTotals → NightTotals) (s : State) : (s.modTotals f).entry = s.entry := rfl
@[simp] theorem State.modTotals_exits (f : NightTotals → NightTotals) (s : State) : (s.modTotals f).exits = s.exits := rfl
@[simp] theorem State.modTotals_shows (f : NightTotals → NightTotals) (s : State) : (s.modTotals f).shows = s.shows := rfl
@[simp] theorem State.modTotals_cues (f : NightTotals → NightTotals) (s : State) : (s.modTotals f).cues = s.cues := rfl
@[simp] theorem State.modTotals_intakes (f : NightTotals → NightTotals) (s : State) : (s.modTotals f).intakes = s.intakes := rfl
@[simp] theorem State.modTotals_aligns (f : NightTotals → NightTotals) (s : State) : (s.modTotals f).aligns = s.aligns := rfl
@[simp] theorem State.modTotals_calls (f : NightTotals → NightTotals) (s : State) : (s.modTotals f).calls = s.calls := rfl
@[simp] theorem State.modTotals_dir (f : NightTotals → NightTotals) (s : State) : (s.modTotals f).dir = s.dir := rfl
@[simp] theorem State.modTotals_reader (f : NightTotals → NightTotals) (s : State) : (s.modTotals f).reader = s.reader := rfl
@[simp] theorem State.modTotals_links (f : NightTotals → NightTotals) (s : State) : (s.modTotals f).links = s.links := rfl
@[simp] theorem State.modTotals_orders (f : NightTotals → NightTotals) (s : State) : (s.modTotals f).orders = s.orders := rfl
@[simp] theorem State.modTotals_lamps (f : NightTotals → NightTotals) (s : State) : (s.modTotals f).lamps = s.lamps := rfl
@[simp] theorem State.modTotals_blink (f : NightTotals → NightTotals) (s : State) : (s.modTotals f).blink = s.blink := rfl
@[simp] theorem State.modTotals_ports (f : NightTotals → NightTotals) (s : State) : (s.modTotals f).ports = s.ports := rfl

/-! ### modOrders -/

@[simp] theorem State.modOrders_pending (f : OrderUnit → OrderUnit) (s : State) : (s.modOrders f).pending = s.pending := rfl
@[simp] theorem State.modOrders_inReset (f : OrderUnit → OrderUnit) (s : State) : (s.modOrders f).inReset = s.inReset := rfl
@[simp] theorem State.modOrders_startup (f : OrderUnit → OrderUnit) (s : State) : (s.modOrders f).startup = s.startup := rfl
@[simp] theorem State.modOrders_tickets (f : OrderUnit → OrderUnit) (s : State) : (s.modOrders f).tickets = s.tickets := rfl
@[simp] theorem State.modOrders_nextTicket (f : OrderUnit → OrderUnit) (s : State) : (s.modOrders f).nextTicket = s.nextTicket := rfl
@[simp] theorem State.modOrders_nightClock (f : OrderUnit → OrderUnit) (s : State) : (s.modOrders f).nightClock = s.nightClock := rfl
@[simp] theorem State.modOrders_zones (f : OrderUnit → OrderUnit) (s : State) : (s.modOrders f).zones = s.zones := rfl
@[simp] theorem State.modOrders_permits (f : OrderUnit → OrderUnit) (s : State) : (s.modOrders f).permits = s.permits := rfl
@[simp] theorem State.modOrders_used (f : OrderUnit → OrderUnit) (s : State) : (s.modOrders f).used = s.used := rfl
@[simp] theorem State.modOrders_totals (f : OrderUnit → OrderUnit) (s : State) : (s.modOrders f).totals = s.totals := rfl
@[simp] theorem State.modOrders_entry (f : OrderUnit → OrderUnit) (s : State) : (s.modOrders f).entry = s.entry := rfl
@[simp] theorem State.modOrders_exits (f : OrderUnit → OrderUnit) (s : State) : (s.modOrders f).exits = s.exits := rfl
@[simp] theorem State.modOrders_shows (f : OrderUnit → OrderUnit) (s : State) : (s.modOrders f).shows = s.shows := rfl
@[simp] theorem State.modOrders_cues (f : OrderUnit → OrderUnit) (s : State) : (s.modOrders f).cues = s.cues := rfl
@[simp] theorem State.modOrders_intakes (f : OrderUnit → OrderUnit) (s : State) : (s.modOrders f).intakes = s.intakes := rfl
@[simp] theorem State.modOrders_aligns (f : OrderUnit → OrderUnit) (s : State) : (s.modOrders f).aligns = s.aligns := rfl
@[simp] theorem State.modOrders_calls (f : OrderUnit → OrderUnit) (s : State) : (s.modOrders f).calls = s.calls := rfl
@[simp] theorem State.modOrders_dir (f : OrderUnit → OrderUnit) (s : State) : (s.modOrders f).dir = s.dir := rfl
@[simp] theorem State.modOrders_reader (f : OrderUnit → OrderUnit) (s : State) : (s.modOrders f).reader = s.reader := rfl
@[simp] theorem State.modOrders_links (f : OrderUnit → OrderUnit) (s : State) : (s.modOrders f).links = s.links := rfl
@[simp] theorem State.modOrders_orders (f : OrderUnit → OrderUnit) (s : State) : (s.modOrders f).orders = f s.orders := rfl
@[simp] theorem State.modOrders_lamps (f : OrderUnit → OrderUnit) (s : State) : (s.modOrders f).lamps = s.lamps := rfl
@[simp] theorem State.modOrders_blink (f : OrderUnit → OrderUnit) (s : State) : (s.modOrders f).blink = s.blink := rfl
@[simp] theorem State.modOrders_ports (f : OrderUnit → OrderUnit) (s : State) : (s.modOrders f).ports = s.ports := rfl

/-! ### modTickets -/

@[simp] theorem State.modTickets_pending (f : List Ticket → List Ticket) (s : State) : (s.modTickets f).pending = s.pending := rfl
@[simp] theorem State.modTickets_inReset (f : List Ticket → List Ticket) (s : State) : (s.modTickets f).inReset = s.inReset := rfl
@[simp] theorem State.modTickets_startup (f : List Ticket → List Ticket) (s : State) : (s.modTickets f).startup = s.startup := rfl
@[simp] theorem State.modTickets_tickets (f : List Ticket → List Ticket) (s : State) : (s.modTickets f).tickets = f s.tickets := rfl
@[simp] theorem State.modTickets_nextTicket (f : List Ticket → List Ticket) (s : State) : (s.modTickets f).nextTicket = s.nextTicket := rfl
@[simp] theorem State.modTickets_nightClock (f : List Ticket → List Ticket) (s : State) : (s.modTickets f).nightClock = s.nightClock := rfl
@[simp] theorem State.modTickets_zones (f : List Ticket → List Ticket) (s : State) : (s.modTickets f).zones = s.zones := rfl
@[simp] theorem State.modTickets_permits (f : List Ticket → List Ticket) (s : State) : (s.modTickets f).permits = s.permits := rfl
@[simp] theorem State.modTickets_used (f : List Ticket → List Ticket) (s : State) : (s.modTickets f).used = s.used := rfl
@[simp] theorem State.modTickets_totals (f : List Ticket → List Ticket) (s : State) : (s.modTickets f).totals = s.totals := rfl
@[simp] theorem State.modTickets_entry (f : List Ticket → List Ticket) (s : State) : (s.modTickets f).entry = s.entry := rfl
@[simp] theorem State.modTickets_exits (f : List Ticket → List Ticket) (s : State) : (s.modTickets f).exits = s.exits := rfl
@[simp] theorem State.modTickets_shows (f : List Ticket → List Ticket) (s : State) : (s.modTickets f).shows = s.shows := rfl
@[simp] theorem State.modTickets_cues (f : List Ticket → List Ticket) (s : State) : (s.modTickets f).cues = s.cues := rfl
@[simp] theorem State.modTickets_intakes (f : List Ticket → List Ticket) (s : State) : (s.modTickets f).intakes = s.intakes := rfl
@[simp] theorem State.modTickets_aligns (f : List Ticket → List Ticket) (s : State) : (s.modTickets f).aligns = s.aligns := rfl
@[simp] theorem State.modTickets_calls (f : List Ticket → List Ticket) (s : State) : (s.modTickets f).calls = s.calls := rfl
@[simp] theorem State.modTickets_dir (f : List Ticket → List Ticket) (s : State) : (s.modTickets f).dir = s.dir := rfl
@[simp] theorem State.modTickets_reader (f : List Ticket → List Ticket) (s : State) : (s.modTickets f).reader = s.reader := rfl
@[simp] theorem State.modTickets_links (f : List Ticket → List Ticket) (s : State) : (s.modTickets f).links = s.links := rfl
@[simp] theorem State.modTickets_orders (f : List Ticket → List Ticket) (s : State) : (s.modTickets f).orders = s.orders := rfl
@[simp] theorem State.modTickets_lamps (f : List Ticket → List Ticket) (s : State) : (s.modTickets f).lamps = s.lamps := rfl
@[simp] theorem State.modTickets_blink (f : List Ticket → List Ticket) (s : State) : (s.modTickets f).blink = s.blink := rfl
@[simp] theorem State.modTickets_ports (f : List Ticket → List Ticket) (s : State) : (s.modTickets f).ports = s.ports := rfl

/-! ### modDir -/

@[simp] theorem State.modDir_pending (f : Directory → Directory) (s : State) : (s.modDir f).pending = s.pending := rfl
@[simp] theorem State.modDir_inReset (f : Directory → Directory) (s : State) : (s.modDir f).inReset = s.inReset := rfl
@[simp] theorem State.modDir_startup (f : Directory → Directory) (s : State) : (s.modDir f).startup = s.startup := rfl
@[simp] theorem State.modDir_tickets (f : Directory → Directory) (s : State) : (s.modDir f).tickets = s.tickets := rfl
@[simp] theorem State.modDir_nextTicket (f : Directory → Directory) (s : State) : (s.modDir f).nextTicket = s.nextTicket := rfl
@[simp] theorem State.modDir_nightClock (f : Directory → Directory) (s : State) : (s.modDir f).nightClock = s.nightClock := rfl
@[simp] theorem State.modDir_zones (f : Directory → Directory) (s : State) : (s.modDir f).zones = s.zones := rfl
@[simp] theorem State.modDir_permits (f : Directory → Directory) (s : State) : (s.modDir f).permits = s.permits := rfl
@[simp] theorem State.modDir_used (f : Directory → Directory) (s : State) : (s.modDir f).used = s.used := rfl
@[simp] theorem State.modDir_totals (f : Directory → Directory) (s : State) : (s.modDir f).totals = s.totals := rfl
@[simp] theorem State.modDir_entry (f : Directory → Directory) (s : State) : (s.modDir f).entry = s.entry := rfl
@[simp] theorem State.modDir_exits (f : Directory → Directory) (s : State) : (s.modDir f).exits = s.exits := rfl
@[simp] theorem State.modDir_shows (f : Directory → Directory) (s : State) : (s.modDir f).shows = s.shows := rfl
@[simp] theorem State.modDir_cues (f : Directory → Directory) (s : State) : (s.modDir f).cues = s.cues := rfl
@[simp] theorem State.modDir_intakes (f : Directory → Directory) (s : State) : (s.modDir f).intakes = s.intakes := rfl
@[simp] theorem State.modDir_aligns (f : Directory → Directory) (s : State) : (s.modDir f).aligns = s.aligns := rfl
@[simp] theorem State.modDir_calls (f : Directory → Directory) (s : State) : (s.modDir f).calls = s.calls := rfl
@[simp] theorem State.modDir_dir (f : Directory → Directory) (s : State) : (s.modDir f).dir = f s.dir := rfl
@[simp] theorem State.modDir_reader (f : Directory → Directory) (s : State) : (s.modDir f).reader = s.reader := rfl
@[simp] theorem State.modDir_links (f : Directory → Directory) (s : State) : (s.modDir f).links = s.links := rfl
@[simp] theorem State.modDir_orders (f : Directory → Directory) (s : State) : (s.modDir f).orders = s.orders := rfl
@[simp] theorem State.modDir_lamps (f : Directory → Directory) (s : State) : (s.modDir f).lamps = s.lamps := rfl
@[simp] theorem State.modDir_blink (f : Directory → Directory) (s : State) : (s.modDir f).blink = s.blink := rfl
@[simp] theorem State.modDir_ports (f : Directory → Directory) (s : State) : (s.modDir f).ports = s.ports := rfl

/-! ### modReader -/

@[simp] theorem State.modReader_pending (f : ClipReader → ClipReader) (s : State) : (s.modReader f).pending = s.pending := rfl
@[simp] theorem State.modReader_inReset (f : ClipReader → ClipReader) (s : State) : (s.modReader f).inReset = s.inReset := rfl
@[simp] theorem State.modReader_startup (f : ClipReader → ClipReader) (s : State) : (s.modReader f).startup = s.startup := rfl
@[simp] theorem State.modReader_tickets (f : ClipReader → ClipReader) (s : State) : (s.modReader f).tickets = s.tickets := rfl
@[simp] theorem State.modReader_nextTicket (f : ClipReader → ClipReader) (s : State) : (s.modReader f).nextTicket = s.nextTicket := rfl
@[simp] theorem State.modReader_nightClock (f : ClipReader → ClipReader) (s : State) : (s.modReader f).nightClock = s.nightClock := rfl
@[simp] theorem State.modReader_zones (f : ClipReader → ClipReader) (s : State) : (s.modReader f).zones = s.zones := rfl
@[simp] theorem State.modReader_permits (f : ClipReader → ClipReader) (s : State) : (s.modReader f).permits = s.permits := rfl
@[simp] theorem State.modReader_used (f : ClipReader → ClipReader) (s : State) : (s.modReader f).used = s.used := rfl
@[simp] theorem State.modReader_totals (f : ClipReader → ClipReader) (s : State) : (s.modReader f).totals = s.totals := rfl
@[simp] theorem State.modReader_entry (f : ClipReader → ClipReader) (s : State) : (s.modReader f).entry = s.entry := rfl
@[simp] theorem State.modReader_exits (f : ClipReader → ClipReader) (s : State) : (s.modReader f).exits = s.exits := rfl
@[simp] theorem State.modReader_shows (f : ClipReader → ClipReader) (s : State) : (s.modReader f).shows = s.shows := rfl
@[simp] theorem State.modReader_cues (f : ClipReader → ClipReader) (s : State) : (s.modReader f).cues = s.cues := rfl
@[simp] theorem State.modReader_intakes (f : ClipReader → ClipReader) (s : State) : (s.modReader f).intakes = s.intakes := rfl
@[simp] theorem State.modReader_aligns (f : ClipReader → ClipReader) (s : State) : (s.modReader f).aligns = s.aligns := rfl
@[simp] theorem State.modReader_calls (f : ClipReader → ClipReader) (s : State) : (s.modReader f).calls = s.calls := rfl
@[simp] theorem State.modReader_dir (f : ClipReader → ClipReader) (s : State) : (s.modReader f).dir = s.dir := rfl
@[simp] theorem State.modReader_reader (f : ClipReader → ClipReader) (s : State) : (s.modReader f).reader = f s.reader := rfl
@[simp] theorem State.modReader_links (f : ClipReader → ClipReader) (s : State) : (s.modReader f).links = s.links := rfl
@[simp] theorem State.modReader_orders (f : ClipReader → ClipReader) (s : State) : (s.modReader f).orders = s.orders := rfl
@[simp] theorem State.modReader_lamps (f : ClipReader → ClipReader) (s : State) : (s.modReader f).lamps = s.lamps := rfl
@[simp] theorem State.modReader_blink (f : ClipReader → ClipReader) (s : State) : (s.modReader f).blink = s.blink := rfl
@[simp] theorem State.modReader_ports (f : ClipReader → ClipReader) (s : State) : (s.modReader f).ports = s.ports := rfl

/-! ### post -/

@[simp] theorem State.post_pending (k : EventKind) (d : Detail) (s : State) : (s.post k d).pending = s.pending := rfl
@[simp] theorem State.post_inReset (k : EventKind) (d : Detail) (s : State) : (s.post k d).inReset = s.inReset := rfl
@[simp] theorem State.post_startup (k : EventKind) (d : Detail) (s : State) : (s.post k d).startup = s.startup := rfl
@[simp] theorem State.post_tickets (k : EventKind) (d : Detail) (s : State) : (s.post k d).tickets = s.tickets := rfl
@[simp] theorem State.post_nextTicket (k : EventKind) (d : Detail) (s : State) : (s.post k d).nextTicket = s.nextTicket := rfl
@[simp] theorem State.post_nightClock (k : EventKind) (d : Detail) (s : State) : (s.post k d).nightClock = s.nightClock := rfl
@[simp] theorem State.post_zones (k : EventKind) (d : Detail) (s : State) : (s.post k d).zones = s.zones := rfl
@[simp] theorem State.post_permits (k : EventKind) (d : Detail) (s : State) : (s.post k d).permits = s.permits := rfl
@[simp] theorem State.post_used (k : EventKind) (d : Detail) (s : State) : (s.post k d).used = s.used := rfl
@[simp] theorem State.post_totals (k : EventKind) (d : Detail) (s : State) : (s.post k d).totals = s.totals := rfl
@[simp] theorem State.post_entry (k : EventKind) (d : Detail) (s : State) : (s.post k d).entry = s.entry := rfl
@[simp] theorem State.post_exits (k : EventKind) (d : Detail) (s : State) : (s.post k d).exits = s.exits := rfl
@[simp] theorem State.post_shows (k : EventKind) (d : Detail) (s : State) : (s.post k d).shows = s.shows := rfl
@[simp] theorem State.post_cues (k : EventKind) (d : Detail) (s : State) : (s.post k d).cues = s.cues := rfl
@[simp] theorem State.post_intakes (k : EventKind) (d : Detail) (s : State) : (s.post k d).intakes = s.intakes := rfl
@[simp] theorem State.post_aligns (k : EventKind) (d : Detail) (s : State) : (s.post k d).aligns = s.aligns := rfl
@[simp] theorem State.post_calls (k : EventKind) (d : Detail) (s : State) : (s.post k d).calls = s.calls := rfl
@[simp] theorem State.post_dir (k : EventKind) (d : Detail) (s : State) : (s.post k d).dir = s.dir := rfl
@[simp] theorem State.post_reader (k : EventKind) (d : Detail) (s : State) : (s.post k d).reader = s.reader := rfl
@[simp] theorem State.post_links (k : EventKind) (d : Detail) (s : State) : (s.post k d).links = s.links := rfl
@[simp] theorem State.post_orders (k : EventKind) (d : Detail) (s : State) : (s.post k d).orders = s.orders := rfl
@[simp] theorem State.post_lamps (k : EventKind) (d : Detail) (s : State) : (s.post k d).lamps = s.lamps := rfl
@[simp] theorem State.post_blink (k : EventKind) (d : Detail) (s : State) : (s.post k d).blink = s.blink := rfl

/-- A post reaches every port (R180). -/
@[simp] theorem State.post_ports_get (k : EventKind) (d : Detail) (s : State) (p : PortId) :
    (s.post k d).ports[p] = (s.ports[p]).post k d := by
  match p with
  | 0 => rfl
  | 1 => rfl
  | 2 => rfl

end Sys2Proof.Machine
end

