-- ==== Sys2Proof/Laws/Frames.lean ====
section
/-! SUPPORT. What each shared operation can touch, said once. A `clear…` function blanks the fields an operation may change; two states that
agree once blanked agree on every other field, and `congrArg` with the field's name says so. -/

namespace Sys2Proof.Machine

/-! ### The masks -/

/-- The fields of the call and order units with the clip reader, blanked. -/
def State.clearCalls (s : State) : State := { s with calls := .replicate 4 .reset, orders := .reset, reader := .reset }

/-- The fields that the removal of orders can touch, blanked: tickets, orders, calls, ports. -/
def State.clearOrders (s : State) : State :=
  { s with tickets := [], calls := .replicate 4 .reset, orders := .reset, ports := .replicate 3 (.reset false) }

/-- The fields that the removal of a ticket can touch, blanked: those of `clearOrders` with used map, zones and totals. -/
def State.clearTickets (s : State) : State := { s.clearOrders with used := [], zones := .replicate 4 .reset, totals := .zero }

/-- The fields that an entry lane's events can touch, blanked: those of `clearTickets` with the entry lanes. -/
def State.clearLanes (s : State) : State := { s.clearTickets with entry := .replicate 4 (.reset .clear) }

/-- The fields that a change of SOUND_UP can touch beyond its link, blanked: shows, calls, orders, reader, ports. -/
def State.clearSound (s : State) : State := { s.clearCalls with shows := .replicate 4 .reset, ports := .replicate 3 (.reset false) }

/-- The fields that an exciter link's events can touch, blanked: those of `clearSound` with the links. -/
def State.clearLinks (s : State) : State := { s.clearSound with links := .replicate 4 .reset }

/-- The fields that the end of a show and a cue pass can touch, blanked. -/
def State.clearShow (s : State) : State :=
  { s.clearSound with
    tickets := [], zones := .replicate 4 .reset, cues := .replicate 4 .reset, intakes := .replicate 4 .reset, aligns := .replicate 4 .reset }

/-- The fields that an output instant can touch, blanked: aligns, intakes, shows, calls, orders, reader, ports. -/
def State.clearInstant (s : State) : State := { s.clearSound with intakes := .replicate 4 .reset, aligns := .replicate 4 .reset }

/-! A narrower agreement is a wider one. -/

theorem clearSound_of_clearCalls {s t : State} (h : s.clearCalls = t.clearCalls) : s.clearSound = t.clearSound :=
  show s.clearCalls.clearSound = t.clearCalls.clearSound from congrArg State.clearSound h

theorem clearTickets_of_clearOrders {s t : State} (h : s.clearOrders = t.clearOrders) : s.clearTickets = t.clearTickets :=
  show s.clearOrders.clearTickets = t.clearOrders.clearTickets from congrArg State.clearTickets h

theorem clearLanes_of_clearTickets {s t : State} (h : s.clearTickets = t.clearTickets) : s.clearLanes = t.clearLanes :=
  show s.clearTickets.clearLanes = t.clearTickets.clearLanes from congrArg State.clearLanes h

theorem clearLinks_of_clearSound {s t : State} (h : s.clearSound = t.clearSound) : s.clearLinks = t.clearLinks :=
  show s.clearSound.clearLinks = t.clearSound.clearLinks from congrArg State.clearLinks h

theorem clearShow_of_clearSound {s t : State} (h : s.clearSound = t.clearSound) : s.clearShow = t.clearShow :=
  show s.clearSound.clearShow = t.clearSound.clearShow from congrArg State.clearShow h

theorem clearShow_of_clearCalls {s t : State} (h : s.clearCalls = t.clearCalls) : s.clearShow = t.clearShow :=
  show s.clearCalls.clearShow = t.clearCalls.clearShow from congrArg State.clearShow h

theorem clearShow_of_clearOrders {s t : State} (h : s.clearOrders = t.clearOrders) : s.clearShow = t.clearShow :=
  show s.clearOrders.clearShow = t.clearOrders.clearShow from congrArg State.clearShow h

theorem clearInstant_of_clearCalls {s t : State} (h : s.clearCalls = t.clearCalls) : s.clearInstant = t.clearInstant :=
  show s.clearCalls.clearInstant = t.clearCalls.clearInstant from congrArg State.clearInstant h

/-! ### Calls and reads (R131 to R142) -/

theorem enqueueCall_frame (i : ScreenId) (n : Nat) (s : State) : (s.enqueueCall i n).clearCalls = s.clearCalls := by
  unfold State.enqueueCall
  split
  · rfl
  · split <;> rfl

theorem owedFillFor_frame (k : Nat) (i : ScreenId) (s : State) : (State.owedFillFor k i s).clearCalls = s.clearCalls := by
  induction k generalizing s with
  | zero => rfl
  | succ k ih =>
    unfold State.owedFillFor
    split
    · split
      · exact (ih _).trans rfl
      · rfl
    · rfl

theorem owedFill_frame (i : ScreenId) (s : State) : (s.owedFill i).clearCalls = s.clearCalls := owedFillFor_frame 16 i s

theorem withdrawCall_frame (i : ScreenId) (n : Nat) (s : State) : (s.withdrawCall i n).clearCalls = s.clearCalls := rfl

theorem reportPlayed_frame (e : CallEntry) (s : State) : (s.reportPlayed e).clearCalls = s.clearCalls := by
  cases e <;> rfl

theorem takeHead_frame (i : ScreenId) (m : MixSettings) (d : DuckState) (s : State) : (s.takeHead i m d).clearCalls = s.clearCalls := by
  unfold State.takeHead
  split
  · rfl
  · refine (owedFill_frame _ _).trans ?_
    split
    · exact (reportPlayed_frame _ _).trans rfl
    · rfl

theorem startCalls_frame (k : Nat) (i : ScreenId) (s : State) : (State.startCalls k i s).clearCalls = s.clearCalls := by
  induction k generalizing s with
  | zero => rfl
  | succ k ih =>
    unfold State.startCalls
    split
    · exact (ih _).trans (takeHead_frame _ _ _ _)
    · rfl

theorem startScreen_frame (i : ScreenId) (s : State) : (s.startScreen i).clearCalls = s.clearCalls := startCalls_frame _ _ _

theorem followOn_frame (k : Nat) (i : ScreenId) (m : MixSettings) (s : State) : (State.followOn k i m s).clearCalls = s.clearCalls := by
  induction k generalizing s with
  | zero => unfold State.followOn; split <;> rfl
  | succ k ih =>
    unfold State.followOn
    split
    · rfl
    · split
      · exact (ih _).trans (takeHead_frame _ _ _ _)
      · rfl

theorem grant_frame (i : ScreenId) (s : State) : (s.grant i).clearCalls = s.clearCalls := by
  unfold State.grant
  split
  · rfl
  · split <;> rfl

theorem grantRead_frame (s : State) : s.grantRead.clearCalls = s.clearCalls := by
  unfold State.grantRead
  split
  · rfl
  · split
    · exact grant_frame _ _
    · rfl

theorem askRead_frame (i : ScreenId) (s : State) : (s.askRead i).clearCalls = s.clearCalls := rfl

theorem serveReads_frame (s : State) : s.serveReads.clearCalls = s.clearCalls :=
  (grantRead_frame _).trans <| (askRead_frame _ _).trans <| (askRead_frame _ _).trans <| (askRead_frame _ _).trans (askRead_frame _ _)

theorem startAll_frame (s : State) : s.startAll.clearCalls = s.clearCalls :=
  (serveReads_frame _).trans <| (startScreen_frame _ _).trans <| (startScreen_frame _ _).trans <| (startScreen_frame _ _).trans <|
    startScreen_frame _ _

theorem openCalls_frame (i : ScreenId) (s : State) : (s.openCalls i).clearCalls = s.clearCalls := by
  unfold State.openCalls
  split
  · rfl
  · exact (serveReads_frame _).trans <| (startScreen_frame _ _).trans <| (owedFill_frame _ _).trans rfl

theorem markOwed_frame (e : CallEntry) (s : State) : (s.markOwed e).clearCalls = s.clearCalls := by
  cases e <;> rfl

theorem cutCall_frame (i : ScreenId) (s : State) : (s.cutCall i).clearCalls = s.clearCalls := by
  unfold State.cutCall
  split
  · rfl
  · exact (markOwed_frame _ _).trans rfl

theorem flushQueue_frame (i : ScreenId) (s : State) : (s.flushQueue i).clearCalls = s.clearCalls := by
  have h : ∀ (l : List CallEntry) (s : State), (l.foldl (fun s e => s.markOwed e) s).clearCalls = s.clearCalls := by
    intro l
    induction l with
    | nil => intro s; rfl
    | cons e l ih => intro s; exact (ih _).trans (markOwed_frame _ _)
  exact h _ _

theorem endFinished_frame (i : ScreenId) (s : State) : (s.endFinished i).clearCalls = s.clearCalls := by
  unfold State.endFinished
  split
  · split
    · exact (followOn_frame _ _ _ _).trans <| (reportPlayed_frame _ _).trans rfl
    · rfl
  · rfl

theorem mixInstant_frame (i : ScreenId) (p : Pair) (s : State) : (s.mixInstant i p).clearCalls = s.clearCalls :=
  (serveReads_frame _).trans <| (startScreen_frame _ _).trans <| (endFinished_frame _ _).trans rfl

theorem readComplete_frame (bytes : List Byte) (s : State) : (s.readComplete bytes).clearCalls = s.clearCalls := by
  unfold State.readComplete
  split
  · rfl
  · split
    · exact (serveReads_frame _).trans rfl
    · rfl

/-! ### Orders and tickets -/

theorem postCrossings_frame (n : Nat) (s : State) : (s.postCrossings n).clearOrders = s.clearOrders := by
  simp only [State.postCrossings]
  repeat' split
  all_goals rfl

theorem postRemoval_frame (out : OrderOutcome) (n : Nat) (s : State) : (s.postRemoval out n).clearOrders = s.clearOrders := by
  cases out <;> rfl

theorem removeOne_frame (out : OrderOutcome) (s : State) (o : Order) : (s.removeOne out o).clearOrders = s.clearOrders :=
  (postRemoval_frame _ _ _).trans rfl

theorem removeAll_frame (out : OrderOutcome) (os : List Order) (s : State) :
    (os.foldl (State.removeOne out) s).clearOrders = s.clearOrders := by
  induction os generalizing s with
  | nil => rfl
  | cons o os ih => exact (ih _).trans (removeOne_frame _ _ _)

theorem serviceStep_frame (s : State) : s.serviceStep.clearOrders = s.clearOrders := by
  simp only [State.serviceStep]
  split
  · rfl
  · split <;> rfl

theorem serviceSteps_frame (k : Nat) (s : State) : (State.serviceSteps k s).clearOrders = s.clearOrders := by
  induction k generalizing s with
  | zero => rfl
  | succ k ih => exact (ih _).trans (serviceStep_frame _)

theorem owedFillFor_orders (k : Nat) (i : ScreenId) (s : State) : (State.owedFillFor k i s).clearOrders = s.clearOrders := by
  induction k generalizing s with
  | zero => rfl
  | succ k ih =>
    unfold State.owedFillFor
    split
    · split
      · exact (ih _).trans rfl
      · rfl
    · rfl

theorem fillIfShrunk_frame (i : ScreenId) (n : Nat) (s : State) : (s.fillIfShrunk i n).clearOrders = s.clearOrders := by
  unfold State.fillIfShrunk
  split
  · exact owedFillFor_orders _ _ _
  · rfl

theorem removeOrders_frame (out : OrderOutcome) (os : List Order) (s : State) : (s.removeOrders out os).clearOrders = s.clearOrders :=
  (fillIfShrunk_frame _ _ _).trans <| (fillIfShrunk_frame _ _ _).trans <| (fillIfShrunk_frame _ _ _).trans <|
    (fillIfShrunk_frame _ _ _).trans <| (postCrossings_frame _ _).trans <| (serviceSteps_frame _ _).trans (removeAll_frame _ _ _)

theorem kitchenRelease_frame (i : ScreenId) (s : State) : (s.kitchenRelease i).clearOrders = s.clearOrders := by
  have h : ∀ (l : List Order) (s : State), (l.foldl State.releaseOne s).clearOrders = s.clearOrders := by
    intro l
    induction l with
    | nil => intro s; rfl
    | cons o l ih =>
      intro s
      refine (ih _).trans ?_
      unfold State.releaseOne
      split <;> rfl
  unfold State.kitchenRelease
  split
  · rfl
  · exact (postCrossings_frame _ _).trans <| (h _ _).trans rfl

theorem examineShelf_frame (s : State) :
    s.examineShelf.clearOrders = s.clearOrders := by
  have h : ∀ (l : List Nat) (s : State), (l.foldl State.examineOrder s).clearOrders = s.clearOrders := by
    intro l
    induction l with
    | nil => intro s; rfl
    | cons n l ih =>
      intro s
      refine (ih _).trans ?_
      unfold State.examineOrder
      split
      · rfl
      · split
        · rfl
        · split
          · unfold State.enqueueCall
            split
            · rfl
            · split <;> rfl
          · exact removeOrders_frame _ _ _
  exact h _ _

theorem dropTicket_frame (t : Ticket) (s : State) : (s.dropTicket t).clearTickets = s.clearTickets := by
  unfold State.dropTicket
  split <;> rfl

theorem void_frame (n : Nat) (s : State) : (s.void n).clearTickets = s.clearTickets := by
  unfold State.void
  split
  · rfl
  · exact (dropTicket_frame _ _).trans (clearTickets_of_clearOrders (removeOrders_frame _ _ _))

theorem departTicket_frame (t : Ticket) (c : VehicleClass) (s : State) : (s.departTicket t c).clearTickets = s.clearTickets :=
  (dropTicket_frame _ _).trans (clearTickets_of_clearOrders (removeOrders_frame _ _ _))

theorem commit_frame (n : Nat) (c : VehicleClass) (s : State) : (s.commit n c).clearTickets = s.clearTickets := by
  unfold State.commit
  split <;> rfl

/-! ### Lanes -/

theorem modEntry_frame (n : LaneId) (f : EntryLane → EntryLane) (s : State) : (s.modEntry n f).clearLanes = s.clearLanes := rfl

theorem postLane_frame (k : EventKind) (d : Detail) (s : State) : (s.post k d).clearLanes = s.clearLanes := rfl

theorem commitAdmission_frame (n : LaneId) (c : VehicleClass) (s : State) : (s.commitAdmission n c).clearLanes = s.clearLanes := by
  unfold State.commitAdmission
  split
  · rfl
  · exact (modEntry_frame n _ _).trans (clearLanes_of_clearTickets (commit_frame _ c s))

theorem entryRise_frame (n : LaneId) (s : State) : (s.entryRise n).clearLanes = s.clearLanes := by
  simp only [State.entryRise]
  split
  · rfl
  · split
    · rfl
    · split <;> rfl
    · rfl
    · rfl
    · rfl
    · rfl

theorem longCommit_frame (n : LaneId) (s : State) : (s.longCommit n).clearLanes = s.clearLanes := rfl

theorem endPassage_frame (n : LaneId) (s : State) : (s.endPassage n).clearLanes = s.clearLanes := by
  simp only [State.endPassage]
  split
  · exact (longCommit_frame n _).trans <| (modEntry_frame n _ _).trans (commitAdmission_frame n _ s)
  · exact (modEntry_frame n _ _).trans (commitAdmission_frame n _ s)

theorem entryFall_frame (n : LaneId) (us : Nat) (s : State) : (s.entryFall n us).clearLanes = s.clearLanes := by
  simp only [State.entryFall]
  split
  · rfl
  · split
    · split
      · exact (endPassage_frame _ _).trans (modEntry_frame n _ s)
      · rfl
    · rfl
    · rfl
    · rfl
    · rfl
    · rfl

theorem passWindowExpiry_frame (n : LaneId) (s : State) : (s.passWindowExpiry n).clearLanes = s.clearLanes := by
  simp only [State.passWindowExpiry]
  split
  · split
    · exact (postLane_frame _ _ _).trans <| (modEntry_frame n _ _).trans (clearLanes_of_clearTickets (void_frame _ s))
    · rfl
  · rfl

theorem entryStuckExpiry_frame (n : LaneId) (s : State) : (s.entryStuckExpiry n).clearLanes = s.clearLanes := by
  simp only [State.entryStuckExpiry]
  split
  · split
    · exact (commitAdmission_frame n _ s)
    · rfl
  · rfl

theorem resetEntry_frame (n : LaneId) (s : State) : (s.resetEntry n).clearLanes = s.clearLanes := by
  simp only [State.resetEntry]
  split
  · exact (modEntry_frame n _ _).trans (clearLanes_of_clearTickets (void_frame _ s))
  · exact commitAdmission_frame n _ s
  · rfl

/-! ### Shows and cues -/

theorem soundLossHold_frame (i : ScreenId) (s : State) : (s.soundLossHold i).clearSound = s.clearSound := by
  unfold State.soundLossHold
  split <;> rfl

theorem endShow_frame (i : ScreenId) (s : State) : (s.endShow i).clearShow = s.clearShow :=
  (clearShow_of_clearOrders (removeOrders_frame _ _ _)).trans rfl

theorem resumeShow_frame (i : ScreenId) (s : State) : (s.resumeShow i).clearShow = s.clearShow := by
  simp only [State.resumeShow]
  split <;> rfl

theorem stallExpiry_frame (i : ScreenId) (s : State) : (s.stallExpiry i).clearShow = s.clearShow := by
  simp only [State.stallExpiry]
  split
  · rfl
  · split <;> rfl

theorem runTest_frame (i : ScreenId) (src : TestSource) (m : TestMode) (f : FlagName) (s : State) :
    (s.runTest i src m f).clearShow = s.clearShow := by
  cases f <;> rfl

theorem runAction_frame (i : ScreenId) (a : CueAction) (s : State) : (s.runAction i a).clearShow = s.clearShow := by
  cases a with
  | test src m f => exact runTest_frame _ _ _ _ _
  | hold => unfold State.runAction; dsimp only; split <;> rfl
  | endShow =>
    unfold State.runAction
    dsimp only
    split
    · exact endShow_frame _ _
    · rfl
  | entryOpen => rfl
  | entryClose => rfl
  | ordersOpen => rfl
  | ordersClose => rfl
  | kitchenRelease => exact clearShow_of_clearOrders (kitchenRelease_frame _ _)
  | callsOpen => exact clearShow_of_clearCalls (openCalls_frame _ _)
  | callsClose => rfl
  | mark code => rfl
  | lamp k on => rfl

theorem passOver_frame (n : Nat) (i : ScreenId) (p : Pos) (s : State) : (State.passOver n i p s).clearShow = s.clearShow := by
  induction n generalizing s with
  | zero => rfl
  | succ n ih =>
    unfold State.passOver
    split
    · split
      · exact (ih _).trans rfl
      · rfl
    · rfl

theorem passFor_frame (n : Nat) (i : ScreenId) (p : Pos) (s : State) : (State.passFor n i p s).clearShow = s.clearShow := by
  induction n generalizing s with
  | zero => rfl
  | succ n ih =>
    unfold State.passFor
    dsimp only
    split
    · rfl
    · split
      · split
        · split
          · exact (passOver_frame _ _ _ _).trans <| (runAction_frame i _ _).trans rfl
          · exact (ih _).trans <| (runAction_frame i _ _).trans rfl
        · exact (ih _).trans rfl
      · rfl

theorem advanceClock_frame (i : ScreenId) (s : State) : (s.advanceClock i).clearShow = s.clearShow := by
  unfold State.advanceClock
  split
  · unfold State.clockLimit
    split <;> rfl
  · exact (passFor_frame _ _ _ _).trans rfl

theorem acceptedPulse_frame (i : ScreenId) (s : State) : (s.acceptedPulse i).clearShow = s.clearShow := by
  simp only [State.acceptedPulse]
  split
  · rfl
  · rfl
  · split
    · exact (passFor_frame _ _ _ _).trans rfl
    · rfl
  · exact (advanceClock_frame _ _).trans rfl
  · refine (advanceClock_frame _ _).trans ?_
    split <;> rfl
  · exact (advanceClock_frame _ _).trans rfl

theorem framePulse_frame (i : ScreenId) (us : Nat) (s : State) : (s.framePulse i us).clearShow = s.clearShow := by
  simp only [State.framePulse]
  split
  · rfl
  · exact (acceptedPulse_frame _ _).trans rfl

/-! ### The exciter links -/

@[simp] theorem hear_settings (h : List LineInput) (k : Link) : (k.hear h).settings = k.settings := rfl
@[simp] theorem hear_state (h : List LineInput) (k : Link) : (k.hear h).state = k.state := rfl
@[simp] theorem hear_latest (h : List LineInput) (k : Link) : (k.hear h).latest = k.latest := rfl
@[simp] theorem hear_last (h : List LineInput) (k : Link) : (k.hear h).last = k.last := rfl
@[simp] theorem hear_soundUp (h : List LineInput) (k : Link) : (k.hear h).soundUp = k.soundUp := rfl
@[simp] theorem hear_unanswered (h : List LineInput) (k : Link) : (k.hear h).unanswered = k.unanswered := rfl
@[simp] theorem hear_leaving (h : List LineInput) (k : Link) : (k.hear h).leaving = k.leaving := rfl
@[simp] theorem hear_waiting (h : List LineInput) (k : Link) : (k.hear h).waiting = k.waiting := rfl
@[simp] theorem hear_counts (h : List LineInput) (k : Link) : (k.hear h).counts = k.counts := rfl
@[simp] theorem hear_collector (h : List LineInput) (k : Link) : (k.hear h).collector = k.collector.hear h := rfl

/-- A message made by the part leaves at once on a free line, and else waits behind the others; nothing else of the link changes. -/
theorem emit_cases (m : LineMessage) (k : Link) :
    (k.leaving = none ∧ k.receiving = false ∧ k.waiting = [] ∧ k.emit m = { k with leaving := some m }) ∨
      ((k.leaving ≠ none ∨ k.receiving = true ∨ k.waiting ≠ []) ∧ k.emit m = { k with waiting := k.waiting ++ [m] }) := by
  simp only [Link.emit]
  split <;> rename_i h <;> simp at h
  · exact .inl ⟨h.1, h.2.1, h.2.2, rfl⟩
  · by_cases hl : k.leaving = none
    · by_cases hr : k.receiving = true
      · exact .inr ⟨.inr (.inl hr), rfl⟩
      · exact .inr ⟨.inr (.inr (h hl (by simpa using hr))), rfl⟩
    · exact .inr ⟨.inl hl, rfl⟩

/-- A release lets the first waiting message leave on a free line, and else changes nothing. -/
theorem release_cases (k : Link) :
    (k.release = k ∧ (k.leaving ≠ none ∨ k.receiving = true ∨ k.waiting = [])) ∨
      ∃ m rest, k.leaving = none ∧ k.receiving = false ∧ k.waiting = m :: rest ∧
        k.release = { k with leaving := some m, waiting := rest } := by
  simp only [Link.release]
  split <;> rename_i h
  · exact .inl ⟨rfl, h.imp Option.isSome_iff_ne_none.1 .inl⟩
  · simp at h
    split <;> rename_i hw
    · exact .inl ⟨rfl, .inr (.inr hw)⟩
    · exact .inr ⟨_, _, h.1, h.2, hw, rfl⟩

theorem modLink_frame (i : ScreenId) (f : Link → Link) (s : State) : (s.modLink i f).clearLinks = s.clearLinks := rfl

theorem postLink_frame (k : EventKind) (d : Detail) (s : State) : (s.post k d).clearLinks = s.clearLinks := rfl

theorem deriveSound_frame (i : ScreenId) (s : State) : (s.deriveSound i).clearLinks = s.clearLinks := by
  simp only [State.deriveSound]
  split
  · exact (clearLinks_of_clearSound ((clearSound_of_clearCalls ((serveReads_frame _).trans (cutCall_frame _ _))).trans
      (soundLossHold_frame i _))).trans (modLink_frame i _ s)
  · split
    · exact (clearLinks_of_clearSound (clearSound_of_clearCalls ((serveReads_frame _).trans <| (startScreen_frame _ _).trans
        (owedFill_frame i _)))).trans (modLink_frame i _ s)
    · rfl

theorem loseLink_frame (i : ScreenId) (s : State) : (s.loseLink i).clearLinks = s.clearLinks :=
  (deriveSound_frame _ _).trans <| (postLink_frame _ _ _).trans (modLink_frame i _ s)

theorem cycle_frame (i : ScreenId) (s : State) : (s.cycle i).clearLinks = s.clearLinks := by
  simp only [State.cycle]
  split
  · exact loseLink_frame i s
  · rfl

theorem firstCycle_frame (e : ResetEnd) (i : ScreenId) (s : State) : (s.firstCycle e i).clearLinks = s.clearLinks :=
  (cycle_frame i _).trans (modLink_frame i _ s)

/-- The end of device reset, said once: the links' first cycles over the part with its straps read and its timebase started. -/
theorem endReset_frame (e : ResetEnd) (s : State) : (s.endReset e).clearLinks =
    State.clearLinks (((({ s with inReset := false, blink := some 0 } : State).modPort 0 (·.strap e.straps[0])).modPort 1
      (·.strap e.straps[1])).modPort 2 (·.strap e.straps[2])) :=
  (firstCycle_frame e 3 _).trans <| (firstCycle_frame e 2 _).trans <| (firstCycle_frame e 1 _).trans (firstCycle_frame e 0 _)

theorem ackExpiry_frame (i : ScreenId) (s : State) : (s.ackExpiry i).clearLinks = s.clearLinks := by
  simp only [State.ackExpiry]
  split
  · rfl
  · split
    · split
      · rfl
      · exact (loseLink_frame _ _).trans rfl
    · rfl

theorem postStatusChange_frame (i : ScreenId) (old new : Option ExciterStatus) (was now : Bool) (s : State) :
    (s.postStatusChange i old new was now).clearLinks = s.clearLinks := by
  unfold State.postStatusChange
  split
  · rfl
  · split <;> rfl

theorem takeStatus_frame (i : ScreenId) (t : ExciterStatus) (s : State) : (s.takeStatus i t).clearLinks = s.clearLinks := by
  simp only [State.takeStatus]
  split
  · exact (deriveSound_frame _ _).trans <| (postStatusChange_frame _ _ _ _ _ _).trans (modLink_frame i _ s)
  · rfl

theorem validAck_frame (i : ScreenId) (n : Byte) (t : ExciterStatus) (s : State) : (s.validAck i n t).clearLinks = s.clearLinks := by
  simp only [State.validAck]
  split
  · exact (takeStatus_frame _ _ _).trans (modLink_frame i _ s)
  · exact (deriveSound_frame _ _).trans <| (modLink_frame i _ _).trans (modLink_frame i _ s)
  · exact (deriveSound_frame _ _).trans <| (postLink_frame _ _ _).trans <| (modLink_frame i _ _).trans (modLink_frame i _ s)

theorem takeAck_frame (i : ScreenId) (n : Byte) (t : ExciterStatus) (s : State) : (s.takeAck i n t).clearLinks = s.clearLinks := by
  simp only [State.takeAck]
  split
  · exact validAck_frame _ _ _ _
  · rfl

theorem takeStatusMessage_frame (i : ScreenId) (n : Byte) (t : ExciterStatus) (s : State) :
    (s.takeStatusMessage i n t).clearLinks = s.clearLinks := (takeStatus_frame _ _ _).trans (modLink_frame i _ s)

/-! ### Output instants -/

theorem alignInstant_frame (i : ScreenId) (s : State) : (s.alignInstant i).clearInstant = s.clearInstant := by
  simp only [State.alignInstant]
  split <;> rfl

theorem outputInstant_frame (i : ScreenId) (us : Nat) (s : State) : (s.outputInstant i us).clearInstant = s.clearInstant :=
  (clearInstant_of_clearCalls (mixInstant_frame _ _ _)).trans <| (alignInstant_frame _ _).trans rfl

end Sys2Proof.Machine
end

