-- ==== Sys2Proof/Laws/Ports.lean ====
section
/-! SUPPORT. What `serve` does with a request, said once: it is not there, it waits, or it is taken and refused by the port or handled. -/

namespace Sys2Proof.Machine

/-- Taking a request that stands at the port leaves `afterTake` (R191). -/
theorem offer_of_takes {q : Port} {r : Request} (h : q.takes r = true) : q.offer false r = .taken q.afterTake := by
  unfold Port.takes at h
  unfold Port.offer
  rw [if_neg (by decide)]
  cases hh : q.held with
  | some x =>
    simp only [hh, Bool.and_eq_true, beq_iff_eq] at h
    simp [h.1, h.2, Port.take, Port.count, Port.afterTake, hh]
  | none =>
    simp only [hh, Bool.and_eq_true, decide_eq_true_eq] at h
    simp only [h.2.1, h.2.2, true_and, if_true]
    have hc : ({ q with gapTimer := some 5, lastBreak := false } : Port).canTake = true := h.1
    simp [h.1, Port.take, Port.count, Port.afterTake, hh]

theorem offer_accepts {p : PortId} {r : Request} {may : List Role} {s : State} (h : s.accepts p r may = true) :
    (s.ports[p]).offer s.startup r = .taken (s.ports[p]).afterTake := by
  simp only [State.accepts, Bool.and_eq_true, Bool.not_eq_true'] at h
  rw [h.1.1]
  exact offer_of_takes h.1.2

/-- `serve` over a request taken by a port whose role may send it, its length agreeing: the owning block's handling and its reply. -/
theorem serve_handled {p : PortId} {code tag : Byte} {payload : List Byte} {may : Role → Bool} {lengthOk : List Byte → Bool}
    {body : List Byte → State → State × Reply} {roles : List Role} {s : State}
    (h : s.accepts p ⟨code, tag, payload⟩ roles = true) (hr : ∀ r, roles.contains r = true → may r = true)
    (hl : lengthOk payload = true) :
    serve p code tag payload may lengthOk body s =
      .next ((body payload (s.taken p)).1.answer p code tag (body payload (s.taken p)).2) := by
  have ho := offer_accepts h
  have hrole : may (s.ports[p]).afterTake.role = true := hr _ (by
    simp only [State.accepts, Bool.and_eq_true] at h
    exact h.2)
  unfold serve
  rw [ho]
  dsimp only
  rw [if_neg (by rw [hrole]; decide), if_neg (by rw [hl]; decide)]
  rfl

/-- `serve` over a taken request that the role may not send (R192). -/
theorem serve_notPermitted {p : PortId} {code tag : Byte} {payload : List Byte} {may : Role → Bool} {lengthOk : List Byte → Bool}
    {body : List Byte → State → State × Reply} {s : State} (hs : s.startup = false)
    (h : (s.ports[p]).takes ⟨code, tag, payload⟩ = true) (hr : may (s.ports[p]).role = false) :
    serve p code tag payload may lengthOk body s = .next ((s.taken p).refuseAtPort p code tag .notPermitted) := by
  have hrole : may (s.ports[p]).afterTake.role = false := hr
  unfold serve
  rw [hs, offer_of_takes h]
  dsimp only
  rw [if_pos (by rw [hrole]; decide)]
  rfl

/-- `serve` over a taken request whose length does not agree (R192). -/
theorem serve_badLength {p : PortId} {code tag : Byte} {payload : List Byte} {may : Role → Bool} {lengthOk : List Byte → Bool}
    {body : List Byte → State → State × Reply} {s : State} (hs : s.startup = false)
    (h : (s.ports[p]).takes ⟨code, tag, payload⟩ = true) (hr : may (s.ports[p]).role = true) (hl : lengthOk payload = false) :
    serve p code tag payload may lengthOk body s = .next ((s.taken p).refuseAtPort p code tag .badLength) := by
  have hrole : may (s.ports[p]).afterTake.role = true := hr
  unfold serve
  rw [hs, offer_of_takes h]
  dsimp only
  rw [if_neg (by rw [hrole]; decide), if_pos (by rw [hl]; decide)]
  rfl

/-- `serve` over a request that the port holds and cannot take: nothing changes (R191). -/
theorem serve_waits {p : PortId} {code tag : Byte} {payload : List Byte} {may : Role → Bool} {lengthOk : List Byte → Bool}
    {body : List Byte → State → State × Reply} {s : State} {r : Request}
    (hh : (s.ports[p]).held = some r) (hc : (s.ports[p]).canTake = false) :
    serve p code tag payload may lengthOk body s = .next s := by
  have ho : ∀ b x, (s.ports[p]).offer b x = .absent := by
    intro b x
    generalize s.ports[p] = q at hh hc
    unfold Port.offer
    rw [hh]
    simp [hc]
  unfold serve
  rw [ho]

/-- `serve` in the start-up hold: nothing is taken (R190). -/
theorem serve_startup {p : PortId} {code tag : Byte} {payload : List Byte} {may : Role → Bool} {lengthOk : List Byte → Bool}
    {body : List Byte → State → State × Reply} {s : State} (hs : s.startup = true) :
    serve p code tag payload may lengthOk body s = .next s := by
  unfold serve Port.offer
  rw [hs]
  rfl

/-- `serve` always answers a next state: the state as it was, the request waiting, or a taken request answered. -/
theorem serve_cases (p : PortId) (code tag : Byte) (payload : List Byte) (may : Role → Bool) (lengthOk : List Byte → Bool)
    (body : List Byte → State → State × Reply) (s : State) :
    serve p code tag payload may lengthOk body s = .next s ∨
    (∃ q, serve p code tag payload may lengthOk body s = .next (s.modPort p fun _ => q)) ∨
    (∃ q st, serve p code tag payload may lengthOk body s = .next ((s.modPort p fun _ => q).refuseAtPort p code tag st)) ∨
    ∃ q, serve p code tag payload may lengthOk body s =
      .next ((body payload (s.modPort p fun _ => q)).1.answer p code tag (body payload (s.modPort p fun _ => q)).2) := by
  unfold serve
  split
  · exact .inl rfl
  · exact .inr (.inl ⟨_, rfl⟩)
  · split
    · exact .inr (.inr (.inl ⟨_, _, rfl⟩))
    · split
      · exact .inr (.inr (.inl ⟨_, _, rfl⟩))
      · exact .inr (.inr (.inr ⟨_, rfl⟩))

/-- A handling over arguments that are all in range. -/
theorem ranged_some {α : Type} {args : List Byte → Option α} {body : α → State → State × Reply} {payload : List Byte} {a : α}
    (h : args payload = some a) (s : State) : ranged args body payload s = body a s := by
  unfold ranged
  rw [h]

/-- A handling over a field out of its range: RANGE, nothing changed. -/
theorem ranged_none {α : Type} {args : List Byte → Option α} {body : α → State → State × Reply} {payload : List Byte}
    (h : args payload = none) (s : State) : ranged args body payload s = (s, .refuse .range) := by
  unfold ranged
  rw [h]

/-- `serve` over a taken request whose fields are all in range. -/
theorem serve_ranged {α : Type} {args : List Byte → Option α} {body : α → State → State × Reply} {a : α}
    {p : PortId} {code tag : Byte} {payload : List Byte} {may : Role → Bool} {lengthOk : List Byte → Bool} {roles : List Role} {s : State}
    (h : s.accepts p ⟨code, tag, payload⟩ roles = true) (hr : ∀ r, roles.contains r = true → may r = true)
    (hl : lengthOk payload = true) (ha : args payload = some a) :
    serve p code tag payload may lengthOk (ranged args body) s =
      .next ((body a (s.taken p)).1.answer p code tag (body a (s.taken p)).2) := by
  rw [serve_handled h hr hl, ranged_some ha]

/-- `serve` over a taken request with a field out of its range: RANGE. -/
theorem serve_range {α : Type} {args : List Byte → Option α} {body : α → State → State × Reply}
    {p : PortId} {code tag : Byte} {payload : List Byte} {may : Role → Bool} {lengthOk : List Byte → Bool} {roles : List Role} {s : State}
    (h : s.accepts p ⟨code, tag, payload⟩ roles = true) (hr : ∀ r, roles.contains r = true → may r = true)
    (hl : lengthOk payload = true) (ha : args payload = none) :
    serve p code tag payload may lengthOk (ranged args body) s = .next ((s.taken p).refusedWith p code tag .range) := by
  rw [serve_handled h hr hl, ranged_none ha]
  rfl

/-! ### Roles -/

theorem rolesAll_of_contains (r : Role) (_ : [Role.booth, .gate, .kitchen, .service].contains r = true) : rolesAll r = true := by cases r <;> rfl
theorem rolesB_of_contains (r : Role) (h : [Role.booth, .service].contains r = true) : rolesB r = true := by cases r <;> first | rfl | exact absurd h (by decide)
theorem rolesG_of_contains (r : Role) (h : [Role.gate, .service].contains r = true) : rolesG r = true := by cases r <;> first | rfl | exact absurd h (by decide)
theorem rolesK_of_contains (r : Role) (h : [Role.kitchen, .service].contains r = true) : rolesK r = true := by cases r <;> first | rfl | exact absurd h (by decide)
theorem rolesBK_of_contains (r : Role) (h : [Role.booth, .kitchen, .service].contains r = true) : rolesBK r = true := by
  cases r <;> first | rfl | exact absurd h (by decide)
theorem rolesGK_of_contains (r : Role) (h : [Role.gate, .kitchen, .service].contains r = true) : rolesGK r = true := by
  cases r <;> first | rfl | exact absurd h (by decide)

/-! ### Bytes -/

@[simp] theorem u16_word (n : Nat) (h : n < 65536) : word16 (BitVec.ofNat 8 (n / 256)) (BitVec.ofNat 8 n) = n := by
  simp only [word16, BitVec.toNat_ofNat]
  omega

theorem index_u8 {n : Nat} (i : Fin n) (h : n ≤ 256) : index? n (BitVec.ofNat 8 i.val) = some i := by
  have hi : i.val % 256 = i.val := Nat.mod_eq_of_lt (by omega)
  simp [index?, hi]

theorem ofNat8_toNat {n : Nat} (h : n < 256) : (BitVec.ofNat 8 n).toNat = n := by
  rw [BitVec.toNat_ofNat]
  exact Nat.mod_eq_of_lt h

theorem within_self {lo hi v : Nat} (h : lo ≤ v ∧ v ≤ hi) : within lo hi v = some v := by simp [within, h]

/-- The check register over a list is the plain fold of its bytes (R195). -/
theorem crcFrom_eq_foldl (r : BitVec 16) (bytes : List Byte) : crcFrom r bytes = bytes.foldl crcByte r := by
  induction bytes generalizing r with
  | nil => rfl
  | cons b bs ih =>
    rw [crcFrom]
    split
    · next h => rw [ih, BitVec.eq_of_toNat_eq (x := r) (y := 0#16) (by simp [h])]; rfl
    · next n h =>
      have hr : BitVec.ofNat 16 (n + 1) = r := by
        show BitVec.ofNat 16 n.succ = r
        rw [← h]
        simp
      rw [ih, hr]
      rfl

/-- A check computed over bytes agrees with itself. -/
theorem checkAgrees_self (bytes : List Byte) (hi lo : Byte) (h : checkBytes bytes = [hi, lo]) : checkAgrees bytes hi lo = true := by
  simp [checkAgrees, h]

end Sys2Proof.Machine
end

