-- ==== Sys2Proof/Laws/Operands.lean ====
section
/-! SUPPORT. The payload of each request with every field in its range, and the arguments that are read from it. -/

namespace Sys2Proof.Machine

theorem index_byte {n : Nat} (i : Fin n) (h : n ≤ 256) : index? n (BitVec.ofNat 8 i.val) = some i := index_u8 i h

theorem within_byte {lo hi v : Nat} (h : lo ≤ v ∧ v ≤ hi) (hb : hi ≤ 255) : within lo hi (BitVec.ofNat 8 v).toNat = some v := by
  rw [ofNat8_toNat (by omega)]
  exact within_self h

theorem within_word {lo hi v : Nat} (h : lo ≤ v ∧ v ≤ hi) (hb : hi ≤ 65535) :
    within lo hi (word16 (BitVec.ofNat 8 (v / 256)) (BitVec.ofNat 8 v)) = some v := by
  rw [u16_word v (by omega)]
  exact within_self h

theorem withinInt_self {lo hi v : Int} (h : lo ≤ v ∧ v ≤ hi) : withinInt lo hi v = some v := by simp [withinInt, h]

/-- A named value read from its place in the list of its names. -/
theorem named_idxOf {α : Type} [DecidableEq α] {names : List α} {x : α} (h : x ∈ names) (hn : names.length ≤ 256) :
    named names (BitVec.ofNat 8 (names.idxOf x)) = some x := by
  have hi : names.idxOf x < names.length := List.idxOf_lt_length_of_mem h
  unfold named
  rw [ofNat8_toNat (by omega), List.getElem?_eq_getElem hi]
  simp

theorem indexArg_u8 {n : Nat} (i : Fin n) (h : n ≤ 256) : indexArg n (u8 i.val) = some i := index_byte i h

theorem ticketArg_u16 {k : Nat} (h : 1 ≤ k ∧ k ≤ 65535) : ticketArg (u16 k) = some k := within_word h (by omega)

theorem orderArg_u16 {k : Nat} (h : 1 ≤ k ∧ k ≤ 999) : orderArg (u16 k) = some k := within_word h (by omega)

theorem passArg_u16 {k : Nat} (h : k ≤ 4095) : passArg (u16 k) = some k := within_word ⟨Nat.zero_le _, h⟩ (by omega)

theorem admitArgs_payload (lane : LaneId) (screen : ScreenId) {payment : Payment} {party : Nat} (hp : payment.inRange)
    (h : 1 ≤ party ∧ party ≤ 15) :
    admitArgs (u8 lane.val ++ u8 screen.val ++ payment.byte ++ u8 party ++ payment.passBytes) = some { lane, screen, payment, party } := by
  have hw := within_byte h (by omega)
  have hl := index_byte lane (by omega)
  have hs := index_byte screen (by omega)
  cases payment with
  | paid =>
    simp only [admitArgs, u8, Payment.byte, Payment.passBytes, List.cons_append, List.nil_append, hl, hs, hw]
    rfl
  | comp =>
    simp only [admitArgs, u8, Payment.byte, Payment.passBytes, List.cons_append, List.nil_append, hl, hs, hw]
    rfl
  | pass n =>
    have hn : passArg (u16 n) = some n := passArg_u16 hp
    unfold u16 at hn
    have hpay : paymentArg (BitVec.ofNat 8 1) [BitVec.ofNat 8 (n / 256), BitVec.ofNat 8 n] = some (.pass n) := by
      show (passArg _).map Payment.pass = _
      rw [hn]
      rfl
    simp only [admitArgs, u8, u16, Payment.byte, Payment.passBytes, List.cons_append, List.nil_append, hl, hs, hw, hpay]
    rfl

theorem admitLength_payload (lane : LaneId) (screen : ScreenId) (payment : Payment) (party : Nat) :
    admitLength (u8 lane.val ++ u8 screen.val ++ payment.byte ++ u8 party ++ payment.passBytes) = true := by
  cases payment <;> simp [admitLength, u8, u16, Payment.byte, Payment.passBytes]

theorem passSetArgs_payload {first last : Nat} (set : Bool) (h : first ≤ last ∧ last ≤ 4095) :
    passSetArgs (u16 first ++ u16 last ++ u8 (if set then 0 else 1)) = some (first, last, set) := by
  have h1 := within_word (lo := 0) (hi := 4095) (v := first) (by omega) (by omega)
  have h2 := within_word h (by omega)
  cases set <;> simp [passSetArgs, u16, u8, h1, h2, named, setClear]

theorem setZoneArgs_payload (i : ScreenId) {capacity : Nat} (h : capacity ≤ 2048) :
    setZoneArgs (u8 i.val ++ u16 capacity) = some (i, capacity) := by
  have h1 := index_byte i (by omega)
  have h2 := within_word (lo := 0) (hi := 2048) (v := capacity) (by omega) (by omega)
  simp [setZoneArgs, u8, u16, h1, h2]

/-- The two bytes of a lane: kind, then number (R197). -/
def LaneName.bytes : LaneName → List Byte
  | .entry n => u8 0 ++ u8 n.val
  | .exit n => u8 1 ++ u8 n.val

theorem laneArg_bytes (a : LaneName) : laneArg a.bytes = some a := by
  cases a with
  | entry n => simp [laneArg, LaneName.bytes, u8, laneName?, index_byte n (by omega)]
  | exit n => simp [laneArg, LaneName.bytes, u8, laneName?, index_byte n (by omega)]

theorem setLaneArgs_payload (a : LaneName) {t : LaneSettings} (hp : 5 ≤ t.passWindow ∧ t.passWindow ≤ 255)
    (hg : 200 ≤ t.gapWindow ∧ t.gapWindow ≤ 5000) (hl : 500 ≤ t.longThreshold ∧ t.longThreshold ≤ 20000)
    (hs : 10 ≤ t.stuckLimit ∧ t.stuckLimit ≤ 600) :
    setLaneArgs (a.bytes ++ u16 t.passWindow ++ u16 t.gapWindow ++ u16 t.longThreshold ++ u16 t.stuckLimit) = some (a, t) := by
  have h1 := within_word hp (by omega)
  have h2 := within_word hg (by omega)
  have h3 := within_word hl (by omega)
  have h4 := within_word hs (by omega)
  cases a with
  | entry n => simp [setLaneArgs, LaneName.bytes, u8, u16, laneName?, index_byte n (by omega), h1, h2, h3, h4]
  | exit n => simp [setLaneArgs, LaneName.bytes, u8, u16, laneName?, index_byte n (by omega), h1, h2, h3, h4]

/-- Trim read back from its two bytes. -/
theorem signed16_i16 {z : Int} (h : -32768 ≤ z ∧ z ≤ 32767) :
    signed16 (BitVec.ofNat 8 ((z % 65536).toNat / 256)) (BitVec.ofNat 8 (z % 65536).toNat) = z := by
  have hw := u16_word (z % 65536).toNat (by omega)
  unfold signed16
  rw [hw]
  split <;> omega

theorem setScreenArgs_payload (i : ScreenId) {t : ScreenSettings} (fps : Nat)
    (hr : (fps = 24 ∧ t.rate = .fps24) ∨ (fps = 25 ∧ t.rate = .fps25) ∨ (fps = 30 ∧ t.rate = .fps30))
    (hp : t.picture ≤ 2000) (he : t.exciter ≤ 2000) (ht : -500 ≤ t.trim ∧ t.trim ≤ 500) :
    setScreenArgs (u8 i.val ++ u8 fps ++ u16 t.picture ++ u16 t.exciter ++ i16 t.trim ++ u8 (if t.holdOnLoss then 1 else 0)) = some (i, t) := by
  have h1 := index_byte i (by omega)
  have h2 := within_word (lo := 0) (hi := 2000) (v := t.picture) (by omega) (by omega)
  have h3 := within_word (lo := 0) (hi := 2000) (v := t.exciter) (by omega) (by omega)
  have h4 := withinInt_self ht
  have h5 := signed16_i16 (z := t.trim) (by omega)
  obtain ⟨rate, picture, exciter, trim, holdOnLoss⟩ := t
  dsimp only at *
  rcases hr with ⟨rfl, rfl⟩ | ⟨rfl, rfl⟩ | ⟨rfl, rfl⟩ <;> cases holdOnLoss <;>
    simp [setScreenArgs, u8, u16, i16, h1, h2, h3, h4, h5, rate?, named, offOn]

theorem deleteCueArgs_payload (i : ScreenId) {id : Nat} (h : 1 ≤ id ∧ id ≤ 255) : deleteCueArgs (u8 i.val ++ u8 id) = some (i, id) := by
  simp only [deleteCueArgs, u8, List.cons_append, List.nil_append, index_byte i (by omega), within_byte h (by omega)]
  rfl

theorem cueQueryArgs_payload (i : ScreenId) {first : Nat} (h : first ≤ 63) : cueQueryArgs (u8 i.val ++ u8 first) = some (i, first) := by
  have h1 := within_byte (lo := 0) (hi := 63) (v := first) (by omega) (by omega)
  simp only [cueQueryArgs, u8, List.cons_append, List.nil_append, index_byte i (by omega), h1]
  rfl

theorem setSoundArgs_payload (i : ScreenId) {t : SoundSettings} (hh : 2 ≤ t.high ∧ t.high ≤ 32) (hl : t.low + 2 ≤ t.high)
    (ht : 10 ≤ t.holdTime ∧ t.holdTime ≤ 1000) :
    setSoundArgs (u8 i.val ++ u8 t.high ++ u8 t.low ++ u16 t.holdTime) = some (i, t) := by
  have h1 := within_byte hh (by omega)
  have h2 := within_byte (lo := 0) (hi := t.high - 2) (v := t.low) (by omega) (by omega)
  have h3 := within_word ht (by omega)
  have h0 := index_byte i (by omega)
  simp only [setSoundArgs, u8, u16, List.cons_append, List.nil_append, h0, h1, Option.bind_eq_bind, Option.bind_some, h2, h3]

theorem setCallsArgs_payload (i : ScreenId) {m : MixSettings} (hd : m.duck ≤ 256) (hl : m.level ≤ 256) :
    setCallsArgs (u8 i.val ++ u16 m.duck ++ u16 m.level) = some (i, m) := by
  have h1 := within_word (lo := 0) (hi := 256) (v := m.duck) (by omega) (by omega)
  have h2 := within_word (lo := 0) (hi := 256) (v := m.level) (by omega) (by omega)
  simp [setCallsArgs, u8, u16, index_byte i (by omega), h1, h2]

theorem setExciterArgs_payload (i : ScreenId) {t : ExciterSettings} (h : t.deviation ≤ 100) :
    setExciterArgs (u8 i.val ++ u8 (if t.mute then 1 else 0) ++ u8 (if t.mono then 1 else 0) ++ u8 t.deviation) = some (i, t) := by
  have h1 := within_byte (lo := 0) (hi := 100) (v := t.deviation) (by omega) (by omega)
  obtain ⟨mute, mono, deviation⟩ := t
  dsimp only at *
  have h0 := index_byte i (by omega)
  cases mute <;> cases mono <;> simp only [setExciterArgs, u8, List.cons_append, List.nil_append, h0, h1] <;> rfl

theorem setKitchenArgs_payload {t : KitchenSettings} (hh : 1 ≤ t.high ∧ t.high ≤ 48) (hl : t.low < t.high)
    (hu : 1 ≤ t.unitSeconds ∧ t.unitSeconds ≤ 60) (hr : 60 ≤ t.recallInterval ∧ t.recallInterval ≤ 900) (hm : 1 ≤ t.maxCalls ∧ t.maxCalls ≤ 4) :
    setKitchenArgs (u8 t.high ++ u8 t.low ++ u16 t.unitSeconds ++ u16 t.recallInterval ++ u8 t.maxCalls) = some t := by
  have h1 := within_byte hh (by omega)
  have h2 := within_byte (lo := 0) (hi := t.high - 1) (v := t.low) (by omega) (by omega)
  have h3 := within_word hu (by omega)
  have h4 := within_word hr (by omega)
  have h5 := within_byte hm (by omega)
  simp only [setKitchenArgs, u8, u16, List.cons_append, List.nil_append, h1, Option.bind_eq_bind, Option.bind_some, h2, h3, h4, h5]

theorem placeOrderArgs_payload {a : PlaceOrderArgs} (ht : 1 ≤ a.ticket ∧ a.ticket ≤ 65535) (hi : 1 ≤ a.items ∧ a.items ≤ 15)
    (hp : 1 ≤ a.prep ∧ a.prep ≤ 255) :
    placeOrderArgs (u16 a.ticket ++ u8 (if a.pickup = .now then 0 else 1) ++ u8 a.items ++ u8 a.prep) = some a := by
  have h1 := within_word ht (by omega)
  have h2 := within_byte hi (by omega)
  have h3 := within_byte hp (by omega)
  obtain ⟨ticket, pickup, items, prep⟩ := a
  dsimp only at *
  cases pickup <;> simp only [placeOrderArgs, u8, u16, List.cons_append, List.nil_append, h1, h2, h3] <;> rfl

theorem TestSource.mem_names (x : TestSource) : x ∈ testSourceNames := by cases x <;> simp [testSourceNames]

theorem TestMode.mem_names (x : TestMode) : x ∈ testModeNames := by cases x <;> simp [testModeNames]

theorem FlagName.mem_names (x : FlagName) : x ∈ flagNames := by cases x <;> simp [flagNames]

theorem Guard.mem_names (x : Guard) : x ∈ guardNames := by cases x <;> simp [guardNames]

theorem Blink.mem_names (x : Blink) : x ∈ blinkNames := by cases x <;> simp [blinkNames]

/-- The bytes of an action and its argument, as LOAD_CUE carries them (R197). -/
theorem cueActionArg_argument {a : CueAction} (h : ∀ code, a = .mark code → code ≤ 255) :
    ∃ b, a.byte = [b] ∧ cueActionArg b (a.argument.getD []) = some a := by
  cases a with
  | test source mode target =>
    refine ⟨_, rfl, ?_⟩
    have h1 := named_idxOf (names := testSourceNames) (x := source) source.mem_names (by decide)
    have h2 := named_idxOf (names := testModeNames) (x := mode) mode.mem_names (by decide)
    have h3 := named_idxOf (names := flagNames) (x := target) target.mem_names (by decide)
    show (named testSourceNames _ >>= _) = _
    rw [h1]
    show (named testModeNames _ >>= _) = _
    rw [h2]
    show (named flagNames _ >>= _) = _
    rw [h3]
    rfl
  | mark code =>
    have := h code rfl
    refine ⟨_, rfl, ?_⟩
    show some (CueAction.mark (BitVec.ofNat 8 code).toNat) = _
    rw [ofNat8_toNat (by omega)]
  | lamp k on =>
    refine ⟨_, rfl, ?_⟩
    show (index? 4 _ >>= _) = _
    rw [index_byte k (by omega)]
    cases on <;> rfl
  | _ => exact ⟨_, rfl, rfl⟩

theorem loadCueLength_argument (a : CueAction) (b1 b2 b3 b4 b5 b6 : Byte) :
    loadCueLength (b1 :: b2 :: b3 :: b4 :: b5 :: b6 :: (a.byte ++ a.argument.getD [])) = true := by
  cases a <;> rfl

theorem loadCueArgs_payload {a : LoadCueArgs} (hi : 1 ≤ a.id ∧ a.id ≤ 255) (hs : a.pos.second ≤ 65535) (hf : a.pos.frame ≤ 255)
    (hm : ∀ code, a.action = .mark code → code ≤ 255) :
    loadCueArgs (u8 a.screen.val ++ u8 a.id ++ posBytes a.pos ++ enumByte guardNames a.guard ++ a.action.byte ++ a.action.argument.getD []) =
      some a := by
  have h1 := index_byte a.screen (by omega)
  have h2 := within_byte hi (by omega)
  have h3 := named_idxOf (names := guardNames) (x := a.guard) a.guard.mem_names (by decide)
  obtain ⟨b, hb, hc⟩ := cueActionArg_argument hm
  rw [hb]
  obtain ⟨screen, id, ⟨second, frame⟩, guard, action⟩ := a
  dsimp only at *
  have h4 := u16_word second (by omega)
  have h5 := ofNat8_toNat (n := frame) (by omega)
  simp only [loadCueArgs, u8, u16, posBytes, enumByte, List.cons_append, List.nil_append, h1, h2, h3, hc, h4, h5]
  rfl

theorem lampSourceArg_indexBytes (src : LampSource) :
    ∃ b, src.byte = [b] ∧ lampSourceArg b (src.indexBytes.getD []) = some src := by
  cases src with
  | cueLamp i k =>
    refine ⟨_, rfl, ?_⟩
    show (index? 4 _ >>= _) = _
    rw [index_byte i (by omega)]
    show (index? 4 _ >>= _) = _
    rw [index_byte k (by omega)]
    rfl
  | off => exact ⟨_, rfl, rfl⟩
  | on => exact ⟨_, rfl, rfl⟩
  | kitchenHigh => exact ⟨_, rfl, rfl⟩
  | kitchenWork => exact ⟨_, rfl, rfl⟩
  | _ n =>
    refine ⟨_, rfl, ?_⟩
    show Option.map _ (index? _ _) = _
    rw [index_byte n (by omega)]
    rfl

theorem setLampArgs_payload (k : Fin 12) (l : Lamp) :
    setLampArgs (u8 k.val ++ l.source.byte ++ u8 (if l.invert then 1 else 0) ++ enumByte blinkNames l.blink ++ l.source.indexBytes.getD []) =
      some (k, l) := by
  have h1 := index_byte k (by omega)
  have h2 := named_idxOf (names := blinkNames) (x := l.blink) l.blink.mem_names (by decide)
  obtain ⟨b, hb, hc⟩ := lampSourceArg_indexBytes l.source
  rw [hb]
  obtain ⟨source, invert, blink⟩ := l
  dsimp only at *
  cases invert <;> simp only [setLampArgs, u8, enumByte, List.cons_append, List.nil_append, h1, h2, hc] <;> rfl

theorem setLampLength_payload (k : Fin 12) (l : Lamp) :
    setLampLength (u8 k.val ++ l.source.byte ++ u8 (if l.invert then 1 else 0) ++ enumByte blinkNames l.blink ++ l.source.indexBytes.getD []) =
      true := by
  obtain ⟨source, invert, blink⟩ := l
  cases source <;> rfl

theorem announceArgs_payload (i : ScreenId) {ids : List Nat} (h1 : 1 ≤ ids.length) (h8 : ids.length ≤ 8) (hi : ∀ id ∈ ids, id < 32) :
    announceArgs (u8 i.val ++ u8 ids.length ++ ids.flatMap u8) = some (i, ids) := by
  have hx : ids.flatMap u8 = ids.map fun id => BitVec.ofNat 8 id := by
    clear h1 h8 hi
    induction ids with
    | nil => rfl
    | cons a as ih => simp [u8] at *; exact ih
  have hs := index_byte i (by omega)
  have hc := within_byte ⟨h1, h8⟩ (by omega)
  have hm : (ids.map fun id => BitVec.ofNat 8 id).map (·.toNat) = ids := by
    rw [List.map_map]
    exact (List.map_congr_left fun id h => ofNat8_toNat (n := id) (by have := hi id h; omega)).trans (List.map_id _)
  have ha : (ids.map fun id => BitVec.ofNat 8 id).all (·.toNat < 32) = true := by
    rw [List.all_eq_true]
    intro b hb
    obtain ⟨id, hid, rfl⟩ := List.mem_map.mp hb
    have h32 := hi id hid
    rw [ofNat8_toNat (by omega)]
    simpa using h32
  rw [hx]
  simp only [announceArgs, u8, List.cons_append, List.nil_append, hs, hc, ha, hm]
  rfl

theorem announceLength_payload (i : ScreenId) {ids : List Nat} (h8 : ids.length ≤ 8) :
    announceLength (u8 i.val ++ u8 ids.length ++ ids.flatMap u8) = true := by
  have hx : (ids.flatMap u8).length = ids.length := by
    clear h8
    induction ids with
    | nil => rfl
    | cons a as ih => simp [u8] at *
  simp only [announceLength, u8, List.cons_append, List.nil_append]
  rw [hx, ofNat8_toNat (by omega)]
  simp

theorem EventKind.index_named (k : EventKind) : named eventKinds (BitVec.ofNat 8 k.index.val) = some k := by cases k <;> rfl

theorem clearEventsArgs_payload {kinds : List EventKind} (hn : kinds.Nodup) :
    clearEventsArgs (u8 kinds.length ++ kinds.flatMap fun k => u8 k.index.val) = some kinds := by
  have hm : (kinds.flatMap fun k => u8 k.index.val).mapM (named eventKinds) = some kinds := by
    clear hn
    induction kinds with
    | nil => rfl
    | cons a as ih =>
      have ha := EventKind.index_named a
      simp only [u8, List.flatMap_cons, List.cons_append, List.nil_append, List.mapM_cons] at *
      rw [ha, ih]
      rfl
  simp only [clearEventsArgs, u8, List.cons_append, List.nil_append]
  rw [show (kinds.flatMap fun k => [BitVec.ofNat 8 k.index.val]) = kinds.flatMap fun k => u8 k.index.val from rfl, hm]
  simp [hn]

theorem setAttentionArgs_payload (m : Vector Bool 4) :
    setAttentionArgs (m.toList.flatMap fun enabled => u8 (if enabled then 0 else 1)) = some m := by
  obtain ⟨⟨l⟩, h⟩ := m
  match l, h with
  | [a, b, c, d], _ => cases a <;> cases b <;> cases c <;> cases d <;> rfl

end Sys2Proof.Machine
end

