-- ==== Sys2Proof/Laws/Ops.lean ====
section
/-! SUPPORT. What the named operations do, said once: saturating counts, pass maps, look-ups, and a post at every port. -/

namespace Sys2Proof.Machine

/-! ### Counts -/

theorem satAdd_le (max n k : Nat) : satAdd max n k ≤ max := Nat.min_le_left _ _

theorem satAdd_eq {max n k : Nat} (h : n + k ≤ max) : satAdd max n k = n + k := Nat.min_eq_right h

theorem inc16_le (n : Nat) : inc16 n ≤ 65535 := satAdd_le _ _ _

/-! ### Pass maps (R7, R8) -/

theorem PassMap.isSet_setRange {lo hi : Nat} (h : lo ≤ hi) (m : PassMap) (n : Nat) :
    (m.setRange lo hi).isSet n = (decide (lo ≤ n ∧ n ≤ hi) || m.isSet n) := by
  rw [Bool.eq_iff_iff]
  simp only [PassMap.isSet, PassMap.setRange, List.contains_iff_mem, List.mem_append, List.mem_filter, List.mem_range'_1,
    decide_eq_true_eq, Bool.or_eq_true]
  constructor
  · rintro ((⟨hm, -⟩ | hr) | ⟨hm, -⟩)
    · exact .inr hm
    · exact .inl (by omega)
    · exact .inr hm
  · intro hn
    by_cases h1 : n < lo
    · exact .inl (.inl ⟨hn.resolve_left (by omega), h1⟩)
    · by_cases h2 : hi < n
      · exact .inr ⟨hn.resolve_left (by omega), h2⟩
      · exact .inl (.inr (by omega))

theorem PassMap.isSet_clearRange (lo hi : Nat) (m : PassMap) (n : Nat) :
    (m.clearRange lo hi).isSet n = (m.isSet n && !decide (lo ≤ n ∧ n ≤ hi)) := by
  rw [Bool.eq_iff_iff]
  simp only [PassMap.isSet, PassMap.clearRange, List.contains_iff_mem, List.mem_filter, Bool.and_eq_true, Bool.or_eq_true,
    decide_eq_true_eq, Bool.not_eq_true', decide_eq_false_iff_not]
  refine and_congr_right fun _ => ?_
  omega

theorem PassMap.wf_iff (m : PassMap) : m.wf = true ↔ (∀ n ∈ m, n < 4096) ∧ m.Pairwise (· < ·) := by
  simp [PassMap.wf, List.all_eq_true]

theorem PassMap.wf_clearRange (lo hi : Nat) {m : PassMap} (h : m.wf = true) : (m.clearRange lo hi).wf = true := by
  rw [PassMap.wf_iff] at *
  exact ⟨fun n hn => h.1 n (List.mem_filter.mp hn).1, h.2.filter _⟩

theorem PassMap.wf_setRange {lo hi : Nat} (hl : lo ≤ hi) (hh : hi < 4096) {m : PassMap} (h : m.wf = true) : (m.setRange lo hi).wf = true := by
  rw [PassMap.wf_iff] at *
  constructor
  · intro n hn
    simp only [PassMap.setRange, List.mem_append, List.mem_filter, List.mem_range'_1] at hn
    rcases hn with (⟨hm, -⟩ | hr) | ⟨hm, -⟩
    · exact h.1 n hm
    · omega
    · exact h.1 n hm
  · simp only [PassMap.setRange, List.pairwise_append, List.mem_append, List.mem_filter, List.mem_range'_1, decide_eq_true_eq]
    refine ⟨⟨h.2.filter _, List.pairwise_lt_range', ?_⟩, h.2.filter _, ?_⟩
    · rintro a ⟨-, ha⟩ b hb
      omega
    · rintro a (⟨-, ha⟩ | ha) b ⟨-, hb⟩ <;> omega

/-- In a map of the form kept, the number of marks is the number of pass numbers whose mark is set (R7). -/
theorem PassMap.length_eq_countP {m : PassMap} (h : m.wf = true) : m.length = (List.range 4096).countP m.isSet := by
  rw [PassMap.wf_iff] at h
  have hn : m.Nodup := h.2.imp (fun hab => Nat.ne_of_lt hab)
  have hp : m.Perm ((List.range 4096).filter m.isSet) := by
    rw [List.perm_ext_iff_of_nodup hn (List.nodup_range.filter _)]
    intro n
    simp only [List.mem_filter, List.mem_range, PassMap.isSet, List.contains_iff_mem]
    exact ⟨fun hm => ⟨h.1 n hm, hm⟩, fun hm => hm.2⟩
  rw [hp.length_eq, List.countP_eq_length_filter]

/-! ### A post (R180) -/

/-- A post raises its flag to PENDING at every port, one higher in its count up to 255, with the new detail. -/
theorem State.post_flag (k : EventKind) (d : Detail) (s : State) (p : PortId) :
    ((s.post k d).ports[p]).flag k = { state := .pending, count := min 255 (((s.ports[p]).flag k).count + 1), detail := some d } := by
  rw [State.post_ports_get]
  simp [-Fin.getElem_fin, Port.post, Port.examine, Port.flag, Flag.post, satAdd]

/-- A post leaves every other flag as it stands. -/
theorem State.post_flag_ne {k j : EventKind} (h : k.index ≠ j.index) (d : Detail) (s : State) (p : PortId) :
    ((s.post k d).ports[p]).flag j = (s.ports[p]).flag j := by
  rw [State.post_ports_get]
  exact upd_get_ne _ _ _ _ h

/-- The kinds are told apart by their places. -/
theorem EventKind.index_inj {k j : EventKind} (h : k.index = j.index) : k = j := by cases k <;> cases j <;> first | rfl | exact absurd h (by decide)

/-- A post changes of a port only its flags and its attention line. -/
theorem State.post_port (k : EventKind) (d : Detail) (s : State) (p : PortId) :
    ∃ flags attention, (s.post k d).ports[p] = { s.ports[p] with flags, attention } := by
  rw [State.post_ports_get]
  exact ⟨_, _, rfl⟩

end Sys2Proof.Machine
end

