-- ==== Sys2Proof/Tests/Slice0.lean ====
section
/-! SUPPORT. Tests of the model against the manual's worked sequences, the smoke test of the checks of WellFormed.lean, and for every
statement that has hypotheses a witness that meets them, clause by clause. -/

namespace Sys2Proof.Tests

open Sys2Proof Sys2Proof.Machine

-- The kernel evaluates most of these theorems, one at a time.
set_option Elab.async false

/-! ### Small states -/

/-- The part past reset and start-up, every port a SERVICE port at rest. -/
def ready : State :=
  { State.reset with
    inReset := false, startup := false, dir := { State.reset.dir with reading := false }
    ports := .replicate 3 { Port.reset false with role := .service, holdOut := false } }

/-- The state a command leads to. -/
def after (c : Instr) (s : State) : State :=
  match exec c s with
  | .next t => t
  | .fault _ => s
  | .refused _ => s

/-- The status byte of the reply that stands in a port's reply FIFO. -/
def status (p : PortId) (s : State) : Byte := (s.ports[p]).tx.getD 4 255#8

/-- A ticket. -/
def ticket (number : Nat) (screen : ScreenId) (lane : LaneId) (st : TicketState) (payment : Payment) : Ticket :=
  { number, screen, lane, state := st, payment, party := 4, tailgate := false, openOrders := 0 }

/-- An order. -/
def order (number ticket : Nat) (screen : ScreenId) (st : OrderState) : Order :=
  { number, ticket, screen, pickup := .atBreak, items := 1, prep := 3, state := st, origin := 1, placedAt := 0, callsPlayed := 0
    lastCallEnd := none, owed := false }

/-- The state with one entry lane changed. -/
def lane (n : LaneId) (f : EntryLane → EntryLane) (s : State) : State := s.modEntry n f

/-- Lane 2 after arming for ticket 57 (02_entry_and_exit_lanes.md, "a tailgater and a late car"). -/
def armed57 : State :=
  { lane 2 (fun l => { l with state := .armed, admission := some 57, arm := .raised, passTimer := some 45000 }) ready with
    tickets := [ticket 57 3 2 .pending .paid], nextTicket := some 58
    zones := upd ready.zones 3 fun z => { z with capacity := 512, isOpen := true, pending := 1 } }

/-- Lane 2 after the loop rise and, 1,900 ms later, the fall. -/
def committed57 : State := after (.entryLoopFall 2 1900000) (after (.entryLoopRise 2) armed57)

/-- A screen in a state, its clock and frame monitor as given. -/
def showing (i : ScreenId) (st : ScreenState) (clock : Pos) (e : Nat) : State :=
  ready.modShow i fun w =>
    { w with state := st, clock, stallTimer := some 166668, monitor := { w.monitor with e, reference := .valid } }

/-- Every clip of the directory present, each of 480 samples. -/
def clips : Directory := { entries := .replicate 32 (some { start := 1000, length := 480 }), valid := true, reading := false, rescan := none }

/-- A link that is UP with SOUND_UP true and no message on its line. -/
def soundUp (i : ScreenId) (s : State) : State :=
  s.modLink i fun k =>
    { k with state := .up, last := some { carrier := true, fault := false }, soundUp := true, refreshTimer := some 1000 }

/-- A ring of contiguous blocks with their stamp positions. -/
def blocks (asp n : Nat) : List Block :=
  (List.range n).map fun k => { second := 0, frame := 0, offset := 0, asp := asp + 240 * k, samples := [] }

/-! ### Well-formed commands -/

theorem test_wellFormed_refuses_a_short_header : (Instr.startupDirectoryReadDone [0x57#8]).wellFormed = false := by decide
theorem test_wellFormed_refuses_a_short_rescan_header : (Instr.clipRescanDone []).wellFormed = false := by decide
theorem test_wellFormed_refuses_an_odd_clip_read : (Instr.clipReadComplete [1#8, 2#8, 3#8]).wellFormed = false := by decide
theorem test_wellFormed_refuses_a_known_code_as_unknown : (Instr.unknownRequest 0 0x39 0 []).wellFormed = false := by decide
theorem test_wellFormed_refuses_an_overlong_payload :
    (Instr.announce 0 0 (List.replicate 249 0#8)).wellFormed = false := by decide +kernel
theorem test_wellFormed_takes_the_rest :
    (Instr.admitCar 0 0 (List.replicate 248 0#8)).wellFormed = true ∧ (Instr.unknownRequest 0 0x3A 0 []).wellFormed = true ∧
      (Instr.clipReadComplete [1#8, 2#8]).wellFormed = true := by decide +kernel
theorem test_wellFormed_refuses_a_message_of_no_input :
    (Instr.exciterAck ⟨0, []⟩ 0 0).wellFormed = false ∧ (Instr.exciterStatus ⟨0, []⟩ 0 0).wellFormed = false ∧
      (Instr.exciterBadMessage ⟨0, []⟩).wellFormed = false := by decide

/-! ### Wire formats -/

/-- The check value of the CRC-16 that R195 names by its polynomial and start value. -/
theorem test_crc_of_the_digits :
    crc16 [0x31#8, 0x32#8, 0x33#8, 0x34#8, 0x35#8, 0x36#8, 0x37#8, 0x38#8, 0x39#8] = 0x29B1#16 := by decide +kernel

/-- A READ_EVENTS request is 6 bytes (11_station_ports.md, "a port behind a directory read"). -/
theorem test_readEvents_frame :
    (Request.frame ⟨0x36, 7, []⟩).take 4 = [0xC3#8, 2#8, 0x36#8, 7#8] ∧ (Request.frame ⟨0x36, 7, []⟩).length = 6 := by decide +kernel

/-- A reply carries the code plus 0x80 and the tag (R193). -/
theorem test_reply_frame : (replyFrame 0x36 7 29 []).take 5 = [0xC3#8, 3#8, 0xB6#8, 7#8, 29#8] := by decide +kernel

/-! ### Rates and delays (the tables of R48 and R108) -/

theorem test_rate_table :
    [Rate.fps24, .fps25, .fps30].map (fun r => [r.pNom, r.pLo, r.pHi, r.stallLimit, r.spf]) =
      [[41667, 40416, 42918, 166668, 2000], [40000, 38800, 41200, 160000, 1920], [33333, 32333, 34333, 133332, 1600]] := by decide

theorem test_delay_table :
    [((800, 125, 15) : Nat × Nat × Int), (800, 125, 16), (3, 0, 0), (0, 0, 0), (100, 400, 0), (2000, 0, 500)].map (fun (a, b, c) =>
      let t : ScreenSettings := { rate := .fps24, picture := a, exciter := b, trim := c, holdOnLoss := false }
      (t.dTenths, t.delayClamped, delaySamples t.dTenths)) =
    [(690, false, 3312), (691, false, 3317), (3, false, 14), (0, false, 0), (0, true, 0), (1250, true, 6000)] := by decide

/-! ### Lanes (the worked sequences of 02_entry_and_exit_lanes.md) -/

theorem test_rise_in_armed : ((after (.entryLoopRise 2) armed57).entry[(2 : Fin 4)]).state = .passing ∧
    ((after (.entryLoopRise 2) armed57).entry[(2 : Fin 4)]).arm = .raised := by decide +kernel

theorem test_fall_commits_car : (committed57.ticket? 57).map (·.state) = some (.present .car 0) ∧
    (committed57.entry[(2 : Fin 4)]).lastCommit = some 57 := by decide +kernel

theorem test_second_rise_is_a_tailgater : ((after (.entryLoopRise 2) committed57).entry[(2 : Fin 4)]).counts.tailgates = 1 ∧
    ((after (.entryLoopRise 2) committed57).ticket? 57).map (·.tailgate) = some true := by decide +kernel

theorem test_tailgater_fall_classes_nothing :
    ((after (.entryLoopFall 2 1800000) (after (.entryLoopRise 2) committed57)).entry[(2 : Fin 4)]).counts.commits = 1 := by decide +kernel

theorem test_gap_window_expiry : ((after (.gapWindowExpiry 2) committed57).entry[(2 : Fin 4)]).state = .idle ∧
    ((after (.gapWindowExpiry 2) committed57).entry[(2 : Fin 4)]).lastCommit = none := by decide +kernel

theorem test_pass_window_expiry_voids : (after (.passWindowExpiry 2) armed57).tickets = [] ∧
    ((after (.passWindowExpiry 2) armed57).zones[(3 : Fin 4)]).pending = 0 := by decide +kernel

theorem test_rise_after_expiry_is_unadmitted :
    ((after (.entryLoopRise 2) (after (.passWindowExpiry 2) armed57)).entry[(2 : Fin 4)]).counts.unadmitted = 1 := by decide +kernel

theorem test_stuck_limit_commits_unmeasured :
    ((after (.entryStuckLimitExpiry 2) (after (.entryLoopRise 2) armed57)).ticket? 57).map (·.state) = some (.present .unmeasured 0) ∧
      ((after (.entryStuckLimitExpiry 2) (after (.entryLoopRise 2) armed57)).entry[(2 : Fin 4)]).arm = .raised := by decide +kernel

theorem test_long_vehicle : ((after (.entryLoopFall 2 4000000) (after (.entryLoopRise 2) armed57)).entry[(2 : Fin 4)]).counts.long = 1 ∧
    (after (.entryLoopFall 2 4000000) (after (.entryLoopRise 2) armed57)).sourceValue (.laneLong 2) = true := by decide +kernel

/-! ### Frame monitor (R51) -/

theorem test_glitch_and_next : let s := after (.framePulse 0 20000) (showing 0 .running ⟨5, 3⟩ 0)
    (s.shows[(0 : Fin 4)]).monitor.glitches = 1 ∧ ((after (.framePulse 0 21600) s).shows[(0 : Fin 4)]).monitor.pLast = 41600 := by
  decide +kernel

theorem test_first_pulse_is_unmeasured : ((after (.framePulse 1 0) ready).shows[(1 : Fin 4)]).monitor.reference = .valid ∧
    ((after (.framePulse 1 0) ready).shows[(1 : Fin 4)]).monitor.pLast = 41667 := by decide +kernel

theorem test_clock_carries : ((after (.framePulse 0 41667) (showing 0 .running ⟨5, 23⟩ 0)).shows[(0 : Fin 4)]).clock = ⟨6, 0⟩ := by
  decide +kernel

/-! ### Cues (04_cue_lists.md, "an intermission", at 5400+0 with SOUND_UP true and at 11000+0) -/

/-- A cue at a position. -/
def cue (id : Nat) (pos : Pos) (g : Guard) (a : CueAction) : Cue := { id, pos, guard := g, action := a, outcome := .notReached }

/-- Screen 1 one frame before 5400+0 with the five cues of the intermission card. -/
def intermission : State :=
  (soundUp 1 (showing 1 .running ⟨5399, 23⟩ 0)).modCues 1 fun u => { u with cues :=
    [cue 21 ⟨5400, 0⟩ .always (.test .soundUp .set .a), cue 22 ⟨5400, 0⟩ .always .kitchenRelease, cue 23 ⟨5400, 0⟩ .ifA .callsOpen,
     cue 24 ⟨5400, 0⟩ .ifNotA (.lamp 0 true), cue 25 ⟨5400, 0⟩ .always (.mark 1)] }

theorem test_intermission_outcomes : let u := (after (.framePulse 1 41667) intermission).cues[(1 : Fin 4)]
    u.cues.map (·.outcome) = [.executed, .executed, .executed, .skipped, .executed] ∧ u.cursor = 5 ∧ u.flagA = true := by decide +kernel

theorem test_intermission_effects : let s := after (.framePulse 1 41667) intermission
    (s.calls[(1 : Fin 4)]).callWindow = true ∧ ((s.ports[(0 : Fin 3)]).flag .cueMark).detail = some (.mark 1 1) := by decide +kernel

theorem test_end_passes_over : let s := (showing 1 .running ⟨10999, 23⟩ 0).modCues 1 fun u => { u with cues :=
      [cue 90 ⟨11000, 0⟩ .always .endShow, cue 91 ⟨11000, 0⟩ .always (.mark 9)] }
    ((after (.framePulse 1 41667) s).cues[(1 : Fin 4)]).cues.map (·.outcome) = [.executed, .passedOver] ∧
      ((after (.framePulse 1 41667) s).shows[(1 : Fin 4)]).state = .ended := by decide +kernel

/-! ### Alignment (the worked cases of 06_picture_alignment.md) -/

theorem test_first_sound_psp : [27355, 27356].map (fun e =>
    let w : Show := (showing 1 .running ⟨0, 1⟩ e).shows[(1 : Fin 4)]
    Show.psp { w with monitor := { w.monitor with pLast := 41700 } }) = [3311, 3312] := by decide +kernel +kernel

theorem test_slewing_forward : slipAt 2880500 2877150 3312 = 38 ∧ nextMode .locked 38 = .catchUp ∧ nextMode .catchUp 10 = .catchUp ∧
    nextMode .catchUp 8 = .locked := by decide

theorem test_clamp_and_resync : let a : Align := { Align.reset with mode := .locked }
    let r := Align.instant 100000 1600 (blocks 94000 28) a
    r.ring.length = 3 ∧ r.align.counts.discarded = 25 ∧ r.align.counts.lateResyncs = 1 ∧ r.align.mode = .locked := by decide +kernel

theorem test_resync_to_wait : let a : Align := { Align.reset with mode := .holdBack }
    let r := Align.instant 96021999 2000 (blocks 96026039 2) a
    r.align.mode = .waiting ∧ r.ring.length = 2 ∧ r.align.counts.earlyResyncs = 1 := by decide +kernel

/-! ### The intake (05_audio_intake.md) -/

/-- The judging of the worked sequence's blocks 4 and 8 over a ring whose last accepted position is 480, then 720. -/
theorem test_stamp_back_and_hole :
    Intake.isBack 600 { Intake.reset with lastAccepted := some 480 } = true ∧
      Intake.isBack 2000 { Intake.reset with lastAccepted := some 720 } = false := by decide

theorem test_high_mark_sends_hold : let k := Intake.examineRise { Intake.reset with isOpen := true, ring := blocks 0 28 }
    k.returnLine = [FlowMessage.hold 200] ∧ k.holdTimer = some 200 := by decide +kernel

theorem test_low_mark_sends_resume :
    let full : Intake := { Intake.reset with isOpen := true, holding := true, ring := blocks 0 17 }
    let k := full.afterInstant (blocks 0 16)
    k.returnLine = [FlowMessage.resume] ∧ k.holding = false := by decide +kernel

/-! ### Calls and the mix (07_announcements_and_the_mix.md) -/

theorem test_ramp_down : [239, 479].map (fun k => (DuckState.rampDown k).nextGain 32) = [144, 32] := by decide

theorem test_order_call_blocks : let d : Directory := { clips with
      entries := Vector.ofFn fun k : Fin 32 => some { start := 0, length := if k = 12 then 480 else if k = 10 then 600 else if k = 11 then 720 else 400 } }
    totalBlocks (d.compose (.orderCall 307)) = 14 ∧ ((d.compose (.orderCall 307)).map (·.clip.length)).sum = 3000 := by decide +kernel

/-! ### Exciter links (08_exciter_links.md, "a control line cut during the show") -/

/-- A message of the exciter as the control line brings it. -/
def line (kind number flags : Byte) : List LineInput :=
  (0xE7#8 :: [kind, number, flags] ++ checkBytes [kind, number, flags]).map .byte

/-- Screen 0's link at 75 ms: four sends unanswered, the show RUNNING with the option ON. -/
def cutLine : State :=
  (soundUp 0 (showing 0 .running ⟨100, 0⟩ 0 |>.modShow 0 fun w => { w with settings := { w.settings with holdOnLoss := true } })).modLink 0
    fun k => { k with latest := some (43#8, false), nextSend := 44, unanswered := 4, ackTimer := some 25 }

theorem test_link_lost_holds_the_show : let s := after (.ackTimerExpiry 0 []) cutLine
    (s.links[(0 : Fin 4)]).state = .lost ∧ (s.shows[(0 : Fin 4)]).holdReason = some .sound ∧
      ((s.ports[(1 : Fin 3)]).flag .soundLost).detail = some (.sound 0 .link) := by decide +kernel

theorem test_valid_ack_restores : let s := after (.exciterAck ⟨0, line 0x90 43 1⟩ 43 1) (after (.ackTimerExpiry 0 []) cutLine)
    (s.links[(0 : Fin 4)]).soundUp = true ∧ ((s.ports[(2 : Fin 3)]).flag .soundRestored).detail = some (.sound 0 .link) := by decide +kernel

/-- An unknown kind is dropped at its kind byte; what follows, a 0xE7 with a whole ACK among it, is ignored until a silence (R201). -/
theorem test_unknown_kind_is_ignored_until_a_silence :
    let k := (after (.exciterBadMessage ⟨0, [.byte 0xE7#8, .byte 0x92#8]⟩) cutLine).links[(0 : Fin 4)]
    k.counts.bad = 1 ∧ k.collector.hear (line 0x90 43 1) = .ignoring ∧
      k.collector.ends (.silence :: line 0x90 43 1) = some (.idle, .ack 43 1) := by decide +kernel

/-- A SETTINGS send that SET_EXCITER makes while a message is arriving leaves when that message has ended (R146). -/
theorem test_send_waits_for_an_arriving_message :
    let s := after (.setExciter 0 1 ⟨[0#8, 1#8, 0#8, 50#8], (line 0x91 7 1).take 5⟩) cutLine
    (s.links[(0 : Fin 4)]).leaving = none ∧ (s.links[(0 : Fin 4)]).waiting.length = 1 ∧
      ((after (.exciterStatus ⟨0, (line 0x91 7 1).drop 5⟩ 7 1) s).links[(0 : Fin 4)]).leaving.isSome = true := by decide +kernel

/-- The first SETTINGS send of a link waits at the end of device reset while a message, begun since, is arriving (R146, log 10). -/
theorem test_first_send_waits_for_an_arriving_message :
    let heard : Vector (List LineInput) 4 := upd (.replicate 4 []) 0 fun _ => (line 0x91 7 1).take 5
    let s := after (.endOfDeviceReset ⟨.replicate 3 ⟨false, false, false⟩, heard⟩) State.reset
    (s.links[(0 : Fin 4)]).leaving = none ∧ (s.links[(0 : Fin 4)]).waiting.length = 1 ∧
      (s.links[(1 : Fin 4)]).leaving.isSome = true ∧
      ((after (.exciterStatus ⟨0, (line 0x91 7 1).drop 5⟩ 7 1) s).links[(0 : Fin 4)]).leaving.isSome = true := by decide +kernel

theorem test_resume_refused_sound_down :
    status 0 (after (.resumeShow 0 1 [0#8]) (after (.ackTimerExpiry 0 []) cutLine)) = 28#8 := by decide +kernel

/-! ### Orders (09_concession_orders.md, "an intermission rush across two screens") -/

/-- The queue full with the heads 97, 98, 99; 151 of screen 0 and 149, 152 of screen 1 release pending; the pointer at 3. -/
def rush : State :=
  { ready with
    tickets := [ticket 5 0 0 (.present .car 0) .paid]
    orders := { OrderUnit.reset with
      table := [order 97 5 2 .queued, order 149 5 1 (.held true), order 151 5 0 (.held true), order 152 5 1 (.held true)]
      kitchen := [97, 98, 99] ++ (List.range 45).map (· + 200), pointer := 3 } }

theorem test_service_round_robin : let s := after (.takeOrder 2 1 []) rush
    s.orders.kitchen.getLast? = some 151 ∧ s.orders.pointer = 0 ∧ s.orders.kitchen.length = 48 := by decide +kernel

theorem test_recall_and_expiry :
    let due := fun played : Nat => { ready with
      nightClock := 6606
      orders := { OrderUnit.reset with
        table := [{ order 140 5 0 (.ready 5700) with callsPlayed := played, lastCallEnd := some 6307 }], shelf := [140] } }
    ((after .nightClockAdvance (due 2)).calls[(0 : Fin 4)]).queue = [.orderCall 140] ∧
      (after .nightClockAdvance (due 3)).orders.table = [] := by decide +kernel

/-! ### Attention and lamps (10_lamps_and_attention.md) -/

/-- Port S1 after TAILGATE on lane 2 and KITCHEN_WORK, a READ_EVENTS and a TAILGATE on lane 0, then CLEAR_EVENTS of both kinds. -/
def gatePort : Port :=
  ((((Port.reset false).post .tailgate (.entryLane 2)).post .kitchenWork (.fill 1)).readFlags.post .tailgate (.entryLane 0)).clearFlags
    [.tailgate, .kitchenWork]

theorem test_clear_spares_pending : gatePort.flag .tailgate = { state := .pending, count := 2, detail := some (.entryLane 0) } ∧
    gatePort.flag .kitchenWork = Flag.none ∧ gatePort.attention = true := by decide +kernel

/-- Lamp L7, blink FAST: on in the second quarter's phase at 310 ms, dark at 375 ms, on at 500 ms. -/
theorem test_fast_blink : [2, 3, 4].map (fun k => fastOn k) = [true, false, true] := by decide

/-! ### Ports (11_station_ports.md, "a port behind a directory read") -/

theorem test_hold_out_at_192 :
    let q : Port := { Port.reset false with holdOut := false, rx := List.replicate 191 (RxItem.byte 0xC3#8) }
    (q.receive 5 true).holdOut = true ∧ (Port.receive 5 true { q with rx := q.rx.drop 1 }).holdOut = false := by decide +kernel

theorem test_hold_out_released_at_64 :
    let q : Port := { Port.reset false with rx := List.replicate 65 (RxItem.byte 0xC3#8) }
    q.parserTake.holdOut = false ∧ (Port.parserTake { q with rx := q.rx ++ [RxItem.byte 1#8] }).holdOut = true := by decide +kernel

/-! ### Witnesses: for every statement with hypotheses, states and operands that meet them -/

/-- The order book's laws as a check that evaluates. -/
def booksOk (s : State) : Bool :=
  let u := s.orders
  decide (u.table.map (·.number)).Nodup && decide u.kitchen.Nodup && decide u.shelf.Nodup &&
    u.kitchen.all (fun n => u.table.any fun o => o.number == n && o.state == .queued) &&
    u.table.all (fun o => o.state != .queued || u.kitchen.contains o.number) &&
    u.shelf.all (fun n => u.table.any fun o => o.number == n && o.isReady) &&
    u.table.all (fun o => !o.isReady || u.shelf.contains o.number) &&
    (List.finRange 4).all (fun i => (s.calls[i]).queue.all fun e => match e with
      | .orderCall n => u.table.any fun o => o.number == n && (o.isReady && o.screen == i)
      | .announce _ => true) &&
    decide (u.totals = .zero)

theorem bookLaws_of_booksOk {s : State} (h : booksOk s = true) : s.bookLaws := by
  simp only [booksOk, Bool.and_eq_true, decide_eq_true_eq, List.all_eq_true, List.any_eq_true, beq_iff_eq, Bool.or_eq_true, bne_iff_ne,
    Bool.not_eq_true', List.contains_iff_mem] at h
  obtain ⟨⟨⟨⟨⟨⟨⟨⟨hn, hk⟩, hs⟩, hkq⟩, hqk⟩, hsr⟩, hrs⟩, hc⟩, ht⟩ := h
  refine ⟨hn, hk, hs, fun n => ⟨hkq n, ?_⟩, fun n => ⟨hsr n, ?_⟩, fun i n hm => ?_, ?_⟩
  · rintro ⟨o, ho, rfl, hq⟩
    exact (hqk o ho).resolve_left (absurd hq)
  · rintro ⟨o, ho, rfl, hr⟩
    exact (hrs o ho).resolve_left (by simp [hr])
  · simpa [List.any_eq_true] using hc i (List.mem_finRange i) _ hm
  · simp [ht, OrderTotals.law, OrderTotals.zero]

/-- A request with tag 1 is taken at port S0 by a role the catalogue gives it to. -/
abbrev taken (s : State) (code : Byte) (payload : List Byte) (may : List Role) : Prop := s.accepts 0 ⟨code, 1, payload⟩ may = true

/-- The roles of the catalogue's columns. -/
abbrev anyRole : List Role := [.booth, .gate, .kitchen, .service]
abbrev gateRoles : List Role := [.gate, .service]
abbrev boothRoles : List Role := [.booth, .service]
abbrev kitchenRoles : List Role := [.kitchen, .service]

/-- The ready part with its ports changed. -/
def withPorts (f : Port → Port) : State := { ready with ports := ready.ports.map f }

/-- The gate before an admission: lane 2 IDLE, zone 3 OPEN with one place left, a PRESENT LONG ticket with pass 200 and a PENDING one. -/
def gate : State :=
  { lane 2 (fun l => { l with state := .idle }) ready with
    tickets := [ticket 5 3 0 (.present .long 60) (.pass 200), ticket 65535 3 1 .pending .paid], nextTicket := some 57
    zones := upd ready.zones 3 fun z => { z with capacity := 3, isOpen := true, pending := 1, present := 1, long := 1 }
    permits := [0, 200, 4095], used := [200] }

theorem witness_RequestsWait :
    let c := Instr.admitCar 0 1 (List.replicate 248 0#8)
    let r : Request := ⟨0x01, 1, List.replicate 248 0#8⟩
    c.request? = some (0, r) ∧ State.reset.startup = true ∧
      (let s := withPorts fun q => { q with held := some ⟨2, 9, []⟩ }
       (s.ports[(0 : Fin 3)]).held = some ⟨2, 9, []⟩ ∧ (⟨2, 9, []⟩ : Request) ≠ r) ∧
      (let s := withPorts fun q => { q with held := some r, outstanding := true }
       (s.ports[(0 : Fin 3)]).held = some r ∧ (s.ports[(0 : Fin 3)]).outstanding = true) ∧
      (let s := withPorts fun q => { q with tx := List.replicate 259 0#8 }
       s.startup = false ∧ (s.ports[(0 : Fin 3)]).atRest = true ∧ r.payload.length ≤ 248 ∧ 512 < (s.ports[(0 : Fin 3)]).tx.length + 254) := by
  decide +kernel

theorem witness_PortRefusals :
    let gateOnly := withPorts fun q => { q with role := .gate }
    let takes := fun (s : State) (r : Request) => !s.startup && (s.ports[(0 : Fin 3)]).takes r
    (Instr.unknownRequest 0 0x3A 1 []).request? = some (0, ⟨0x3A, 1, []⟩) ∧ takes ready ⟨0x3A, 1, []⟩ = true ∧
      (Instr.unknownRequest 0 0 1 []).request? = some (0, ⟨0, 1, []⟩) ∧ takes ready ⟨0, 1, []⟩ = true ∧
      takes gateOnly ⟨0x38, 1, [0#8]⟩ = true ∧ Role.gate ∈ catalogueRoles 0x38 ∧ agreedLength 0x38 [0#8] ≠ some 1 ∧
      takes gateOnly ⟨0x2C, 1, []⟩ = true ∧ Role.gate ∉ catalogueRoles 0x2C ∧
      takes ready ⟨0x39, 1, []⟩ = true ∧ Role.service ∈ catalogueRoles 0x39 ∧ agreedLength 0x39 [] ≠ some 0 := by decide +kernel

/-- The fields of SET_LANE, SET_SCREEN, SET_SOUND, SET_CALLS, SET_EXCITER, SET_KITCHEN, PLACE_ORDER and SET_LAMP at the ends of their ranges,
and each with its last field one beyond. -/
theorem witness_PortRefusals_ranges :
    let requests : List (Nat × List Byte × List Byte) := [
      (0x0C, [1, 1] ++ u16 255 ++ u16 5000 ++ u16 20000, u16 600 ++ u16 601), (0x12, [3, 30] ++ u16 2000 ++ u16 2000 ++ i16 (-500), [1, 2]),
      (0x1E, [3, 32, 30], u16 1000 ++ u16 1001), (0x23, 3 :: u16 256, u16 256 ++ u16 257), (0x2A, [3, 1, 1], [100, 101]),
      (0x2C, [48, 47] ++ u16 60 ++ u16 900, [4, 5]), (0x30, u16 65535 ++ [1, 15], [1, 0]), (0x34, [11, 13, 1, 2, 3], [3, 4])]
    ∀ q ∈ requests,
      let size := q.2.2.length / 2
      let good := q.2.1 ++ q.2.2.take size
      let bad := q.2.1 ++ q.2.2.drop size
      agreedLength q.1 good = some good.length ∧ agreedLength q.1 bad = some bad.length ∧ Role.service ∈ catalogueRoles q.1 ∧
        (ready.ports[(0 : Fin 3)]).takes ⟨BitVec.ofNat 8 q.1, 1, bad⟩ = true ∧
        fieldsInRange q.1 good = true ∧ fieldsInRange q.1 bad = false := by decide +kernel

theorem witness_EveryTakenRequestIsAnsweredOnce :
    (Instr.holdShow 0 1 [3#8]).request? = some (0, ⟨0x15, 1, [3#8]⟩) ∧ ready.startup = false ∧
      (ready.ports[(0 : Fin 3)]).takes ⟨0x15, 1, [3#8]⟩ = true ∧ (0x15#8 ≠ 0x21#8) ∧
      (let held := withPorts fun q => { q with held := some ⟨0x15, 1, [3#8]⟩, tx := List.replicate 258 0#8 }
       (held.ports[(0 : Fin 3)]).takes ⟨0x15, 1, [3#8]⟩ = true) := by decide +kernel

theorem witness_RequestByWireIsTheRequest :
    let payload := List.replicate 248 0xC3#8
    (Instr.announce 1 255 payload).request? = some (1, ⟨0x22, 255, payload⟩) ∧ ready.startup = false ∧
      (ready.ports[(1 : Fin 3)]).atRest = true ∧ (ready.ports[(1 : Fin 3)]).holdOut = false ∧ payload.length ≤ 248 := by decide +kernel

theorem witness_AdmitAccepted :
    let s := gate
    (∀ payment ∈ [Payment.paid, .pass 0, .pass 4095, .comp], ∀ party ∈ [1, 15],
      taken s 0x01 (u8 2 ++ u8 3 ++ payment.byte ++ u8 party ++ payment.passBytes) gateRoles) ∧
      (s.entry[(2 : Fin 4)]).state = .idle ∧ (s.zones[(3 : Fin 4)]).isOpen = true ∧
      (s.zones[(3 : Fin 4)]).occupancy < (s.zones[(3 : Fin 4)]).capacity ∧
      (∀ n ∈ [0, 4095], s.permits.isSet n = true ∧ s.used.isSet n = false) ∧ s.tickets.length < 2048 ∧ s.nextTicket = some 57 := by
  decide +kernel

theorem witness_AdmitRefusals_of_ranges :
    ∀ payload ∈ [[4#8, 0, 0, 1], [0#8, 4, 0, 1], [0#8, 0, 3, 1], [0#8, 0, 0, 0], [0#8, 0, 2, 16], [0#8, 0, 1, 15, 16, 0]],
      taken gate 0x01 payload gateRoles ∧ payload.length = if payload[2]? = some 1#8 then 6 else 4 := by decide +kernel

/-- One state for each status in the order of the checks. -/
theorem witness_AdmitRefusals_of_states :
    let payload := u8 2 ++ u8 3 ++ (Payment.pass 200).byte ++ u8 15 ++ (Payment.pass 200).passBytes
    taken gate 0x01 payload gateRoles ∧ (Payment.pass 200).passBytes = [0#8, 200#8] ∧
      (∀ x ∈ [EntryState.closed, .stuck, .armed, .passing, .settling],
        ((lane 2 (fun l => { l with state := x }) gate).entry[(2 : Fin 4)]).state ≠ .idle) ∧
      (let s := { gate with zones := ready.zones }
       (s.zones[(3 : Fin 4)]).isOpen = false ∧ (s.entry[(2 : Fin 4)]).state = .idle) ∧
      (let s := { gate with zones := upd gate.zones 3 fun z => { z with capacity := 2 } }
       (s.zones[(3 : Fin 4)]).isOpen = true ∧ (s.zones[(3 : Fin 4)]).capacity ≤ (s.zones[(3 : Fin 4)]).occupancy) ∧
      gate.permits.isSet 201 = false ∧ (gate.permits.isSet 200 = true ∧ gate.used.isSet 200 = true) ∧
      2048 ≤ { gate with tickets := List.replicate 2048 (ticket 5 3 0 .pending .paid) }.tickets.length ∧
      { gate with nextTicket := none }.nextTicket = none := by decide +kernel

theorem witness_DepartOfAPresentTicket :
    taken gate 0x02 (u16 5) gateRoles ∧ gate.ticket? 5 = some (ticket 5 3 0 (.present .long 60) (.pass 200)) := by decide +kernel

theorem witness_PassSetMarksTheRange :
    taken gate 0x03 (u16 4095 ++ u16 4095 ++ u8 0) gateRoles ∧ taken gate 0x03 (u16 0 ++ u16 4096 ++ u8 1) gateRoles ∧
      taken gate 0x03 (u16 4095 ++ u16 4094 ++ u8 1) gateRoles ∧ gate.permits.wf = true := by decide +kernel

theorem witness_ZoneSettings :
    let others := { gate with zones := upd gate.zones 0 fun z => { z with capacity := 1 } }
    (∀ capacity ∈ [1, 2, 2047, 2048], taken others 0x04 (u8 3 ++ u16 capacity) gateRoles) ∧ (others.zones[(3 : Fin 4)]).occupancy = 2 ∧
      sum4 ((upd others.zones 3 fun z => { z with capacity := 2047 }).map (·.capacity)) = 2048 ∧
      sum4 ((upd others.zones 3 fun z => { z with capacity := 2048 }).map (·.capacity)) = 2049 ∧
      taken gate 0x05 (u8 3) gateRoles ∧ taken gate 0x06 (u8 3) gateRoles ∧
      (∀ payload ∈ [[4#8, 0#8, 1#8], [3#8, 8#8, 1#8]], taken gate 0x04 payload gateRoles) ∧
      ∀ screen ∈ [4#8, 255#8], taken gate 0x05 [screen] gateRoles ∧ taken gate 0x06 [screen] gateRoles := by decide +kernel

theorem witness_CloseNight :
    let quiet := fun s : State => (∀ i : ScreenId, (s.shows[i]).state = .idle ∨ (s.shows[i]).state = .ended) ∧
      ∀ n : LaneId, (s.entry[n]).state = .closed ∨ (s.entry[n]).state = .idle
    taken gate 0x07 [] gateRoles ∧ quiet gate ∧ taken armed57 0x07 [] gateRoles ∧ ¬quiet armed57 ∧ ¬quiet (showing 3 .armed ⟨0, 0⟩ 0) := by
  decide +kernel

theorem witness_TableAndGateQueries :
    taken gate 0x08 (u16 5) anyRole ∧ gate.ticket? 65535 = some (ticket 65535 3 1 .pending .paid) ∧ gate.ticket? 6 = none ∧
      taken gate 0x09 (u16 4095) anyRole ∧ taken gate 0x0A [] anyRole ∧ taken gate 0x0B [] anyRole ∧ taken gate 0x11 [] anyRole := by
  decide +kernel

/-- The pass laws of the state the PASS_QUERY is asked in. -/
theorem witness_TableAndGateQueries_passLaws : gate.passLaws := by
  refine ⟨by decide, by decide, by decide, fun n => ?_⟩
  show ([200].contains n) = true ↔ n ∈ [200]
  simp

/-- One second before 6607: of the READY orders 140 and 143 are due below max calls, with room for the call of one, 141 is due at max calls,
and 142 is not due. -/
def nightBook : State :=
  let r := fun n played last : Nat => { order n 5 0 (.ready 5700) with callsPlayed := played, lastCallEnd := some last }
  { ready with
    nightClock := 6606
    tickets := [{ ticket 5 0 0 (.present .car 0) .paid with openOrders := 4 }]
    calls := upd ready.calls 0 fun c => { c with queue := List.replicate 15 (.announce [3]) }
    orders := { OrderUnit.reset with
      table := [r 140 2 6307, r 141 3 6307, r 142 0 6308, r 143 0 6000], shelf := [140, 141, 142, 143] } }

theorem witness_NightClockAdvance :
    { ready with nightClock := 65535 }.nightClock = 65535 ∧ nightBook.nightClock < 65535 ∧ nightBook.bookLaws ∧
      nightBook.orders.settings.recallInterval = 300 ∧ nightBook.orders.settings.maxCalls = 3 ∧
      (nightBook.calls[(0 : Fin 4)]).queue.length = 15 := ⟨by decide, by decide, bookLaws_of_booksOk (by decide +kernel), by decide +kernel⟩

theorem witness_LaneSettingsAndDoors :
    let low := u16 5 ++ u16 200 ++ u16 500 ++ u16 10
    let high := u16 255 ++ u16 5000 ++ u16 20000 ++ u16 600
    taken gate 0x0C (u8 0 ++ u8 2 ++ low) gateRoles ∧ taken armed57 0x0C (u8 0 ++ u8 2 ++ high) gateRoles ∧
      taken gate 0x0C (u8 1 ++ u8 1 ++ high) gateRoles ∧ taken gate 0x0D (u8 0 ++ u8 3) gateRoles ∧ taken gate 0x0D (u8 1 ++ u8 0) gateRoles ∧
      taken gate 0x0E (u8 0 ++ u8 3) gateRoles ∧ taken gate 0x0E (u8 1 ++ u8 1) gateRoles := by decide +kernel

theorem witness_VoidsByTheLane :
    let t := ticket 57 3 2 .pending .paid
    (armed57.entry[(2 : Fin 4)]).state = .armed ∧ (armed57.entry[(2 : Fin 4)]).passTimer ≠ none ∧
      (armed57.entry[(2 : Fin 4)]).admission = some 57 ∧ armed57.ticket? 57 = some t ∧ taken armed57 0x0F (u16 57) gateRoles ∧
      taken armed57 0x10 (u8 0 ++ u8 2) gateRoles ∧ taken gate 0x0F (u16 6) gateRoles ∧ gate.ticket? 6 = none ∧
      gate.ticket? 5 = some (ticket 5 3 0 (.present .long 60) (.pass 200)) ∧
      (let s := after (.entryLoopRise 2) armed57
       s.ticket? 57 = some t ∧ (s.entry[t.lane]).state = .passing ∧ taken s 0x0F (u16 57) gateRoles) := by decide +kernel

theorem witness_LaneResetOtherwise :
    let passing := after (.entryLoopRise 2) armed57
    let tailgater := after (.entryLoopRise 2) committed57
    taken passing 0x10 (u8 0 ++ u8 2) gateRoles ∧ (passing.entry[(2 : Fin 4)]).state = .passing ∧
      (passing.entry[(2 : Fin 4)]).admitted = true ∧ (passing.entry[(2 : Fin 4)]).admission = some 57 ∧
      passing.ticket? 57 = some (ticket 57 3 2 .pending .paid) ∧ (tailgater.entry[(2 : Fin 4)]).state = .passing ∧
      (tailgater.entry[(2 : Fin 4)]).admitted = false ∧ (committed57.entry[(2 : Fin 4)]).state = .settling ∧
      taken committed57 0x10 (u8 0 ++ u8 2) gateRoles ∧ taken tailgater 0x10 (u8 0 ++ u8 2) gateRoles ∧
      taken ready 0x10 (u8 1 ++ u8 1) gateRoles := by decide +kernel

theorem witness_EntryLoopEdges :
    (∀ x ∈ [EntryState.armed, .settling, .idle, .closed],
      let s := lane 1 (fun l => { l with state := x }) ready
      (s.entry[(1 : Fin 4)]).loop = .clear ∧ (s.entry[(1 : Fin 4)]).state = x) ∧
    (∀ x ∈ [EntryState.stuck, .idle, .closed, .armed],
      let s := lane 1 (fun l => { l with state := x, loop := .occupied }) ready
      (s.entry[(1 : Fin 4)]).loop = .occupied ∧ (s.entry[(1 : Fin 4)]).state = x) ∧
    (let s := after (.entryLoopRise 2) armed57
     let l := s.entry[(2 : Fin 4)]
     l.loop = .occupied ∧ l.state = .passing ∧ l.admitted = true ∧ l.admission = some 57 ∧
       s.ticket? 57 = some (ticket 57 3 2 .pending .paid) ∧ l.settings.longThreshold * 1000 ≤ l.occupancyUs + 4000000 ∧
       ¬l.settings.longThreshold * 1000 ≤ l.occupancyUs + 3999999) := by decide +kernel

theorem witness_TailgaterFallAndFurtherTailgater :
    let l := (after (.entryLoopRise 2) committed57).entry[(2 : Fin 4)]
    l.loop = .occupied ∧ l.state = .passing ∧ l.admitted = false ∧ l.lastCommit = some 57 := by decide +kernel

theorem witness_EntryLaneTimers :
    let settling := committed57.entry[(2 : Fin 4)]
    let passing := (after (.entryLoopRise 2) armed57).entry[(2 : Fin 4)]
    let tailgater := (after (.entryLoopRise 2) committed57).entry[(2 : Fin 4)]
    settling.state = .settling ∧ settling.gapTimer ≠ none ∧ passing.state = .passing ∧ passing.admitted = true ∧ passing.admission = some 57 ∧
      (after (.entryLoopRise 2) armed57).ticket? 57 = some (ticket 57 3 2 .pending .paid) ∧ tailgater.state = .passing ∧
      tailgater.admitted = false := by decide +kernel

theorem witness_ExitLoops :
    let opened := after (.laneOpen 0 1 (u8 1 ++ u8 1)) ready
    let e := opened.exits[(1 : Fin 2)]
    let rise := (after (.exitLoopRise 1) opened).exits[(1 : Fin 2)]
    e.loop = .clear ∧ e.state = .isOpen ∧ rise.loop = .occupied ∧ rise.state = .isOpen ∧ rise.stuckTimer = some 90000 := by decide +kernel

theorem witness_SetScreen :
    let bytes := fun fps : Nat => u8 0 ++ (u8 fps ++ u16 2000 ++ u16 0 ++ i16 (-500) ++ u8 1)
    taken ready 0x12 (bytes 24) boothRoles ∧ taken ready 0x12 (bytes 25) boothRoles ∧ taken ready 0x12 (bytes 30) boothRoles ∧
      (ready.shows[(0 : Fin 4)]).settings.rate ≠ .fps25 ∧ (ready.shows[(0 : Fin 4)]).state = .idle ∧
      (showing 0 .armed ⟨0, 0⟩ 0).shows[(0 : Fin 4)].state = .armed := by decide +kernel

theorem witness_ArmAndStart :
    let armed := showing 0 .armed ⟨0, 0⟩ 0
    taken ready 0x13 (u8 0) boothRoles ∧ (ready.shows[(0 : Fin 4)]).state = .idle ∧ taken armed 0x13 (u8 0) boothRoles ∧
      (armed.shows[(0 : Fin 4)]).state = .armed ∧ taken armed 0x14 (u8 0) boothRoles := by decide +kernel

/-- A show held for sound that is down, the option ON; with the option OFF it may be resumed. -/
def heldForSound (option : Bool) : State :=
  (showing 0 .held ⟨100, 5⟩ 0).modShow 0 fun w =>
    { w with holdReason := some .sound, pause := true, settings := { w.settings with holdOnLoss := option } }

theorem witness_HoldAndResume :
    (∀ x ∈ [ScreenState.running, .lost, .held, .idle, .armed, .ended],
      taken (showing 0 x ⟨1, 2⟩ 0) 0x15 (u8 0) boothRoles ∧ ((showing 0 x ⟨1, 2⟩ 0).shows[(0 : Fin 4)]).state = x) ∧
    (∀ option ∈ [false, true],
      let s := heldForSound option
      taken s 0x16 (u8 0) boothRoles ∧ (s.shows[(0 : Fin 4)]).state = .held ∧
        (((s.shows[(0 : Fin 4)]).holdReason = some .sound ∧ (s.shows[(0 : Fin 4)]).settings.holdOnLoss = true ∧
          (s.links[(0 : Fin 4)]).soundUp = false) ↔ option = true)) ∧
    taken ready 0x16 (u8 0) boothRoles ∧ (ready.shows[(0 : Fin 4)]).state ≠ .held := by decide +kernel

/-- A screen in a show with a call in its slot, two HELD orders and one pending release. -/
def callPlaying : State :=
  let s := showing 0 .running ⟨100, 5⟩ 0
  let q : Playing :=
    { entry := .orderCall 140, sequence := [{ id := 12, clip := { start := 1000, length := 480 } }], duck := 32, level := 256, lead := 0
      block := 0, sample := 0, skipping := false, buffer := [], nextRead := 0, readPending := false }
  { s with
    tickets := [ticket 5 0 0 (.present .car 0) .paid]
    orders := { s.orders with table := [order 1 5 0 (.held false), order 2 5 0 (.held true), order 140 5 0 (.ready 7)], shelf := [140] }
    calls := upd s.calls 0 fun c => { c with slot := some q, duckState := .ducked, gain := 32, callWindow := true, orderWindow := true } }

theorem witness_EndShowAndScreenReset :
    callPlaying.bookLaws ∧
    taken callPlaying 0x17 (u8 0) boothRoles ∧ (callPlaying.shows[(0 : Fin 4)]).state.inShow = true ∧ taken callPlaying 0x18 (u8 0) boothRoles ∧
      (callPlaying.calls[(0 : Fin 4)]).slot ≠ none ∧ (callPlaying.calls[(0 : Fin 4)]).hasCallOf 140 = true ∧
      taken ready 0x17 (u8 0) boothRoles ∧ (ready.shows[(0 : Fin 4)]).state.inShow = false :=
  ⟨bookLaws_of_booksOk (by decide +kernel), by decide +kernel⟩

/-- Around the limits of the accept window at 24 fps: a glitch, the first accepted, a measured, the last measured, a late pulse. -/
theorem witness_FramePulseJudged :
    let e := fun us : Nat => min Rate.fps24.stallLimit (((showing 0 .running ⟨1, 2⟩ 0).shows[(0 : Fin 4)]).monitor.e + us)
    e 40415 < Rate.fps24.pLo ∧ ¬e 40416 < Rate.fps24.pLo ∧ e 42918 ≤ Rate.fps24.pHi ∧ ¬e 42919 ≤ Rate.fps24.pHi ∧
      e 166667 ≠ Rate.fps24.stallLimit ∧ e 166668 = Rate.fps24.stallLimit := by decide +kernel

theorem witness_AcceptedPulseEffects :
    (∀ x ∈ [ScreenState.idle, .ended, .armed, .running, .held, .lost], ∀ clock ∈ [(⟨1, 22⟩ : Pos), ⟨1, 23⟩, ⟨65535, 22⟩, ⟨65535, 23⟩],
      let s := showing 0 x clock 0
      let w := s.shows[(0 : Fin 4)]
      w.settings.rate.pLo ≤ (w.elapse 41667).monitor.e ∧ (s.cues[(0 : Fin 4)]).cues[(s.cues[(0 : Fin 4)]).cursor]? = none ∧ w.state = x) ∧
    (let s := (showing 0 .armed ⟨0, 0⟩ 0).modShow 0 fun w => { w with startPending := true }
     (s.shows[(0 : Fin 4)]).startPending = true) := by decide +kernel

/-- The clauses that ask for no absent cue: a cue due at the clock reached, in IDLE, ENDED and ARMED, and at the saturated clock. -/
theorem witness_AcceptedPulseEffects_cues :
    (∀ x ∈ [ScreenState.idle, .ended, .armed],
      let s := (showing 0 x ⟨1, 2⟩ 0).modCues 0 fun u => { u with cues := [cue 1 ⟨1, 3⟩ .always .hold] }
      (s.shows[(0 : Fin 4)]).state = x ∧ (s.shows[(0 : Fin 4)]).startPending = false) ∧
    ∀ x ∈ [ScreenState.running, .held, .lost],
      let s := (showing 0 x ⟨65535, 23⟩ 0).modCues 0 fun u => { u with cues := [cue 1 ⟨65535, 23⟩ .always .hold] }
      (s.shows[(0 : Fin 4)]).state = x ∧ (s.shows[(0 : Fin 4)]).clock = ⟨65535, Rate.fps24.fps - 1⟩ := by decide +kernel

theorem witness_Stalls :
    (ready.shows[(0 : Fin 4)]).stallTimer = none ∧ ∀ x ∈ [ScreenState.running, .held],
      ((showing 0 x ⟨1, 2⟩ 0).shows[(0 : Fin 4)]).stallTimer ≠ none ∧ ((showing 0 x ⟨1, 2⟩ 0).shows[(0 : Fin 4)]).state = x := by decide +kernel

theorem witness_LoadCue :
    let payload := fun (id second frame code : Nat) =>
      u8 1 ++ u8 id ++ (u16 second ++ u8 frame) ++ enumByte [Guard.always] .always ++ (CueAction.mark code).byte ++
        ((CueAction.mark code).argument.getD [])
    let full := intermission.modCues 1 fun u => { u with cues := List.replicate 64 (cue 7 ⟨5400, 0⟩ .always .hold) }
    taken intermission 0x1A (payload 255 5400 23 255) boothRoles ∧ taken intermission 0x1A (payload 1 0 24 0) boothRoles ∧
      taken intermission 0x1A (payload 21 65535 23 0) boothRoles ∧ taken full 0x1A (payload 1 5400 0 0) boothRoles ∧
      64 ≤ (full.cues[(1 : Fin 4)]).cues.length ∧ (∃ c ∈ (intermission.cues[(1 : Fin 4)]).cues, c.id = 21) ∧
      (∀ c ∈ (intermission.cues[(1 : Fin 4)]).cues, c.id ≠ 255) ∧ (intermission.shows[(1 : Fin 4)]).state.inShow = true ∧
      Pos.later ⟨5399, 23⟩ (intermission.shows[(1 : Fin 4)]).clock = false ∧ Pos.later ⟨5400, 0⟩ (intermission.shows[(1 : Fin 4)]).clock = true ∧
      (intermission.cues[(1 : Fin 4)]).cues.Pairwise (fun b c => b.pos.later c.pos = false) := by decide +kernel

theorem witness_DeleteAndClearCues :
    taken intermission 0x1B (u8 1 ++ u8 255) boothRoles ∧ (∀ c ∈ (intermission.cues[(1 : Fin 4)]).cues, c.id ≠ 255) ∧
      taken intermission 0x1B (u8 1 ++ u8 22) boothRoles ∧
      (intermission.cues[(1 : Fin 4)]).cues =
        [cue 21 ⟨5400, 0⟩ .always (.test .soundUp .set .a)] ++ cue 22 ⟨5400, 0⟩ .always .kitchenRelease ::
          [cue 23 ⟨5400, 0⟩ .ifA .callsOpen, cue 24 ⟨5400, 0⟩ .ifNotA (.lamp 0 true), cue 25 ⟨5400, 0⟩ .always (.mark 1)] ∧
      (let passed := intermission.modCues 1 fun u => { u with cursor := 2 }
       taken passed 0x1B (u8 1 ++ u8 22) boothRoles ∧ 1 < (passed.cues[(1 : Fin 4)]).cursor) ∧
      taken intermission 0x1C (u8 1) boothRoles ∧ taken ready 0x1C (u8 1) boothRoles ∧
      (∀ payload ∈ [[4#8, 1#8], [3#8, 0#8]], taken ready 0x1B payload boothRoles) ∧ taken ready 0x1C [4#8] boothRoles := by decide +kernel

/-- Screen 1 at the cue of the intermission card, with 47 orders QUEUED and two of its own HELD. -/
def fullKitchen : State :=
  let queued := (List.range 47).map (· + 200)
  { intermission with
    tickets := [ticket 5 1 0 (.present .car 0) .paid]
    orders := { OrderUnit.reset with
      table := queued.map (fun n => order n 5 0 .queued) ++ [order 1 5 1 (.held false), order 2 5 1 (.held false)], kitchen := queued } }

/-- One cue alone at 5400+0, the clock one frame before it; the guard holds for IF_NOT_A and does not for IF_A. -/
theorem witness_CueTurn :
    ∀ c ∈ [cue 1 ⟨5400, 0⟩ .ifA .hold, cue 1 ⟨5400, 0⟩ .ifNotA (.test .one .xor .a), cue 1 ⟨5400, 0⟩ .ifNotB (.test .zero .and .b),
        cue 1 ⟨5400, 0⟩ .always (.mark 255), cue 1 ⟨5400, 0⟩ .ifNeither (.lamp 3 true), cue 1 ⟨5400, 0⟩ .always .hold,
        cue 1 ⟨5400, 0⟩ .always .entryClose, cue 1 ⟨5400, 0⟩ .always .ordersOpen, cue 1 ⟨5400, 0⟩ .always .callsClose,
        cue 1 ⟨5400, 0⟩ .always .endShow, cue 1 ⟨5400, 0⟩ .always .kitchenRelease, cue 1 ⟨5400, 0⟩ .always .callsOpen],
      let s := intermission.modCues 1 fun u => { u with cues := [c] }
      let w := s.shows[(1 : Fin 4)]
      let u := s.cues[(1 : Fin 4)]
      w.state = .running ∧ w.settings.rate.pLo ≤ (w.elapse 40416).monitor.e ∧ w.clock ≠ { second := 65535, frame := w.settings.rate.fps - 1 } ∧
        u.cues[u.cursor]? = some c ∧ c.pos = w.clock.succ w.settings.rate.fps ∧ u.cues[u.cursor + 1]? = none := by decide +kernel

/-- The pass over several cues of one position: from ARMED at 0+0, and from RUNNING, HELD and LOST with a cue behind and one ahead. -/
theorem witness_CueTurn_pass :
    (let due := [cue 1 ⟨0, 0⟩ .always .endShow, cue 2 ⟨0, 0⟩ .always (.mark 1)]
     let s := (showing 1 .armed ⟨0, 0⟩ 0).modCues 1 fun u => { u with cues := [] ++ due ++ [cue 3 ⟨0, 1⟩ .always .hold] }
     let w := (s.modShow 1 fun w => { w with startPending := true }).shows[(1 : Fin 4)]
     w.state = .armed ∧ w.startPending = true ∧ w.settings.rate.pLo ≤ (w.elapse 41667).monitor.e ∧ (s.cues[(1 : Fin 4)]).cursor = 0 ∧
       ∀ c ∈ due, c.pos = w.clock) ∧
    ∀ x ∈ [ScreenState.running, .held, .lost],
      let front := [cue 1 ⟨9, 23⟩ .always .hold]
      let due := [cue 2 ⟨10, 0⟩ .always .kitchenRelease, cue 3 ⟨10, 0⟩ .ifA .hold, cue 4 ⟨10, 0⟩ .always (.test .one .set .a)]
      let s := (showing 1 x ⟨9, 23⟩ 0).modCues 1 fun u => { u with cues := front ++ due ++ [cue 5 ⟨10, 1⟩ .always .hold], cursor := 1 }
      let w := s.shows[(1 : Fin 4)]
      w.state = x ∧ w.clock ≠ { second := 65535, frame := w.settings.rate.fps - 1 } ∧ w.settings.rate.pLo ≤ (w.elapse 41667).monitor.e ∧
        (s.cues[(1 : Fin 4)]).cursor = front.length ∧ ∀ c ∈ due, c.pos = w.clock.succ w.settings.rate.fps := by decide +kernel

/-- The order book and the windows that END, KITCHEN_RELEASE and CALLS_OPEN find: the release flag clear with 47 QUEUED, or set; the call
window OPEN, or CLOSED with a call that can start. -/
theorem witness_CueTurn_actions :
    intermission.bookLaws ∧ fullKitchen.bookLaws ∧ fullKitchen.orders.kitchen.length = 47 ∧ fullKitchen.orders.released[(1 : Fin 4)] = false ∧
      (fullKitchen.orders.table.filter fun o => o.screen == 1 && o.state == .held false).length = 2 ∧
      { fullKitchen with orders := { fullKitchen.orders with released := .replicate 4 true } }.orders.released[(1 : Fin 4)] = true ∧
      (intermission.calls[(1 : Fin 4)]).callWindow = false ∧ (intermission.links[(1 : Fin 4)]).soundUp = true ∧
      intermission.dir.reading = false ∧ (intermission.calls[(1 : Fin 4)]).slot = none ∧ (intermission.calls[(1 : Fin 4)]).duckState = .up ∧
      (CallEntry.announce [3]).composed clips ≠ [] :=
  ⟨bookLaws_of_booksOk (by decide +kernel), bookLaws_of_booksOk (by decide +kernel), by decide +kernel⟩

/-- A state with a READY order 140 of screen 0 that is owed, its queue of a length. -/
def owing (fill : Nat) (s : State) : State :=
  { s with
    tickets := [ticket 5 0 0 (.present .car 0) .paid]
    orders := { OrderUnit.reset with table := [{ order 140 5 0 (.ready 7) with owed := true }], shelf := [140] }
    calls := upd s.calls 0 fun c => { c with queue := List.replicate fill (.announce [3]) } }

/-- The owed fill that CALLS_OPEN runs: an owed order for a queue with a place, with none, and with none until the head has gone. -/
theorem witness_CueTurn_owedFill :
    ∀ fill ∈ [0, 15, 16], let s := owing fill (soundUp 0 (showing 0 .running ⟨5399, 23⟩ 0))
      s.owedNow 0 = [140] ∧ (s.calls[(0 : Fin 4)]).callWindow = false ∧ (s.calls[(0 : Fin 4)]).queue.length = fill ∧
        (s.calls[(0 : Fin 4)]).slot = none ∧ (s.calls[(0 : Fin 4)]).duckState = .up := by decide +kernel

/-- An intake that is OPEN with `n` blocks in its ring. -/
def intake (n : Nat) (holding : Bool) : State :=
  let s := showing 0 .running ⟨1, 0⟩ 0
  { s with intakes := upd s.intakes 0 fun k =>
      { k with isOpen := true, ring := blocks 0 n, lastAccepted := some (240 * n - 240), expected := some 65535, holding := holding
               holdTimer := if holding then some 200 else none } }

theorem witness_SoundSettingsAndHoldTimer :
    taken (intake 2 false) 0x1E (u8 0 ++ u8 2 ++ u8 0 ++ u16 10) boothRoles ∧ taken (intake 30 true) 0x1E (u8 0 ++ u8 32 ++ u8 30 ++ u16 1000) boothRoles ∧
      ((intake 30 true).intakes[(0 : Fin 4)]).holding = true ∧ ((intake 30 true).intakes[(0 : Fin 4)]).holdTimer ≠ none ∧
      ((intake 2 false).intakes[(0 : Fin 4)]).holdTimer = none := by decide +kernel

/-- A block of silence at 1+frame, offset `offset`. -/
def silence (frame offset : Nat) : BlockFields := { sequence := 65535, second := 1, frame, offset, samples := List.replicate 240 (0, 0) }

theorem witness_AudioBlockArrival :
    let k := fun n : Nat => (intake n false).intakes[(0 : Fin 4)]
    let body := List.replicate 967 0#8
    (ready.intakes[(0 : Fin 4)]).isOpen = false ∧ (k 27).isOpen = true ∧ (List.replicate 970 0#8).length < 971 ∧
      (List.replicate 971 0xA5#8).take 2 ≠ [0xA5#8, 0x5A#8] ∧ body.length = 967 ∧ [0#8, 0#8].length = 2 ∧
      checkBytes body ≠ [0#8, 0#8] ∧ (silence 23 1999).samples.length = 240 ∧ ¬24 < Rate.fps24.fps ∧ ¬2000 < Rate.fps24.spf ∧
      (k 27).lastAccepted = some 6240 ∧ (k 32).ring.length = 32 ∧ (k 31).ring.length < 32 ∧ (k 31).settings.high ≤ (k 31).ring.length + 1 ∧
      (let late : Intake := { k 1 with lastAccepted := some 47761 }
       late.lastAccepted = some 47761 ∧ (1 * 24 + 0) * 2000 + 0 < 47761 + 240 ∧ ¬(1 * 24 + 0) * 2000 + 1 < 47761 + 240) := by decide +kernel

/-- Screen 1 RUNNING at 10+0, so that PSP is 480000, in an alignment mode with a read point and a ring. -/
def sounding (mode : AlignMode) (readPoint : Nat) (ring : List Block) : State :=
  let s := showing 1 .running ⟨10, 0⟩ 0
  { s with
    aligns := upd s.aligns 1 fun a => { a with mode := mode, readPoint := readPoint }
    intakes := upd s.intakes 1 fun k => { k with isOpen := true, ring := ring, lastAccepted := some 490000 } }

/-- The slip of a block's sample in `sounding`. -/
def slip (b : Block) (k : Nat) : Int :=
  (((sounding .locked 0 []).shows[(1 : Fin 4)]).psp : Int) - (b.asp + k + ((sounding .locked 0 []).aligns[(1 : Fin 4)]).dSamples)

theorem witness_QuietInstants :
    ready.inReset = false ∧ (ready.aligns[(0 : Fin 4)]).mode = .muted ∧ ((sounding .paused 0 []).aligns[(1 : Fin 4)]).mode = .paused ∧
      (let s := sounding .waiting 0 (blocks 480001 1)
       let w := s.shows[(1 : Fin 4)]
       let a := s.aligns[(1 : Fin 4)]
       a.mode = .waiting ∧ ∀ b ∈ (s.intakes[(1 : Fin 4)]).ring.head?, w.psp < b.asp + a.readPoint + a.dSamples) ∧
      (ready.calls[(1 : Fin 4)]).slot = none ∧ (ready.calls[(1 : Fin 4)]).duckState = .up := by decide +kernel

/-- Every clause's ring, mode and read point, with the slips at both limits of the near band and at WAITING's start. -/
theorem witness_PlayingInstants :
    (∀ m ∈ [AlignMode.locked, .catchUp, .holdBack], ∀ k ∈ [1, 119, 238, 239],
      let s := sounding m k (blocks 476000 2)
      s.inReset = false ∧ (s.intakes[(1 : Fin 4)]).ring = blocks 476000 2 ∧ (s.aligns[(1 : Fin 4)]).mode = m ∧
        (s.aligns[(1 : Fin 4)]).readPoint = k ∧ (s.aligns[(1 : Fin 4)]).repeatTaken = false) ∧
    (∀ asp ∈ [476000, 484000], ∀ b ∈ blocks asp 1, -4000 ≤ slip b 0 ∧ slip b 0 ≤ 4000) ∧
    (∀ b ∈ blocks 480000 1, slip b 0 = 0) ∧
    (let s := sounding .waiting 238 (blocks 475762 1)
     (s.aligns[(1 : Fin 4)]).mode = .waiting ∧ ∀ b ∈ (s.intakes[(1 : Fin 4)]).ring, slip b 238 = 4000) ∧
    (let s := sounding .waiting 1 (blocks 479999 1)
     (s.aligns[(1 : Fin 4)]).readPoint = 1 ∧ ∀ b ∈ (s.intakes[(1 : Fin 4)]).ring, slip b 1 = 0) ∧
    ∀ x ∈ [(479761, 0), (475761, 4000)],
      let s := sounding .waiting 239 (blocks x.1 1)
      (s.aligns[(1 : Fin 4)]).readPoint = 239 ∧ ∀ b ∈ (s.intakes[(1 : Fin 4)]).ring, slip b 239 = x.2 := by decide +kernel

/-- The head is 4,001 samples late; the target 480000 lies past the whole ring, before the block left, inside it, or on its last sample. -/
theorem witness_ResyncsAndUnderruns :
    (∀ mode ∈ [AlignMode.locked, .waiting],
      let s := sounding mode 0 (blocks 475999 1)
      s.inReset = false ∧ (∀ b ∈ blocks 475999 1, b.asp + 239 < 480000 ∧ 4000 < slip b 0)) ∧
    (∀ asp ∈ [480001, 480000, 479762, 479761], ∀ b ∈ blocks asp 1, 480000 ≤ b.asp + 239) ∧
    480000 < 480001 ∧ 480000 < 479762 + 239 ∧ 480000 = 479761 + 239 ∧
    (∀ b ∈ (((sounding .holdBack 0 (blocks 484001 1)).intakes[(1 : Fin 4)]).ring), slip b 0 = -4001) ∧
    ((sounding .catchUp 0 []).intakes[(1 : Fin 4)]).ring = [] ∧ ((sounding .catchUp 0 []).aligns[(1 : Fin 4)]).mode = .catchUp := by
  decide +kernel

/-- CATCH_UP with the read point at 239: the drop empties the ring, or the next block is 4,001 samples late or 4,001 early. -/
theorem witness_ResyncsAndUnderruns_drops :
    (∀ rest ∈ [[], blocks 475999 1, blocks 484001 1],
      let s := sounding .catchUp 239 (blocks 475000 1 ++ rest)
      (s.aligns[(1 : Fin 4)]).mode = .catchUp ∧ (s.aligns[(1 : Fin 4)]).readPoint = 239 ∧
        (s.intakes[(1 : Fin 4)]).ring ≠ [] ∧ (s.intakes[(1 : Fin 4)]).ring.tail = rest) ∧
    (∀ b ∈ blocks 475999 1, slip b 0 = 4001) ∧ ∀ b ∈ blocks 484001 1, slip b 0 = -4001 := by decide +kernel

/-- The call of `callPlaying` in the last block of its sequence, with two entries behind it and the sound up. -/
def mixing (lead sample : Nat) (window : Bool) : State :=
  let s := soundUp 0 callPlaying
  { s with
    dir := clips
    calls := upd s.calls 0 fun c => { c with
      callWindow := window, queue := [.announce [3], .orderCall 999]
      slot := c.slot.map fun q => { q with lead, block := 1, sample } } }

theorem witness_MixOfAnInstant :
    let q := fun lead sample : Nat => (callPlaying.calls[(0 : Fin 4)]).slot.map fun q => { q with lead, block := 1, sample }
    callPlaying.inReset = false ∧ ((callPlaying.calls[(0 : Fin 4)]).slot.map fun q => totalBlocks q.sequence) = some 2 ∧
      (∀ x ∈ [(0, 239), (0, 238), (1, 239)], let s := mixing x.1 x.2 true
        (s.calls[(0 : Fin 4)]).slot = q x.1 x.2 ∧ s.inReset = false) ∧
      (∀ open_ ∈ [false, true], let s := mixing 0 239 open_
        ((s.calls[(0 : Fin 4)]).callWindow = true ∧ (s.links[(0 : Fin 4)]).soundUp = true ∧ s.dir.reading = false ∧
          (s.calls[(0 : Fin 4)]).queue ≠ []) ↔ open_ = true) ∧
      (mixing 0 239 true).calls[(0 : Fin 4)].queue = [.announce [3], .orderCall 999] ∧
      (CallEntry.announce [3]).composed (mixing 0 239 true).dir ≠ [] ∧
      (∀ d ∈ [DuckState.up, .rampDown 479, .rampUp 32 478, .rampUp 32 479],
        let s := { mixing 0 0 true with calls := upd (mixing 0 0 true).calls 0 fun c => { c with slot := none, duckState := d } }
        (s.calls[(0 : Fin 4)]).slot = none ∧ (s.calls[(0 : Fin 4)]).duckState = d) ∧
      ∀ fill ∈ [1, 16], (owing fill (mixing 0 239 true)).owedNow 0 = [140] ∧
        ((owing fill (mixing 0 239 true)).calls[(0 : Fin 4)]).queue.length = fill := by decide +kernel

theorem witness_ClipRescan :
    taken ready 0x21 [] boothRoles ∧ ready.dir.reading = false ∧ (∀ j : ScreenId, (ready.calls[j]).slot = none) ∧
      taken callPlaying 0x21 [] boothRoles ∧ (callPlaying.calls[(0 : Fin 4)]).slot ≠ none ∧
      (let s := after (.clipRescan 0 1 []) ready
       s.dir.reading = true ∧ s.dir.rescan = some (0, 1)) := by decide +kernel

theorem witness_AnnouncementsAndWindows :
    let s : State := { ready with dir := { clips with entries := upd clips.entries 31 fun _ => none } }
    let full : State := { s with calls := upd s.calls 0 fun c => { c with queue := List.replicate 16 (.orderCall 7) } }
    let payload := fun ids : List (Fin 32) => u8 0 ++ u8 ids.length ++ (ids.map (·.val)).flatMap u8
    taken s 0x22 (payload [31]) boothRoles ∧ s.dir.entries[(31 : Fin 32)] = none ∧ taken s 0x22 (payload (List.replicate 8 30)) boothRoles ∧
      s.dir.entries[(30 : Fin 32)] ≠ none ∧ taken full 0x22 (payload [0]) boothRoles ∧ 16 ≤ (full.calls[(0 : Fin 4)]).queue.length ∧
      (s.calls[(0 : Fin 4)]).queue.length < 16 ∧ taken s 0x23 (u8 0 ++ (u16 256 ++ u16 0)) boothRoles ∧ taken s 0x25 (u8 0) boothRoles ∧
      taken s 0x26 (u8 0) [.booth, .kitchen, .service] ∧ taken s 0x27 (u8 0) [.booth, .kitchen, .service] := by decide +kernel

/-- A screen whose order call of order 999 may start as its window opens. -/
def callReady : State :=
  let s := soundUp 0 ready
  { s with dir := clips, calls := upd s.calls 0 fun c => { c with queue := [.orderCall 999] } }

/-- A call reading its second block, the first in its buffer. -/
def reading (live : Bool) : State :=
  let s := callPlaying
  { s with
    calls := upd s.calls 0 fun c => { c with slot := c.slot.map fun q => { q with buffer := [{ index := 0, samples := [] }], nextRead := 2 } }
    reader := { last := 0, inFlight := some { screen := 0, index := 1, start := 1240, count := 240, live := live } } }

theorem witness_CallStartAndClipReads :
    taken callReady 0x24 (u8 0) boothRoles ∧ (callReady.calls[(0 : Fin 4)]).callWindow = false ∧ (callReady.links[(0 : Fin 4)]).soundUp = true ∧
      callReady.dir.reading = false ∧ (callReady.calls[(0 : Fin 4)]).slot = none ∧ (callReady.calls[(0 : Fin 4)]).duckState = .up ∧
      (callReady.calls[(0 : Fin 4)]).queue = [.orderCall 999] ∧ (CallEntry.orderCall 999).composed callReady.dir ≠ [] ∧
      (let s : State := { callReady with
          dir := { clips with entries := upd clips.entries 31 fun _ => none }
          calls := upd callReady.calls 0 fun c => { c with queue := [.announce [31]] } }
       taken s 0x24 (u8 0) boothRoles ∧ (s.calls[(0 : Fin 4)]).queue = .announce [31] :: [] ∧
         (CallEntry.announce [31]).composed s.dir = [] ∧ s.orders.table = []) ∧
      taken callPlaying 0x24 (u8 0) boothRoles ∧ (callPlaying.calls[(0 : Fin 4)]).callWindow = true ∧
      (∀ live ∈ [false, true],
        (reading live).reader.inFlight = some { screen := 0, index := 1, start := 1240, count := 240, live := live } ∧
          (List.replicate 480 0#8).length = 2 * 240 ∧ (((reading live).calls[(0 : Fin 4)]).slot.map (·.block)) = some 0) ∧
      ready.reader.inFlight = none := by decide +kernel

/-- The owed fill of an opening window, with a call that can start and without. -/
theorem witness_CallStartAndClipReads_owedFill :
    ∀ fill ∈ [0, 15, 16], ∀ s ∈ [owing fill callReady, owing fill ready],
      taken s 0x24 (u8 0) boothRoles ∧ (s.calls[(0 : Fin 4)]).callWindow = false ∧ s.owedNow 0 = [140] ∧
        (s.calls[(0 : Fin 4)]).queue.length = fill := by decide +kernel

/-- The grant that follows a completion: the reader served screen 0 last, the calls of screens 0 and 1 ask, their next blocks the last of
their first clip and the first of their second; or the directory is being read; or no call asks. -/
theorem witness_CallStartAndClipReads_grant :
    let first : SeqClip := { id := 12, clip := { start := 1000, length := 600 } }
    let second : SeqClip := { id := 10, clip := { start := 9000, length := 240 } }
    let call := fun next : Nat => (callPlaying.calls[(0 : Fin 4)]).slot.map fun q => { q with sequence := [first, second], nextRead := next }
    let s : State := { reading false with
      calls := upd (upd (reading false).calls 0 fun c => { c with slot := call 2 }) 1 (fun c => { c with slot := call 3 }) }
    let blocks := fun x : SeqClip => (x.clip.length + 239) / 240
    let asks := fun q : Playing => q.readPending || decide (q.buffer.length < 2 ∧ q.nextRead < (q.sequence.map blocks).sum)
    s.dir.reading = false ∧ s.reader.last = 0 ∧ s.reader.inFlight.map (·.live) = some false ∧
      (s.calls[(0 : Fin 4)]).slot.map asks = some true ∧ (s.calls[(1 : Fin 4)]).slot.map asks = some true ∧
      2 < blocks first ∧ 2 = (([] : List SeqClip).map blocks).sum + 2 ∧ 3 = ([first].map blocks).sum + 0 ∧ 0 < blocks second ∧
      ((reading false).calls[(0 : Fin 4)]).slot.map asks = some false ∧
      { reading false with dir := { clips with reading := true } }.dir.reading = true := by decide +kernel

/-- A link in a state with a number of sends unanswered, its latest send standing UNANSWERED with a number, both timers running. -/
def link (state : LinkState) (unanswered : Nat) (number : Byte) : State :=
  ready.modLink 0 fun k =>
    { k with
      state := state, unanswered := unanswered, latest := some (number, false), ackTimer := some 25, refreshTimer := some 1000
      last := some { carrier := true, fault := false }, soundUp := decide (state = .up) }

theorem witness_SettingsCycles :
    let payload := u8 0 ++ flagByte true ++ flagByte false ++ u8 100
    taken (link .up 3 9) 0x2A payload boothRoles ∧ taken (link .up 4 9) 0x2A payload boothRoles ∧ taken (link .down 0 9) 0x2A payload boothRoles ∧
      ((link .up 4 9).links[(0 : Fin 4)]).settings ≠ { mute := true, mono := false, deviation := 100 } ∧
      (let same := (link .up 4 9).modLink 0 fun k => { k with settings := { mute := true, mono := false, deviation := 100 } }
       taken same 0x2A payload boothRoles ∧ (same.links[(0 : Fin 4)]).settings = { mute := true, mono := false, deviation := 100 }) ∧
      ((link .up 4 9).links[(0 : Fin 4)]).refreshTimer ≠ none ∧ (State.reset.links[(0 : Fin 4)]).refreshTimer = none ∧
      (Collector.idle.hear ((line 0x90 9 1).take 3) = .collecting [0x90#8, 9#8]) ∧ Collector.idle.hear [.byte 0#8] = .idle ∧
      Collector.ignoring.hear [.byte 0xE7#8] = .ignoring := by decide +kernel

theorem witness_ExciterAcks :
    (∀ x ∈ [LinkState.down, .up, .lost],
      ((link x 1 255).links[(0 : Fin 4)]).latest = some (255, false) ∧ ((link x 1 255).links[(0 : Fin 4)]).state = x ∧
        (∀ n ∈ [0#8, 255#8], ∀ flags ∈ [0#8, 1#8, 2#8, 3#8, 255#8],
          ((link x 1 255).links[(0 : Fin 4)]).collector.ends (line 0x90 n flags) = some (.idle, .ack n flags)) ∧
        ((link x 1 255).links[(0 : Fin 4)]).collector.ends [.byte 0xE7#8] = none) ∧
    ((link .up 1 255).links[(0 : Fin 4)]).latest ≠ some (0, false) ∧ ((link .up 1 255).links[(0 : Fin 4)]).soundUp = true ∧
    (∀ t ∈ [({ carrier := false, fault := false } : ExciterStatus), { carrier := true, fault := true }],
      let down := (link .up 1 255).modLink 0 fun k => { k with last := some t, soundUp := false }
      (down.links[(0 : Fin 4)]).soundUp = false ∧ (down.links[(0 : Fin 4)]).last = some t) ∧
    (let s := cutLine
     (s.links[(0 : Fin 4)]).state = .up ∧ (s.links[(0 : Fin 4)]).soundUp = true ∧ (s.links[(0 : Fin 4)]).latest = some (43, false) ∧
       (s.shows[(0 : Fin 4)]).state = .running ∧ (s.shows[(0 : Fin 4)]).settings.holdOnLoss = true) := by decide +kernel

theorem witness_LinkTimersAndMessages :
    (∀ n ∈ [0, 3, 4], ((link .up n 9).links[(0 : Fin 4)]).ackTimer ≠ none ∧ ((link .up n 9).links[(0 : Fin 4)]).state = .up ∧
      ((link .up n 9).links[(0 : Fin 4)]).unanswered = n) ∧
    ((link .lost 4 9).links[(0 : Fin 4)]).state ≠ .up ∧ (State.reset.links[(0 : Fin 4)]).ackTimer = none ∧
    (∀ m ∈ [LineMessage.settings 9 { mute := false, mono := true, deviation := 75 }, .statusAck 4],
      (((link .up 1 9).modLink 0 fun k => { k with leaving := some m }).links[(0 : Fin 4)]).leaving = some m) ∧
    (∀ flags ∈ [0#8, 1#8, 3#8], ((link .up 1 9).links[(0 : Fin 4)]).collector.ends (line 0x91 4 flags) = some (.idle, .status 4 flags)) ∧
    ((link .up 1 9).links[(0 : Fin 4)]).collector.ends [.byte 0xE7#8, .byte 0#8] = some (.ignoring, .bad) ∧
    ((link .up 1 9).links[(0 : Fin 4)]).collector.ends [.byte 0xE7#8, .silence] = some (.idle, .bad) := by decide +kernel

/-- The clauses of the collection: what precedes a message, its kinds and checks, and inputs that end none. -/
theorem witness_LinkTimersAndMessages_collection :
    (∀ x ∈ [LineInput.silence, .byte 0#8, .byte 0x90#8], x ≠ .byte 0xE7#8) ∧
      (∀ kind ∈ [0x90#8, 0x91#8], checkBytes [kind, 1#8, 3#8] ≠ [0#8, 0#8] ∧
        checkBytes [kind, 1#8, 3#8] = [(checkBytes [kind, 1#8, 3#8]).headD 0, (checkBytes [kind, 1#8, 3#8]).getLastD 0]) ∧
      ¬(0x8F#8 = 0x90#8 ∨ 0x8F#8 = 0x91#8) ∧ ¬(0x92#8 = 0x90#8 ∨ 0x92#8 = 0x91#8) ∧
      (∀ k ≤ 5, Collector.idle.ends ((line 0x90 1 3).take k) = none) := by decide +kernel

/-- A kitchen queue of a length with the ticket 5 of screen 0 alive, its order window OPEN. -/
def kitchen (fill openOrders : Nat) : State :=
  { ready with
    tickets := [{ ticket 5 0 0 (.present .car 0) .paid with openOrders := openOrders }]
    calls := upd ready.calls 0 fun c => { c with orderWindow := true }
    orders := { OrderUnit.reset with
      seq := 999, kitchen := List.replicate fill 500, settings := { OrderUnit.reset.settings with high := 48, low := 0 }
      table := [order 999 5 0 .queued, order 1 5 0 (.ready 3)] } }

theorem witness_PlaceOrder :
    let settings := fun k : KitchenSettings => u8 k.high ++ u8 k.low ++ u16 k.unitSeconds ++ u16 k.recallInterval ++ u8 k.maxCalls
    let payload := fun n pickup : Nat => u16 n ++ u8 pickup ++ u8 15 ++ u8 255
    let roles : List Role := [.gate, .kitchen, .service]
    let free := fun (s : State) (number : Nat) => (∀ o ∈ s.orders.table, o.number ≠ number) ∧
      ∀ i : ScreenId, ∀ q ∈ (s.calls[i]).slot, q.entry ≠ .orderCall number
    taken ready 0x2C (settings { high := 1, low := 0, unitSeconds := 1, recallInterval := 60, maxCalls := 1 }) kitchenRoles ∧
      taken ready 0x2C (settings { high := 48, low := 47, unitSeconds := 60, recallInterval := 900, maxCalls := 4 }) kitchenRoles ∧
      taken (kitchen 0 3) 0x30 (payload 6 0) roles ∧ (kitchen 0 3).ticket? 6 = none ∧
      (∀ openOrders ∈ [3, 4], taken (kitchen 0 openOrders) 0x30 (payload 5 1) roles ∧
        ((kitchen 0 openOrders).ticket? 5).map (·.openOrders) = some openOrders) ∧
      (ready.calls[(0 : Fin 4)]).orderWindow = false ∧ taken (kitchen 48 3) 0x30 (payload 5 0) roles ∧
      (∀ fill ∈ [0, 47, 48], (kitchen fill 3).orders.kitchen.length = fill ∧ (kitchen fill 3).orders.settings.high = 48) ∧
      (∀ k < 2, ¬free (kitchen 0 3) ((999 - 1 + k) % 999 + 1)) ∧ free (kitchen 0 3) ((999 - 1 + 2) % 999 + 1) ∧
      (kitchen 0 3).orders.table.length < 256 ∧
      256 ≤ { (kitchen 0 3).orders with table := List.replicate 256 (order 9 5 0 .cooking) }.table.length := by decide +kernel

theorem witness_TakeAndMarkReady :
    let one : State := { kitchen 0 3 with orders := { (kitchen 0 3).orders with kitchen := [999] } }
    taken one 0x2D [] kitchenRoles ∧ one.orders.kitchen = [999] ∧ one.order? 999 = some (order 999 5 0 .queued) ∧
      (∀ r ∈ one.orders.table, r.number ≠ 999 → r.isPending = false) ∧ taken ready 0x2D [] kitchenRoles ∧ ready.orders.kitchen = [] ∧
      (rush.orders.kitchen = 97 :: rush.orders.kitchen.tail ∧ rush.order? 97 = some (order 97 5 2 .queued) ∧
        (rush.orders.table.map (·.number)).Nodup ∧ (0 : ScreenId) = rush.orders.pointer + 1 + 0 ∧
        rush.orders.table = [order 97 5 2 .queued, order 149 5 1 (.held true)] ++ order 151 5 0 (.held true) :: [order 152 5 1 (.held true)] ∧
        (∀ q ∈ [order 97 5 2 .queued, order 149 5 1 (.held true)], q.screen = 0 → q.isPending = false)) ∧
      taken rush 0x2D [] kitchenRoles ∧ taken one 0x2E (u16 999) kitchenRoles ∧ one.order? 998 = none ∧
      (∀ calls ∈ [15, 16],
        let s : State := { one with
          orders := { one.orders with table := [order 999 5 0 .cooking] }
          calls := upd one.calls 0 fun c => { c with queue := List.replicate calls (.orderCall 7) } }
        s.order? 999 = some (order 999 5 0 .cooking) ∧ (s.calls[(0 : Fin 4)]).hasCallOf 999 = false ∧
          (s.calls[(0 : Fin 4)]).queue.length = calls) := by decide +kernel

/-- MARK_READY of an order whose screen can start a call, another order of it owed, and of one whose call stands in the queue. -/
theorem witness_TakeAndMarkReady_calls :
    let s : State := { callReady with
      orders := { OrderUnit.reset with table := [order 998 5 0 .cooking, { order 140 5 0 (.ready 7) with owed := true }], shelf := [140] }
      calls := upd callReady.calls 0 fun c => { c with queue := [], callWindow := true } }
    taken s 0x2E (u16 998) kitchenRoles ∧ s.order? 998 = some (order 998 5 0 .cooking) ∧ (s.links[(0 : Fin 4)]).soundUp = true ∧
      s.dir.reading = false ∧ (s.calls[(0 : Fin 4)]).slot = none ∧ (s.calls[(0 : Fin 4)]).duckState = .up ∧
      (CallEntry.orderCall 998).composed s.dir ≠ [] ∧ s.owedNow 0 = [140] ∧
      ({ s.calls[(0 : Fin 4)] with queue := [.orderCall 998] } : CallUnit).hasCallOf 998 = true := by decide +kernel

/-- One order QUEUED and one READY, the low level 0. -/
def shop : State := { kitchen 0 3 with orders := { (kitchen 0 3).orders with kitchen := [999], shelf := [1] } }

/-- A ticket that goes with its orders: QUEUED and READY ones of a PRESENT ticket, a COOKING one of a PENDING ticket of an ARMED lane. -/
theorem witness_DepartOfAPresentTicket_orders :
    shop.bookLaws ∧ taken shop 0x02 (u16 5) gateRoles ∧ (shop.ticket? 5).map (·.state) = some (.present .car 0) ∧
      (shop.orders.table.filter (·.ticket == 5)).length = 2 :=
  ⟨bookLaws_of_booksOk (by decide +kernel), by decide +kernel⟩

theorem witness_VoidsByTheLane_orders :
    let s : State := { armed57 with orders := { OrderUnit.reset with table := [order 1 57 3 .cooking] } }
    s.bookLaws ∧ (s.entry[(2 : Fin 4)]).state = .armed ∧ (s.entry[(2 : Fin 4)]).admission = some 57 ∧
      s.ticket? 57 = some (ticket 57 3 2 .pending .paid) :=
  ⟨bookLaws_of_booksOk (by decide +kernel), by decide +kernel⟩

/-- 48 orders QUEUED, three release pending. -/
def fullRush : State :=
  let queued := 97 :: (List.range 47).map (· + 200)
  { rush with orders := { rush.orders with
      table := [order 149 5 1 (.held true), order 151 5 0 (.held true), order 152 5 1 (.held true)] ++ queued.map fun n => order n 5 2 .queued
      kitchen := queued } }

theorem witness_CollectAndCancel :
    taken shop 0x2F (u16 1) kitchenRoles ∧ shop.order? 1 = some (order 1 5 0 (.ready 3)) ∧
      taken shop 0x2F (u16 999) kitchenRoles ∧ shop.order? 999 = some (order 999 5 0 .queued) ∧
      shop.order? 2 = none ∧ taken shop 0x31 (u16 999) [.gate, .kitchen, .service] ∧ shop.bookLaws ∧
      (∀ r ∈ shop.orders.table, r.isPending = false) ∧ shop.orders.settings.low < shop.orders.kitchen.length ∧
      shop.orders.kitchen.filter (· != 999) = [] :=
  ⟨by decide +kernel, by decide +kernel, by decide +kernel, by decide +kernel, by decide +kernel, by decide +kernel,
    bookLaws_of_booksOk (by decide +kernel), by decide +kernel⟩

/-- A QUEUED order cancelled with three release pending, of screens 0 and 1, the pointer at 3. -/
theorem witness_CollectAndCancel_service :
    fullRush.bookLaws ∧ fullRush.order? 97 = some (order 97 5 2 .queued) ∧ taken fullRush 0x31 (u16 97) [.gate, .kitchen, .service] ∧
      (0 : ScreenId) = fullRush.orders.pointer + 1 + 0 ∧
      fullRush.orders.table = [order 149 5 1 (.held true)] ++ order 151 5 0 (.held true) ::
        (order 152 5 1 (.held true) :: (97 :: (List.range 47).map (· + 200)).map fun n => order n 5 2 .queued) ∧
      (∀ q ∈ [order 149 5 1 (.held true)], q.screen = 0 → q.isPending = false) :=
  ⟨bookLaws_of_booksOk (by decide +kernel), by decide +kernel⟩

theorem witness_LampsAndBlink :
    (∀ l ∈ [({ source := .cueLamp 3 3, invert := true, blink := .fast } : Lamp), { source := .off, invert := false, blink := .steady },
        { source := .laneLong 3, invert := false, blink := .slow }],
      taken ready 0x34 (u8 11 ++ l.source.byte ++ flagByte l.invert ++
        u8 (match l.blink with | .steady => 0 | .slow => 1 | .fast => 2) ++ l.source.indexBytes.getD []) boothRoles ∧
      ({ ready with lamps := upd ready.lamps 11 fun _ => l }.lamps[(11 : Fin 12)]) = l) ∧
    State.reset.blink = none ∧ { ready with blink := some 7 }.blink = some 7 := by decide +kernel

theorem witness_EventRequests :
    let listed := fun kinds : List EventKind => u8 kinds.length ++ kinds.flatMap fun k => u8 k.index.val
    taken ready 0x36 [] anyRole ∧ taken ready 0x37 (listed [.kitchenWork, .kitchenWork]) anyRole ∧ ¬[EventKind.kitchenWork, .kitchenWork].Nodup ∧
      taken ready 0x37 (listed eventKinds) anyRole ∧ eventKinds.Nodup ∧ taken ready 0x37 (u8 1 ++ [21#8]) anyRole ∧
      taken ready 0x38 (([0, 1, 2, 3] : List (Fin 4)).flatMap fun _ => u8 0) anyRole := by decide +kernel

theorem witness_BytesAndLines :
    (∀ fill ∈ [255, 256, 190, 191],
      ((withPorts fun q => { q with rx := List.replicate fill (.byte 1#8) }).ports[(0 : Fin 3)]).rx.countP RxItem.isByte = fill) ∧
    (∀ last ∈ [false, true], let q := (withPorts fun q => { q with gapTimer := some 5, lastBreak := last }).ports[(0 : Fin 3)]
      q.gapTimer ≠ none ∧ q.lastBreak = last) ∧
    ((withPorts fun q => { q with tx := [1#8], sending := true }).ports[(0 : Fin 3)]).sending = true ∧
    (ready.ports[(0 : Fin 3)]).sending = false := by decide +kernel

theorem witness_ParserTakes :
    let at_ := fun (parser : Parser) (rx : List RxItem) => (withPorts fun q => { q with parser := parser, rx := rx }).ports[(0 : Fin 3)]
    State.reset.startup = true ∧ ((withPorts fun q => { q with held := some ⟨2, 9, []⟩ }).ports[(0 : Fin 3)]).held ≠ none ∧
      ready.startup = false ∧ (ready.ports[(0 : Fin 3)]).held = none ∧ (ready.ports[(0 : Fin 3)]).rx = [] ∧
      (∀ parser ∈ [Parser.hunt, .length, .body 2 []], ∀ x ∈ [RxItem.mark, .byte 0xC3#8, .byte 2#8, .byte 250#8, .byte 1#8, .byte 251#8],
        (at_ parser [x]).rx = [x] ∧ (at_ parser [x]).parser = parser) ∧
      (let got := 0x36#8 :: 7#8 :: [] ++ ((checkBytes [2#8, 0x36#8, 7#8]).take 1)
       (at_ (.body 2 got) [.byte 0#8]).parser = .body 2 got ∧ got.length = 3 ∧
         checkBytes (u8 2 ++ 0x36#8 :: 7#8 :: []) = (checkBytes [2#8, 0x36#8, 7#8]).take 1 ++ (checkBytes [2#8, 0x36#8, 7#8]).drop 1 ∧
         (checkBytes [2#8, 0x36#8, 7#8]).length = 2) := by decide +kernel

theorem witness_ResetAndStartup :
    State.reset.inReset = true ∧ (let s : State := { State.reset with inReset := false }
      s.startup = true ∧ s.inReset = false) ∧
    ∀ c ∈ [Collector.idle, .collecting [0x90#8]],
      let s : State := { State.reset with links := State.reset.links.map fun k => { k with collector := c } }
      s.inReset = true ∧ ∀ i : ScreenId, s.links[i] = { State.reset.links[i] with collector := (s.links[i]).collector } := by decide +kernel

theorem witness_ScreenQueries :
    let s := intermission
    taken s 0x19 (u8 1) anyRole ∧ taken s 0x1D (u8 1 ++ u8 0) anyRole ∧ taken s 0x1D (u8 1 ++ u8 63) anyRole ∧ taken s 0x1F (u8 1) anyRole ∧
      taken s 0x20 (u8 1) anyRole := by decide +kernel

theorem witness_OtherQueries :
    let s := kitchen 0 3
    taken s 0x28 (u8 0) anyRole ∧ taken s 0x29 [] anyRole ∧ taken s 0x2B (u8 0) anyRole ∧ taken s 0x32 (u16 999) anyRole ∧
      s.order? 999 = some (order 999 5 0 .queued) ∧ taken s 0x32 (u16 2) anyRole ∧ s.order? 2 = none ∧ taken s 0x33 [] anyRole ∧
      taken s 0x35 [] anyRole ∧ taken s 0x39 (u8 2) anyRole ∧ taken s 0x39 (u8 0) anyRole ∧ ∀ n : PortId, ((s.taken 0).ports[n]).held = none := by
  decide +kernel

/-! The laws hold, and a step is taken, in states of a night under way. -/

theorem witness_LaneLawsAreKept : armed57.laneLaws ∧ ∃ t, step { armed57 with pending := [.entryLoopRise 2] } = .next t := by
  refine ⟨?_, _, rfl⟩
  unfold State.laneLaws EntryLane.armLaw EntryLane.admissionLaw
  decide +kernel

theorem witness_ScreenLawsAreKept :
    (heldForSound true).showLaws ∧ (showing 0 .running ⟨65535, 23⟩ 166668).clockLaws ∧ (showing 0 .running ⟨1, 0⟩ 0).delayLaws ∧
      ∃ t, step { heldForSound true with pending := [.stallTimerExpiry 0] } = .next t := by
  refine ⟨?_, ?_, ?_, _, rfl⟩
  · unfold State.showLaws Show.pauseLaw Show.reasonLaw
    decide +kernel
  · unfold State.clockLaws Show.clockLaw Show.monitorLaw
    decide +kernel
  · unfold State.delayLaws delayLaw
    decide +kernel

theorem witness_StoreLawsAreKept :
    intermission.clockLaws ∧ intermission.cueLaws ∧ intermission.cursorLaws ∧ rush.queueLaws ∧ fullRush.bookLaws ∧
      ∃ t, step { intermission with pending := [.framePulse 1 41667] } = .next t := by
  refine ⟨?_, ?_, ?_, ?_, bookLaws_of_booksOk (by decide +kernel), _, rfl⟩
  · unfold State.clockLaws Show.clockLaw Show.monitorLaw
    decide +kernel
  · unfold State.cueLaws cueLaw
    decide +kernel
  · unfold State.cursorLaws cursorLaw
    decide +kernel
  · unfold State.queueLaws OrderUnit.kitchenLaw CallUnit.queueLaw
    decide +kernel

/-- A ring at its fullest, each block 240 samples after the one before. -/
theorem witness_StoreLawsAreKept_ringLaws : (intake 32 true).ringLaws := by
  intro i
  have h : ∀ i : ScreenId, ((intake 32 true).intakes[i]).ring.length ≤ 32 ∧
      ((intake 32 true).intakes[i]).ring.Pairwise (fun a b => a.asp + 240 ≤ b.asp) ∧
      ∀ b ∈ ((intake 32 true).intakes[i]).ring, ((intake 32 true).intakes[i]).lastAccepted = some 7440 ∧ b.asp ≤ 7440 := by decide +kernel
  exact ⟨(h i).1, (h i).2.1, fun b hb => ⟨7440, (h i).2.2 b hb⟩⟩

theorem witness_SignalLawsAreKept :
    (withPorts fun q => { q with rx := List.replicate 192 (.byte 1#8), holdOut := true }).fifoLaws ∧
      ∃ t, step { ready with pending := [.parserTake 0] } = .next t := by
  refine ⟨?_, _, rfl⟩
  unfold State.fifoLaws Port.fifoLaw
  decide +kernel

/-- SOUND_UP true on one link and false on the others. -/
theorem witness_SignalLawsAreKept_soundLaws : (soundUp 0 ready).soundLaws := by
  intro i
  have h : ∀ i : ScreenId, ((soundUp 0 ready).links[i]).soundUp = true → ((soundUp 0 ready).links[i]).state = .up ∧
      ((soundUp 0 ready).links[i]).last = some { carrier := true, fault := false } := by decide +kernel
  have h' : ∀ i : ScreenId, ((soundUp 0 ready).links[i]).state = .up → ((soundUp 0 ready).links[i]).soundUp = true := by decide +kernel
  exact ⟨fun e => ⟨(h i e).1, _, (h i e).2, rfl, rfl⟩, fun e => h' i e.1⟩

/-- An attention line asserted by a PENDING flag. -/
theorem witness_SignalLawsAreKept_attentionLaws : (ready.post .tailgate (.entryLane 1)).attentionLaws := by
  intro p
  have kinds : ∀ k : EventKind, k ∈ eventKinds := fun k => by cases k <;> decide
  have h : ∀ p : PortId, (((ready.post .tailgate (.entryLane 1)).ports[p]).attention = true) ∧
      ((ready.post .tailgate (.entryLane 1)).ports[p]).mask[EventKind.tailgate.cls] = true ∧
      (((ready.post .tailgate (.entryLane 1)).ports[p]).flag .tailgate).state ≠ .clear := by decide +kernel
  have law : ∀ p : PortId, ∀ k ∈ eventKinds,
      let f := ((ready.post .tailgate (.entryLane 1)).ports[p]).flag k
      (f.state = .clear ↔ f.detail = Option.none) ∧ (f.state = .clear → f.count = 0) ∧ f.count ≤ 255 := by decide +kernel
  exact ⟨⟨fun _ => ⟨.tailgate, (h p).2⟩, fun _ => (h p).1⟩, fun k => law p k (kinds k)⟩

/-- The gate before an admission keeps the laws of tickets and orders, with an order of the PRESENT ticket. -/
def gateWithOrder : State :=
  { gate with
    tickets := [{ ticket 5 3 0 (.present .long 60) (.pass 200) with openOrders := 1 }]
    zones := upd gate.zones 3 fun z => { z with pending := 0 }
    orders := { OrderUnit.reset with table := [order 1 5 3 .cooking] } }

theorem witness_GateLawsAreKept : gateWithOrder.laneLaws ∧ gateWithOrder.ticketLaws ∧ gateWithOrder.orderLaws ∧ gateWithOrder.passLaws ∧
    ∃ t, step { gateWithOrder with pending := [.entryLoopRise 2] } = .next t := by
  refine ⟨?_, ⟨by decide +kernel, ?_, ?_, ?_, by decide +kernel⟩, ?_, ⟨by decide, by decide, by decide, fun n => ?_⟩, _, rfl⟩
  · unfold State.laneLaws EntryLane.armLaw EntryLane.admissionLaw
    decide +kernel
  · intro n h
    have e : gateWithOrder.nextTicket = some 57 := by decide +kernel
    rw [e] at h
    cases h
    decide +kernel
  · intro n k h
    have e : ∀ n : LaneId, (gateWithOrder.entry[n]).admission = none := by decide +kernel
    rw [e n] at h
    cases h
  · unfold State.zoneLaw
    decide +kernel
  · unfold State.orderLaws
    decide +kernel
  · show ([200].contains n) = true ↔ n ∈ [200]
    simp

end Sys2Proof.Tests
end

/-! The zone settings of the Admission Table: SET_ZONE (R17), ENTRY_OPEN and ENTRY_CLOSE (R18). -/

namespace Sys2Proof.Machine

/-! ### Fields out of range -/

theorem within_eq_none {lo hi v : Nat} (h : hi < v) : within lo hi v = none := if_neg (by omega)

theorem index_eq_none {n : Nat} {b : Byte} (h : n ≤ b.toNat) : index? n b = none := dif_neg (by omega)

theorem indexArg_eq_none {n : Nat} {b : Byte} (h : n ≤ b.toNat) : indexArg n [b] = none := index_eq_none h

/-- A SET_ZONE with either field out of its range names no arguments. -/
theorem setZoneArgs_eq_none {screen hi lo : Byte} (h : 4 ≤ screen.toNat ∨ 2048 < hi.toNat * 256 + lo.toNat) :
    setZoneArgs [screen, hi, lo] = none := by
  rcases h with hscreen | hcapacity
  · simp [setZoneArgs, index_eq_none hscreen]
  · have hw : within 0 2048 (word16 hi lo) = none := within_eq_none hcapacity
    simp [setZoneArgs, hw]

/-! ### The sum of the capacities and the full mark -/

theorem sum4_eq_list_sum (v : Vector Nat 4) : sum4 v = (([0, 1, 2, 3] : List (Fin 4)).map fun j => v[j]).sum := by
  simp [sum4, Nat.add_assoc]

/-- The sum that R17 bounds, over the screens one by one. -/
theorem State.capacityWith_eq_sum (i : ScreenId) (capacity : Nat) (s : State) :
    s.capacityWith i capacity =
      (([0, 1, 2, 3] : List ScreenId).map fun j => if j = i then capacity else (s.zones[j]).capacity).sum := by
  have place : ∀ j : ScreenId, (upd (s.zones.map (·.capacity)) i fun _ => capacity)[j] =
      if j = i then capacity else (s.zones[j]).capacity := by
    intro j
    rw [upd_get]
    simp [eq_comm]
  simp only [State.capacityWith, sum4_eq_list_sum, place]

/-- The full mark rises when the zone was not full before and is full now; then, and only then, ZONE_FULL is posted (R6). -/
theorem State.postFullRise_eq_postIf (before : Zone) (i : ScreenId) (s : State) :
    s.postFullRise before.full i =
      State.postIf (before.occupancy ≠ before.capacity ∧ (s.zones[i]).occupancy = (s.zones[i]).capacity) .zoneFull (.screen i) s := by
  have hrise : (!before.full && (s.zones[i]).full) =
      decide (before.occupancy ≠ before.capacity ∧ (s.zones[i]).occupancy = (s.zones[i]).capacity) := by
    simp [Zone.full, Bool.beq_eq_decide_eq]
  simp only [State.postFullRise, State.postIf, hrise]

/-! ### SET_ZONE (R17) at the Admission Table -/

theorem State.setZoneBody_of_occupied {i : ScreenId} {capacity : Nat} {s : State} (h : capacity < (s.zones[i]).occupancy) :
    s.setZoneBody (i, capacity) = (s, .refuse .zoneOccupied) := if_pos h

theorem State.setZoneBody_of_sum {i : ScreenId} {capacity : Nat} {s : State} (h : (s.zones[i]).occupancy ≤ capacity)
    (hsum : 2048 < s.capacityWith i capacity) : s.setZoneBody (i, capacity) = (s, .refuse .range) :=
  (if_neg (Nat.not_lt.2 h)).trans (if_pos hsum)

theorem State.setZoneBody_accepted {i : ScreenId} {capacity : Nat} {s : State} (h : (s.zones[i]).occupancy ≤ capacity)
    (hsum : s.capacityWith i capacity ≤ 2048) :
    s.setZoneBody (i, capacity) =
      (State.postIf ((s.zones[i]).occupancy ≠ (s.zones[i]).capacity ∧ (s.zones[i]).occupancy = capacity) .zoneFull (.screen i)
        (s.modZone i fun z => { z with capacity := capacity }), .ok (u16 capacity ++ u16 (s.zones[i]).occupancy)) := by
  have hzone : ((s.modZone i fun z => { z with capacity := capacity }).zones[i]) = { s.zones[i] with capacity := capacity } :=
    upd_get_self _ _ _
  have hocc : ({ s.zones[i] with capacity := capacity } : Zone).occupancy = (s.zones[i]).occupancy := rfl
  refine (if_neg (Nat.not_lt.2 h)).trans ((if_neg (Nat.not_lt.2 hsum)).trans ?_)
  dsimp only
  rw [State.postFullRise_eq_postIf, hzone, hocc]

/-! ### The three requests -/

/-- SET_ZONE with a field out of its range: RANGE. -/
theorem exec_setZone_range {p : PortId} {tag screen hi lo : Byte} {s : State}
    (ha : s.accepts p ⟨0x04, tag, [screen, hi, lo]⟩ [.gate, .service] = true)
    (h : 4 ≤ screen.toNat ∨ 2048 < hi.toNat * 256 + lo.toNat) :
    exec (.setZone p tag [screen, hi, lo]) s = .next ((s.taken p).refusedWith p 0x04 tag .range) :=
  serve_range ha rolesG_of_contains rfl (setZoneArgs_eq_none h)

/-- SET_ZONE with its fields in range: the Admission Table's handling and its reply. -/
theorem exec_setZone_body {p : PortId} {tag : Byte} {i : ScreenId} {capacity : Nat} {s : State}
    (ha : s.accepts p ⟨0x04, tag, u8 i.val ++ u16 capacity⟩ [.gate, .service] = true) (h : capacity ≤ 2048) :
    exec (.setZone p tag (u8 i.val ++ u16 capacity)) s =
      .next (((s.taken p).setZoneBody (i, capacity)).1.answer p 0x04 tag ((s.taken p).setZoneBody (i, capacity)).2) :=
  serve_ranged ha rolesG_of_contains rfl (setZoneArgs_payload i h)

/-- ENTRY_OPEN and ENTRY_CLOSE of a screen out of its range: RANGE. -/
theorem serve_setEntry_range {p : PortId} {code tag screen : Byte} (isOpen : Bool) {s : State}
    (ha : s.accepts p ⟨code, tag, [screen]⟩ [.gate, .service] = true) (h : 4 ≤ screen.toNat) :
    serve p code tag [screen] rolesG (lengthIs 1) (ranged (indexArg 4) (State.setEntryBody isOpen)) s =
      .next ((s.taken p).refusedWith p code tag .range) :=
  serve_range ha rolesG_of_contains rfl (indexArg_eq_none h)

/-- ENTRY_OPEN and ENTRY_CLOSE set the entry of their screen's zone, and answer the setting now in force. -/
theorem serve_setEntry {p : PortId} {code tag : Byte} {i : ScreenId} (isOpen : Bool) {s : State}
    (ha : s.accepts p ⟨code, tag, u8 i.val⟩ [.gate, .service] = true) :
    serve p code tag (u8 i.val) rolesG (lengthIs 1) (ranged (indexArg 4) (State.setEntryBody isOpen)) s =
      .next (State.replied p code tag (enumByte openClosed isOpen)
        { s.taken p with zones := upd s.zones i fun z => { z with isOpen := isOpen } }) :=
  serve_ranged ha rolesG_of_contains rfl (indexArg_u8 i (by omega))

/-- Settles O12, by the equations of the Admission Table's handling, each carried to its request through `serve`. -/
theorem zoneSettings : Obligations.ZoneSettings := by
  unfold Obligations.ZoneSettings
  intro p tag i capacity s z
  refine ⟨fun _ _ _ => exec_setZone_range,
    fun screen hscreen => ⟨fun ha => serve_setEntry_range true ha hscreen, fun ha => serve_setEntry_range false ha hscreen⟩,
    fun ha hrange => ?_, serve_setEntry true, serve_setEntry false⟩
  intro sum
  have hsum : (s.taken p).capacityWith i capacity = sum := State.capacityWith_eq_sum i capacity s
  refine ⟨fun hocc => ?_, fun hocc hover => ?_, fun hocc hfits => ?_⟩ <;> rw [exec_setZone_body ha hrange]
  · rw [State.setZoneBody_of_occupied (s := s.taken p) hocc]
    rfl
  · rw [State.setZoneBody_of_sum (s := s.taken p) hocc (hsum ▸ hover)]
    rfl
  · rw [State.setZoneBody_accepted (s := s.taken p) hocc (hsum ▸ hfits)]
    rfl

end Sys2Proof.Machine

/-! The law of R28: every step moves the gate of an entry lane as a lane may, and no such move breaks the law. -/

namespace Sys2Proof.Machine

/-! ### The gate of a lane and its moves -/

/-- What R28 speaks of in an entry lane: state, admission, admitted passage flag, arm. -/
structure LaneGate where
  state     : EntryState
  admission : Option Nat
  admitted  : Bool
  arm       : Arm

/-- The gate of an entry lane. -/
def EntryLane.gate (l : EntryLane) : LaneGate := ⟨l.state, l.admission, l.admitted, l.arm⟩

/-- The gates of the four entry lanes. -/
def State.gate (s : State) (n : LaneId) : LaneGate := (s.entry[n]).gate

/-- R28 and R25 for one gate: the arm and the admission as the state gives them. -/
def LaneGate.Lawful (g : LaneGate) : Prop :=
  (g.arm = .raised ↔ g.state = .armed ∨ (g.state = .passing ∧ g.admitted = true) ∨ g.state = .stuck) ∧
    (g.admission.isSome = true ↔ g.state = .armed ∨ (g.state = .passing ∧ g.admitted = true))

/-- What one step can do to a gate, a constructor for each transition of the Lane Unit. -/
inductive LaneGate.Move (g : LaneGate) : LaneGate → Prop where
  /-- No transition. -/
  | stays : Move g g
  /-- LANE_OPEN (R29). -/
  | opens (h : g.state = .closed) : Move g { g with state := .idle }
  /-- LANE_CLOSE (R29). -/
  | shuts (h : g.state = .closed ∨ g.state = .idle) : Move g { g with state := .closed }
  /-- An accepted ADMIT (R30). -/
  | arms (h : g.state = .idle) (ticket : Nat) : Move g { g with state := .armed, admission := some ticket, arm := .raised }
  /-- A rise in ARMED (R31). -/
  | begins (h : g.state = .armed) : Move g { g with state := .passing, admitted := true }
  /-- A rise in SETTLING: a tailgater, the arm lowered (R35). -/
  | tailgates (h : g.state = .settling) : Move g ⟨.passing, none, false, .lowered⟩
  /-- A fall after an admitted passage (R32). -/
  | commits (h : g.state = .passing) : Move g ⟨.settling, none, false, .lowered⟩
  /-- A fall after a tailgater's passage, which leaves the admission untouched (R36). -/
  | clears (h : g.state = .passing) (ha : g.admitted = false) : Move g ⟨.settling, g.admission, false, .lowered⟩
  /-- The stuck limit (R39). -/
  | jams (h : g.state = .passing) : Move g ⟨.stuck, none, false, .raised⟩
  /-- Back to IDLE with nothing held (R34, R38, R40, R41). -/
  | rests : Move g ⟨.idle, none, false, .lowered⟩
  /-- LANE_RESET and DEVICE_RESET (R42, R25). -/
  | resets : Move g ⟨.closed, none, false, .lowered⟩

/-- The laws of the lanes are those of their gates. -/
theorem laneLaws_iff_lawful (s : State) : s.laneLaws ↔ ∀ n, (s.gate n).Lawful := Iff.rfl

theorem LaneGate.Move.lawful {g g' : LaneGate} (h : g.Move g') (hg : g.Lawful) : g'.Lawful := by
  cases h with
  | stays => exact hg
  | opens h | begins h | clears h _ => simp_all [LaneGate.Lawful]
  | shuts h => rcases h with h | h <;> simp_all [LaneGate.Lawful]
  | arms | tailgates | commits | jams | rests | resets => simp [LaneGate.Lawful]

/-- A PASSING entered from SETTLING is a tailgater's. -/
theorem LaneGate.Move.settling_passing {g g' : LaneGate} (h : g.Move g') (hs : g.state = .settling) (hp : g'.state = .passing) :
    g'.arm = .lowered ∧ g'.admitted = false := by
  cases h with
  | tailgates _ => exact ⟨rfl, rfl⟩
  | stays | begins h => simp_all
  | opens | shuts | arms | commits | clears | jams | rests | resets => cases hp

/-- STUCK is entered from PASSING by the stuck limit alone. -/
theorem LaneGate.Move.passing_stuck {g g' : LaneGate} (h : g.Move g') (hp : g.state = .passing) (hs : g'.state = .stuck) :
    g'.arm = .raised := by
  cases h with
  | jams _ => rfl
  | stays => simp_all
  | opens | shuts | arms | begins | tailgates | commits | clears | rests | resets => cases hs

/-- Every gate makes at most one move. -/
def LanesMove (g g' : LaneId → LaneGate) : Prop := ∀ n, (g n).Move (g' n)

theorem lanesMove_of_gate {s t : State} (h : t.gate = s.gate) : LanesMove s.gate t.gate := fun n => by
  rw [h]
  exact .stays

theorem gate_of_entry {s t : State} (h : t.entry = s.entry) : t.gate = s.gate := by
  funext n
  rw [State.gate, h, State.gate]

theorem lanesMove_of_entry {s t : State} (h : t.entry = s.entry) : LanesMove s.gate t.gate := lanesMove_of_gate (gate_of_entry h)

/-- A lane operation on other fields of the lane. -/
theorem modEntry_gate (n : LaneId) {f : EntryLane → EntryLane} (s : State) (h : ∀ l, (f l).gate = l.gate := by intro _; rfl) :
    (s.modEntry n f).gate = s.gate := by
  funext m
  simp only [State.gate, State.modEntry_entry, upd_get]
  split
  · exact h _
  · rfl

/-- A change of every lane in other fields. -/
theorem gate_of_map {f : EntryLane → EntryLane} {s t : State} (ht : t.entry = s.entry.map f)
    (h : ∀ l, (f l).gate = l.gate := by intro _; rfl) :
    t.gate = s.gate := by
  funext n
  simp only [State.gate, ht]
  simpa using h _

theorem elapse_gate (us : Nat) (l : EntryLane) : (l.elapse us).gate = l.gate := by
  unfold EntryLane.elapse
  split <;> rfl

/-! ### What the shared operations leave of the lanes: the `clear…` masks keep them -/

theorem entry_of_clearCalls {s t : State} (h : t.clearCalls = s.clearCalls) : t.entry = s.entry :=
  show t.clearCalls.entry = s.clearCalls.entry from congrArg State.entry h

theorem entry_of_clearTickets {s t : State} (h : t.clearTickets = s.clearTickets) : t.entry = s.entry :=
  show t.clearTickets.entry = s.clearTickets.entry from congrArg State.entry h

theorem entry_of_clearOrders {s t : State} (h : t.clearOrders = s.clearOrders) : t.entry = s.entry :=
  entry_of_clearTickets (clearTickets_of_clearOrders h)

theorem entry_of_clearShow {s t : State} (h : t.clearShow = s.clearShow) : t.entry = s.entry :=
  show t.clearShow.entry = s.clearShow.entry from congrArg State.entry h

theorem entry_of_clearLinks {s t : State} (h : t.clearLinks = s.clearLinks) : t.entry = s.entry :=
  show t.clearLinks.entry = s.clearLinks.entry from congrArg State.entry h

theorem entry_of_clearInstant {s t : State} (h : t.clearInstant = s.clearInstant) : t.entry = s.entry :=
  show t.clearInstant.entry = s.clearInstant.entry from congrArg State.entry h

theorem startAll_entry (s : State) : s.startAll.entry = s.entry := entry_of_clearCalls (startAll_frame s)

theorem serveReads_entry (s : State) : s.serveReads.entry = s.entry := entry_of_clearCalls (serveReads_frame s)

theorem enqueueCall_entry (i : ScreenId) (n : Nat) (s : State) : (s.enqueueCall i n).entry = s.entry :=
  entry_of_clearCalls (enqueueCall_frame i n s)

theorem openCalls_entry (i : ScreenId) (s : State) : (s.openCalls i).entry = s.entry := entry_of_clearCalls (openCalls_frame i s)

theorem cutCall_entry (i : ScreenId) (s : State) : (s.cutCall i).entry = s.entry := entry_of_clearCalls (cutCall_frame i s)

theorem flushQueue_entry (i : ScreenId) (s : State) : (s.flushQueue i).entry = s.entry := entry_of_clearCalls (flushQueue_frame i s)

theorem postCrossings_entry (n : Nat) (s : State) : (s.postCrossings n).entry = s.entry := entry_of_clearOrders (postCrossings_frame n s)

theorem serviceStep_entry (s : State) : s.serviceStep.entry = s.entry := entry_of_clearOrders (serviceStep_frame s)

theorem removeOrders_entry (out : OrderOutcome) (os : List Order) (s : State) : (s.removeOrders out os).entry = s.entry :=
  entry_of_clearOrders (removeOrders_frame out os s)

theorem examineShelf_entry (s : State) : s.examineShelf.entry = s.entry := entry_of_clearOrders (examineShelf_frame s)

theorem void_entry (n : Nat) (s : State) : (s.void n).entry = s.entry := entry_of_clearTickets (void_frame n s)

theorem commit_entry (n : Nat) (cls : VehicleClass) (s : State) : (s.commit n cls).entry = s.entry :=
  entry_of_clearTickets (commit_frame n cls s)

theorem departTicket_entry (t : Ticket) (cls : VehicleClass) (s : State) : (s.departTicket t cls).entry = s.entry :=
  entry_of_clearTickets (departTicket_frame t cls s)

theorem armShow_entry (i : ScreenId) (s : State) : (s.armShow i).entry = s.entry := by
  simp [State.armShow, State.openIntake]

theorem resumeShow_entry (i : ScreenId) (s : State) : (s.resumeShow i).entry = s.entry := entry_of_clearShow (resumeShow_frame i s)

theorem endShow_entry (i : ScreenId) (s : State) : (s.endShow i).entry = s.entry := entry_of_clearShow (endShow_frame i s)

theorem framePulse_entry (i : ScreenId) (us : Nat) (s : State) : (s.framePulse i us).entry = s.entry :=
  entry_of_clearShow (framePulse_frame i us s)

theorem cycle_entry (i : ScreenId) (s : State) : (s.cycle i).entry = s.entry := entry_of_clearLinks (cycle_frame i s)

theorem ackExpiry_entry (i : ScreenId) (s : State) : (s.ackExpiry i).entry = s.entry := entry_of_clearLinks (ackExpiry_frame i s)

theorem takeAck_entry (i : ScreenId) (n : Byte) (st : ExciterStatus) (s : State) : (s.takeAck i n st).entry = s.entry :=
  entry_of_clearLinks (takeAck_frame i n st s)

theorem takeStatusMessage_entry (i : ScreenId) (n : Byte) (st : ExciterStatus) (s : State) :
    (s.takeStatusMessage i n st).entry = s.entry := entry_of_clearLinks (takeStatusMessage_frame i n st s)

theorem endReset_entry (e : ResetEnd) (s : State) : (s.endReset e).entry = s.entry := (entry_of_clearLinks (endReset_frame e s)).trans rfl

theorem postFullRise_entry (full : Bool) (i : ScreenId) (s : State) : (s.postFullRise full i).entry = s.entry := by
  unfold State.postFullRise
  split <;> rfl

theorem answer_entry (p : PortId) (code tag : Byte) (r : Reply) (s : State) : (s.answer p code tag r).entry = s.entry := by
  cases r <;> rfl

/-! ### Requests: their handlings move the lanes, or keep them -/

/-- A request moves the lanes as its handling does; taking it and answering it leave them. -/
theorem serve_lanesMove {p : PortId} {code tag : Byte} {payload : List Byte} {may : Role → Bool} {lengthOk : List Byte → Bool}
    {body : List Byte → State → State × Reply} {s t : State} (hbody : ∀ u : State, LanesMove u.gate (body payload u).1.gate)
    (h : serve p code tag payload may lengthOk body s = .next t) : LanesMove s.gate t.gate := by
  obtain e | ⟨q, e⟩ | ⟨q, st, e⟩ | ⟨q, e⟩ := serve_cases p code tag payload may lengthOk body s <;> cases e.symm.trans h
  · exact lanesMove_of_entry rfl
  · exact lanesMove_of_entry rfl
  · exact lanesMove_of_entry rfl
  · rw [gate_of_entry (answer_entry p code tag _ _)]
    exact hbody (s.modPort p fun _ => q)

theorem ranged_lanesMove {α : Type} {args : List Byte → Option α} {body : α → State → State × Reply}
    (hbody : ∀ a (u : State), LanesMove u.gate (body a u).1.gate) (payload : List Byte) (u : State) :
    LanesMove u.gate (ranged args body payload u).1.gate := by
  unfold ranged
  split
  · exact lanesMove_of_entry rfl
  · exact hbody _ u

theorem serve_keepsLanes {p : PortId} {code tag : Byte} {payload : List Byte} {may : Role → Bool} {lengthOk : List Byte → Bool}
    {body : List Byte → State → State × Reply} {s t : State} (hbody : ∀ b (u : State), (body b u).1.entry = u.entry)
    (h : serve p code tag payload may lengthOk body s = .next t) : LanesMove s.gate t.gate :=
  serve_lanesMove (fun u => lanesMove_of_entry (hbody payload u)) h

theorem serve_ranged_lanesMove {α : Type} {args : List Byte → Option α} {body : α → State → State × Reply}
    {p : PortId} {code tag : Byte} {payload : List Byte} {may : Role → Bool} {lengthOk : List Byte → Bool} {s t : State}
    (hbody : ∀ a (u : State), LanesMove u.gate (body a u).1.gate)
    (h : serve p code tag payload may lengthOk (ranged args body) s = .next t) : LanesMove s.gate t.gate :=
  serve_lanesMove (ranged_lanesMove hbody payload) h

theorem serve_ranged_keepsLanes {α : Type} {args : List Byte → Option α} {body : α → State → State × Reply}
    {p : PortId} {code tag : Byte} {payload : List Byte} {may : Role → Bool} {lengthOk : List Byte → Bool} {s t : State}
    (hbody : ∀ a (u : State), (body a u).1.entry = u.entry)
    (h : serve p code tag payload may lengthOk (ranged args body) s = .next t) : LanesMove s.gate t.gate :=
  serve_ranged_lanesMove (fun a u => lanesMove_of_entry (hbody a u)) h

/-! ### Handlings that keep the lanes -/

/-- A reply is no change of a lane. -/
theorem reply_entry {u s : State} {r : Reply} (h : u.entry = s.entry) : (u, r).1.entry = s.entry := h

/-- An operation made under a condition keeps the lanes when it does. -/
theorem ite_entry {c : Prop} [Decidable c] {s u : State} (h : u.entry = s.entry) : (if c then u else s).entry = s.entry := by
  split
  · exact h
  · rfl

theorem departBody_entry (number : Nat) (s : State) : (s.departBody number).1.entry = s.entry := by
  unfold State.departBody
  split
  · rfl
  · split
    · rfl
    · exact reply_entry ((startAll_entry _).trans (departTicket_entry _ _ s))

theorem setZoneBody_entry (a : ScreenId × Nat) (s : State) : (s.setZoneBody a).1.entry = s.entry := by
  simp only [State.setZoneBody]
  split
  · rfl
  · split
    · rfl
    · exact reply_entry (postFullRise_entry _ _ _)

theorem ticketQueryBody_entry (number : Nat) (s : State) : (s.ticketQueryBody number).1.entry = s.entry := by
  unfold State.ticketQueryBody
  split <;> rfl

theorem setScreenBody_entry (a : ScreenId × ScreenSettings) (s : State) : (s.setScreenBody a).1.entry = s.entry := by
  unfold State.setScreenBody
  split <;> rfl

theorem armShowBody_entry (i : ScreenId) (s : State) : (s.armShowBody i).1.entry = s.entry := by
  unfold State.armShowBody
  split
  · exact reply_entry (armShow_entry i s)
  · rfl

theorem startShowBody_entry (i : ScreenId) (s : State) : (s.startShowBody i).1.entry = s.entry := by
  unfold State.startShowBody
  split <;> rfl

theorem holdShowBody_entry (i : ScreenId) (s : State) : (s.holdShowBody i).1.entry = s.entry := by
  unfold State.holdShowBody
  split <;> rfl

theorem resumeShowBody_entry (i : ScreenId) (s : State) : (s.resumeShowBody i).1.entry = s.entry := by
  unfold State.resumeShowBody
  split
  · split
    · rfl
    · exact reply_entry (resumeShow_entry i s)
  · rfl

theorem endShowBody_entry (i : ScreenId) (s : State) : (s.endShowBody i).1.entry = s.entry := by
  unfold State.endShowBody
  split
  · exact reply_entry ((startAll_entry _).trans (endShow_entry i s))
  · rfl

theorem screenReset_entry (i : ScreenId) (s : State) : (s.screenReset i).entry = s.entry := by
  simp only [State.screenReset]
  rw [serveReads_entry, cutCall_entry, flushQueue_entry]
  simp [State.setOrderWindow, State.closeCalls, State.setMode, State.closeIntake]

theorem loadCueBody_entry (a : LoadCueArgs) (s : State) : (s.loadCueBody a).1.entry = s.entry := by
  unfold State.loadCueBody
  split <;> rfl

theorem deleteCueBody_entry (a : ScreenId × Nat) (s : State) : (s.deleteCueBody a).1.entry = s.entry := by
  simp only [State.deleteCueBody]
  split
  · rfl
  · split <;> rfl

theorem clearCuesBody_entry (i : ScreenId) (s : State) : (s.clearCuesBody i).1.entry = s.entry := by
  unfold State.clearCuesBody
  split <;> rfl

theorem clipRescanBody_entry (p : PortId) (tag : Byte) (b : List Byte) (s : State) : (s.clipRescanBody p tag b).1.entry = s.entry := by
  unfold State.clipRescanBody
  split <;> rfl

theorem announceBody_entry (a : ScreenId × List Nat) (s : State) : (s.announceBody a).1.entry = s.entry := by
  unfold State.announceBody
  split
  · rfl
  · split
    · rfl
    · exact reply_entry (startAll_entry _)

theorem setExciter_entry (heard : List LineInput) (i : ScreenId) (t : ExciterSettings) (s : State) :
    (s.setExciter heard i t).entry = s.entry := by
  unfold State.setExciter
  split
  · rfl
  · exact (cycle_entry i _).trans rfl

theorem takeOrder_entry (n : Nat) (s : State) : (s.takeOrder n).entry = s.entry :=
  (postCrossings_entry _ _).trans <| (serviceStep_entry _).trans rfl

theorem takeOrderBody_entry (b : List Byte) (s : State) : (s.takeOrderBody b).1.entry = s.entry := by
  unfold State.takeOrderBody
  split
  · rfl
  · split
    · exact reply_entry (takeOrder_entry _ s)
    · rfl

theorem makeReady_entry (o : Order) (s : State) : (s.makeReady o).entry = s.entry := (enqueueCall_entry _ _ _).trans rfl

theorem markReadyBody_entry (number : Nat) (s : State) : (s.markReadyBody number).1.entry = s.entry := by
  unfold State.markReadyBody
  split
  · rfl
  · split
    · exact reply_entry ((startAll_entry _).trans (makeReady_entry _ s))
    · rfl

theorem collectOrderBody_entry (number : Nat) (s : State) : (s.collectOrderBody number).1.entry = s.entry := by
  unfold State.collectOrderBody
  split
  · rfl
  · split
    · exact reply_entry ((startAll_entry _).trans (removeOrders_entry _ _ s))
    · rfl

theorem cancelOrderBody_entry (number : Nat) (s : State) : (s.cancelOrderBody number).1.entry = s.entry := by
  unfold State.cancelOrderBody
  split
  · rfl
  · exact reply_entry ((startAll_entry _).trans (removeOrders_entry _ _ s))

theorem placeOrderBody_entry (p : PortId) (a : PlaceOrderArgs) (s : State) : (s.placeOrderBody p a).1.entry = s.entry := by
  unfold State.placeOrderBody
  split
  · rfl
  · split
    · rfl
    · exact reply_entry ((postCrossings_entry _ _).trans rfl)

theorem orderQueryBody_entry (number : Nat) (s : State) : (s.orderQueryBody number).1.entry = s.entry := by
  unfold State.orderQueryBody
  split <;> rfl

theorem refuseUnknown_entry (p : PortId) (code tag : Byte) (payload : List Byte) (s : State) :
    (s.refuseUnknown p code tag payload).entry = s.entry := by
  unfold State.refuseUnknown
  split <;> rfl

/-! ### Events that keep the lanes -/

theorem advanceNight_entry (s : State) : s.advanceNight.entry = s.entry :=
  ite_entry ((startAll_entry _).trans <| (examineShelf_entry _).trans rfl)

theorem exitStuckExpiry_entry (n : ExitId) (s : State) : (s.exitStuckExpiry n).entry = s.entry := by
  simp only [State.exitStuckExpiry]
  exact ite_entry rfl

theorem blockArrival_entry (i : ScreenId) (bytes : List Byte) (s : State) : (s.blockArrival i bytes).entry = s.entry := by
  simp only [State.blockArrival]
  split <;> rfl

theorem rescanDone_entry (header : List Byte) (s : State) : (s.rescanDone header).entry = s.entry := by
  unfold State.rescanDone
  split
  · rfl
  · exact startAll_entry _

theorem startupDone_entry (header : List Byte) (s : State) : (s.startupDone header).entry = s.entry := (startAll_entry _).trans rfl

theorem framePulse_startAll_entry (i : ScreenId) (us : Nat) (s : State) : (s.framePulse i us).startAll.entry = s.entry :=
  (startAll_entry _).trans (framePulse_entry i us s)

/-! ### Lane operations -/

/-- A lane operation that is a move of its own lane, made after operations that leave the gates. -/
theorem modEntry_lanesMove {n : LaneId} {f : EntryLane → EntryLane} {s u : State} (hu : u.gate = s.gate)
    (hf : ∀ l : EntryLane, l.gate = s.gate n → l.gate.Move (f l).gate) : LanesMove s.gate (u.modEntry n f).gate := by
  rw [← hu] at hf ⊢
  intro m
  simp only [State.gate, State.modEntry_entry, upd_get]
  split
  · next e => exact e ▸ hf u.entry[n] rfl
  · exact .stays

theorem commitAdmission_gate (n : LaneId) (cls : VehicleClass) (s : State) : (s.commitAdmission n cls).gate = s.gate := by
  unfold State.commitAdmission
  split
  · rfl
  · exact (modEntry_gate n _).trans (gate_of_entry (commit_entry _ cls s))

theorem longCommit_gate (n : LaneId) (s : State) : (s.longCommit n).gate = s.gate := by
  rw [State.longCommit, gate_of_entry (State.post_entry _ _ _)]
  exact modEntry_gate n s

theorem endPassage_lanesMove {n : LaneId} {s : State} (h : (s.gate n).state = .passing) : LanesMove s.gate (s.endPassage n).gate := by
  have settles : LanesMove s.gate ((s.commitAdmission n (s.entry[n]).classify).modEntry n
      fun l => { l.settle with lastCommit := l.admission, admission := none }).gate :=
    modEntry_lanesMove (commitAdmission_gate n _ s) fun l hl => .commits ((congrArg LaneGate.state hl).trans h)
  unfold State.endPassage
  dsimp only
  split
  · rw [longCommit_gate]
    exact settles
  · exact settles

theorem entryRise_lanesMove (n : LaneId) (s : State) : LanesMove s.gate (s.entryRise n).gate := by
  have loop : (s.modEntry n fun l => { l with loop := .occupied }).gate = s.gate := modEntry_gate n s
  simp only [State.entryRise]
  split
  · exact lanesMove_of_gate rfl
  · split
    · next hs => exact modEntry_lanesMove loop fun l hl => .begins ((congrArg LaneGate.state hl).trans hs)
    · next hs =>
      have tailgate : LanesMove s.gate ((s.modEntry n fun l => { l with loop := .occupied }).modEntry n EntryLane.beginTailgate).gate :=
        modEntry_lanesMove loop fun l hl => .tailgates ((congrArg LaneGate.state hl).trans hs)
      split <;> exact tailgate
    · exact lanesMove_of_gate ((modEntry_gate n _).trans loop)
    · exact lanesMove_of_gate ((modEntry_gate n _).trans loop)
    · exact lanesMove_of_gate loop
    · exact lanesMove_of_gate loop

theorem entryFall_lanesMove (n : LaneId) (us : Nat) (s : State) : LanesMove s.gate (s.entryFall n us).gate := by
  have loop : (s.modEntry n fun l => { l.elapse us with loop := .clear }).gate = s.gate := modEntry_gate n s fun l => elapse_gate us l
  simp only [State.entryFall]
  split
  · exact lanesMove_of_gate rfl
  · split
    · next hs =>
      split
      · rw [← loop]
        exact endPassage_lanesMove (loop ▸ hs)
      · next ha =>
        exact modEntry_lanesMove loop fun l hl =>
          .clears ((congrArg LaneGate.state hl).trans hs) ((congrArg LaneGate.admitted hl).trans (Bool.eq_false_iff.2 ha))
    · exact modEntry_lanesMove loop fun _ _ => .rests
    all_goals exact lanesMove_of_gate loop

theorem passWindowExpiry_lanesMove (n : LaneId) (s : State) : LanesMove s.gate (s.passWindowExpiry n).gate := by
  simp only [State.passWindowExpiry]
  split
  · refine modEntry_lanesMove (f := fun l => l.toIdle.count fun c => { c with timeouts := inc16 c.timeouts }) ?_ fun _ _ => .rests
    split
    · exact gate_of_entry (void_entry _ s)
    · rfl
  · exact lanesMove_of_gate rfl

theorem gapWindowExpiry_lanesMove (n : LaneId) (s : State) : LanesMove s.gate (s.gapWindowExpiry n).gate := by
  simp only [State.gapWindowExpiry]
  split
  · exact modEntry_lanesMove rfl fun _ _ => .rests
  · exact lanesMove_of_gate rfl

theorem entryStuckExpiry_lanesMove (n : LaneId) (s : State) : LanesMove s.gate (s.entryStuckExpiry n).gate := by
  simp only [State.entryStuckExpiry]
  split
  · next hs =>
    refine modEntry_lanesMove (f := EntryLane.toStuck) ?_ fun l hl => .jams ((congrArg LaneGate.state hl).trans hs)
    split
    · exact commitAdmission_gate n _ s
    · rfl
  · exact lanesMove_of_gate rfl

theorem longLampExpiry_gate (n : LaneId) (s : State) : (s.longLampExpiry n).gate = s.gate := modEntry_gate n s

theorem resetEntry_lanesMove (n : LaneId) (s : State) : LanesMove s.gate (s.resetEntry n).gate := by
  simp only [State.resetEntry]
  refine modEntry_lanesMove ?_ fun _ _ => .resets
  split
  · exact gate_of_entry (void_entry _ s)
  · exact commitAdmission_gate n _ s
  · rfl

/-! ### Handlings that move lanes -/

theorem admitCheck_eq_none {l : EntryLane} (h : l.admitCheck = none) : l.state = .idle := by
  unfold EntryLane.admitCheck at h
  split at h
  · assumption
  all_goals cases h

/-- Of the lanes an accepted ADMIT changes the one it names, which it arms. -/
theorem admitTicket_entry (number : Nat) (a : AdmitArgs) (s : State) :
    (s.admitTicket number a).entry = (s.modEntry a.lane (·.armFor number)).entry := by
  refine (postFullRise_entry _ _ _).trans ?_
  cases h : a.payment <;> simp [State.markUsed]

theorem admitBody_lanesMove (a : AdmitArgs) (s : State) : LanesMove s.gate (s.admitBody a).1.gate := by
  unfold State.admitBody
  split
  · exact lanesMove_of_gate rfl
  · next number hcheck _ =>
    have idle : (s.gate a.lane).state = .idle := admitCheck_eq_none (Option.or_eq_none_iff.1 hcheck).1
    rw [gate_of_entry (admitTicket_entry number a s)]
    exact modEntry_lanesMove rfl fun l hl => .arms ((congrArg LaneGate.state hl).trans idle) number
  · exact lanesMove_of_gate rfl

theorem closeNightBody_lanesMove (b : List Byte) (s : State) : LanesMove s.gate (s.closeNightBody b).1.gate := by
  unfold State.closeNightBody
  split
  · exact lanesMove_of_gate (gate_of_map rfl)
  · exact lanesMove_of_gate rfl

theorem setLaneBody_lanesMove (a : LaneName × LaneSettings) (s : State) : LanesMove s.gate (s.setLaneBody a).1.gate := by
  unfold State.setLaneBody
  split
  · split
    · exact lanesMove_of_gate (modEntry_gate _ s)
    · exact lanesMove_of_gate rfl
  · split <;> exact lanesMove_of_entry rfl

theorem openUp_move (l : EntryLane) : l.gate.Move l.openUp.gate := by
  unfold EntryLane.openUp
  split
  · next h => exact .opens h
  · exact .stays

theorem laneOpenBody_lanesMove (a : LaneName) (s : State) : LanesMove s.gate (s.laneOpenBody a).1.gate := by
  cases a with
  | entry n => exact modEntry_lanesMove rfl fun l _ => openUp_move l
  | exit n => exact lanesMove_of_entry rfl

theorem laneCloseBody_lanesMove (a : LaneName) (s : State) : LanesMove s.gate (s.laneCloseBody a).1.gate := by
  unfold State.laneCloseBody
  split
  · exact lanesMove_of_gate rfl
  · next hbusy =>
    cases a with
    | entry n =>
      have quiet : (s.entry[n]).state = .closed ∨ (s.entry[n]).state = .idle := by
        simpa [State.closeBusy, or_iff_not_imp_left] using hbusy
      exact modEntry_lanesMove rfl fun l hl => .shuts (hl ▸ quiet)
    | exit n => exact lanesMove_of_entry rfl

theorem cancelAdmitBody_lanesMove (number : Nat) (s : State) : LanesMove s.gate (s.cancelAdmitBody number).1.gate := by
  unfold State.cancelAdmitBody
  split
  · exact lanesMove_of_gate rfl
  · split
    · exact lanesMove_of_gate rfl
    · split
      · rw [gate_of_entry (startAll_entry _)]
        exact modEntry_lanesMove (gate_of_entry (void_entry number s)) fun _ _ => .rests
      · exact lanesMove_of_gate rfl

theorem laneResetBody_lanesMove (a : LaneName) (s : State) : LanesMove s.gate (s.laneResetBody a).1.gate := by
  cases a with
  | entry n =>
    simp only [State.laneResetBody]
    rw [gate_of_entry (startAll_entry _)]
    exact resetEntry_lanesMove n s
  | exit n => exact lanesMove_of_entry rfl

theorem deviceReset_lanesMove (entryLoops : Vector Bool 4) (exitLoops : Vector Bool 2) (s : State) :
    LanesMove s.gate (s.deviceReset entryLoops exitLoops).gate := by
  intro n
  have fresh : (s.deviceReset entryLoops exitLoops).gate n = ⟨.closed, none, false, .lowered⟩ := by
    simp [State.gate, State.deviceReset, EntryLane.gate, EntryLane.reset]
  exact fresh ▸ .resets

/-! ### Every command and every step -/

theorem next_lanesMove {s u t : State} (h : (.next u : Host.Outcome State Fault Refusal) = .next t) (hu : LanesMove s.gate u.gate) :
    LanesMove s.gate t.gate := by
  cases h
  exact hu

theorem next_keepsLanes {s u t : State} (h : (.next u : Host.Outcome State Fault Refusal) = .next t) (hu : u.entry = s.entry) :
    LanesMove s.gate t.gate := next_lanesMove h (lanesMove_of_entry hu)

theorem execExciterAck_keepsLanes {m : LineMoment} {number flags : Byte} {s t : State} (h : execExciterAck m number flags s = .next t) :
    LanesMove s.gate t.gate := by
  refine next_keepsLanes h ?_
  split
  · exact ite_entry ((takeAck_entry _ _ _ _).trans rfl)
  · rfl

theorem execExciterStatus_keepsLanes {m : LineMoment} {number flags : Byte} {s t : State}
    (h : execExciterStatus m number flags s = .next t) : LanesMove s.gate t.gate := by
  refine next_keepsLanes h ?_
  split
  · exact ite_entry ((takeStatusMessage_entry _ _ _ _).trans rfl)
  · rfl

theorem execExciterBadMessage_keepsLanes {m : LineMoment} {s t : State} (h : execExciterBadMessage m s = .next t) :
    LanesMove s.gate t.gate := by
  refine next_keepsLanes h ?_
  split <;> rfl

theorem execSettingsSendEnd_keepsLanes {m : LineMoment} {s t : State} (h : execSettingsSendEnd m s = .next t) : LanesMove s.gate t.gate := by
  refine next_keepsLanes h ?_
  split <;> rfl

theorem execStatusAckSendEnd_keepsLanes {m : LineMoment} {s t : State} (h : execStatusAckSendEnd m s = .next t) :
    LanesMove s.gate t.gate := by
  refine next_keepsLanes h ?_
  split <;> rfl

/-- Every command moves the lanes as a lane may move: a case for each row of the opcode table. -/
theorem exec_lanesMove (c : Instr) {s t : State} (h : exec c s = .next t) : LanesMove s.gate t.gate := by
  cases c with
  | deviceReset entryLoops exitLoops => exact next_lanesMove h (deviceReset_lanesMove entryLoops exitLoops s)
  | startupDirectoryReadDone header => exact next_keepsLanes h (ite_entry (startupDone_entry header s))
  | admitCar p tag payload => exact serve_ranged_lanesMove admitBody_lanesMove h
  | depart p tag payload => exact serve_ranged_keepsLanes departBody_entry h
  | passSet p tag payload => exact serve_ranged_keepsLanes (fun _ _ => rfl) h
  | setZone p tag payload => exact serve_ranged_keepsLanes setZoneBody_entry h
  | entryOpen p tag payload => exact serve_ranged_keepsLanes (fun _ _ => rfl) h
  | entryClose p tag payload => exact serve_ranged_keepsLanes (fun _ _ => rfl) h
  | closeNight p tag payload => exact serve_lanesMove (closeNightBody_lanesMove payload) h
  | ticketQuery p tag payload => exact serve_ranged_keepsLanes ticketQueryBody_entry h
  | passQuery p tag payload => exact serve_ranged_keepsLanes (fun _ _ => rfl) h
  | zoneReport p tag payload => exact serve_keepsLanes (fun _ _ => rfl) h
  | nightReport p tag payload => exact serve_keepsLanes (fun _ _ => rfl) h
  | setLane p tag payload => exact serve_ranged_lanesMove setLaneBody_lanesMove h
  | laneOpen p tag payload => exact serve_ranged_lanesMove laneOpenBody_lanesMove h
  | laneClose p tag payload => exact serve_ranged_lanesMove laneCloseBody_lanesMove h
  | cancelAdmit p tag payload => exact serve_ranged_lanesMove cancelAdmitBody_lanesMove h
  | laneReset p tag payload => exact serve_ranged_lanesMove laneResetBody_lanesMove h
  | gateReport p tag payload => exact serve_keepsLanes (fun _ _ => rfl) h
  | setScreen p tag payload => exact serve_ranged_keepsLanes setScreenBody_entry h
  | armShow p tag payload => exact serve_ranged_keepsLanes armShowBody_entry h
  | startShow p tag payload => exact serve_ranged_keepsLanes startShowBody_entry h
  | holdShow p tag payload => exact serve_ranged_keepsLanes holdShowBody_entry h
  | resumeShow p tag payload => exact serve_ranged_keepsLanes resumeShowBody_entry h
  | endShow p tag payload => exact serve_ranged_keepsLanes endShowBody_entry h
  | screenReset p tag payload => exact serve_ranged_keepsLanes screenReset_entry h
  | screenQuery p tag payload => exact serve_ranged_keepsLanes (fun _ _ => rfl) h
  | loadCue p tag payload => exact serve_ranged_keepsLanes loadCueBody_entry h
  | deleteCue p tag payload => exact serve_ranged_keepsLanes deleteCueBody_entry h
  | clearCues p tag payload => exact serve_ranged_keepsLanes clearCuesBody_entry h
  | cueQuery p tag payload => exact serve_ranged_keepsLanes (fun _ _ => rfl) h
  | setSound p tag payload => exact serve_ranged_keepsLanes (fun _ _ => rfl) h
  | intakeQuery p tag payload => exact serve_ranged_keepsLanes (fun _ _ => rfl) h
  | alignQuery p tag payload => exact serve_ranged_keepsLanes (fun _ _ => rfl) h
  | clipRescan p tag payload => exact serve_keepsLanes (clipRescanBody_entry p tag) h
  | clipRescanDone header => exact next_keepsLanes h (rescanDone_entry header s)
  | announce p tag payload => exact serve_ranged_keepsLanes announceBody_entry h
  | setCalls p tag payload => exact serve_ranged_keepsLanes (fun _ _ => rfl) h
  | callsOpen p tag payload => exact serve_ranged_keepsLanes openCalls_entry h
  | callsClose p tag payload => exact serve_ranged_keepsLanes (fun _ _ => rfl) h
  | ordersOpen p tag payload => exact serve_ranged_keepsLanes (fun _ _ => rfl) h
  | ordersClose p tag payload => exact serve_ranged_keepsLanes (fun _ _ => rfl) h
  | callQuery p tag payload => exact serve_ranged_keepsLanes (fun _ _ => rfl) h
  | clipQuery p tag payload => exact serve_keepsLanes (fun _ _ => rfl) h
  | setExciter p tag payload => exact serve_ranged_keepsLanes (fun a => setExciter_entry payload.heard a.1 a.2) h
  | exciterQuery p tag payload => exact serve_ranged_keepsLanes (fun _ _ => rfl) h
  | setKitchen p tag payload => exact serve_ranged_keepsLanes (fun _ _ => rfl) h
  | takeOrder p tag payload => exact serve_keepsLanes takeOrderBody_entry h
  | markReady p tag payload => exact serve_ranged_keepsLanes markReadyBody_entry h
  | collectOrder p tag payload => exact serve_ranged_keepsLanes collectOrderBody_entry h
  | placeOrder p tag payload => exact serve_ranged_keepsLanes (placeOrderBody_entry p) h
  | cancelOrder p tag payload => exact serve_ranged_keepsLanes cancelOrderBody_entry h
  | orderQuery p tag payload => exact serve_ranged_keepsLanes orderQueryBody_entry h
  | kitchenReport p tag payload => exact serve_keepsLanes (fun _ _ => rfl) h
  | setLamp p tag payload => exact serve_ranged_keepsLanes (fun _ _ => rfl) h
  | lampQuery p tag payload => exact serve_keepsLanes (fun _ _ => rfl) h
  | readEvents p tag payload => exact serve_keepsLanes (fun _ _ => rfl) h
  | clearEvents p tag payload => exact serve_ranged_keepsLanes (fun _ _ => rfl) h
  | setAttention p tag payload => exact serve_ranged_keepsLanes (fun _ _ => rfl) h
  | portQuery p tag payload => exact serve_ranged_keepsLanes (fun _ _ => rfl) h
  | unknownRequest p code tag payload =>
    refine next_keepsLanes h ?_
    split
    · rfl
    · exact refuseUnknown_entry p code tag payload s
  | nightClockAdvance => exact next_keepsLanes h (advanceNight_entry s)
  | entryLoopRise n => exact next_lanesMove h (entryRise_lanesMove n s)
  | entryLoopFall n us => exact next_lanesMove h (entryFall_lanesMove n us s)
  | exitLoopRise n => exact next_keepsLanes h rfl
  | exitLoopFall n => exact next_keepsLanes h rfl
  | passWindowExpiry n =>
    refine next_lanesMove h ?_
    rw [gate_of_entry (startAll_entry _)]
    exact passWindowExpiry_lanesMove n s
  | gapWindowExpiry n => exact next_lanesMove h (gapWindowExpiry_lanesMove n s)
  | entryStuckLimitExpiry n => exact next_lanesMove h (entryStuckExpiry_lanesMove n s)
  | longLampTimerExpiry n => exact next_lanesMove h (lanesMove_of_gate (longLampExpiry_gate n s))
  | exitStuckTimerExpiry n => exact next_keepsLanes h (exitStuckExpiry_entry n s)
  | framePulse i us => exact next_keepsLanes h (framePulse_startAll_entry i us s)
  | showMarkEdge i => exact next_keepsLanes h (ite_entry rfl)
  | stallTimerExpiry i => exact next_keepsLanes h (entry_of_clearShow (stallExpiry_frame i s))
  | frameMonitorStall i => exact next_keepsLanes h rfl
  | audioBlockArrival i bytes => exact next_keepsLanes h (blockArrival_entry i bytes s)
  | holdTimerExpiry i => exact next_keepsLanes h rfl
  | outputInstant i us =>
    refine next_keepsLanes h ?_
    split
    · rfl
    · exact entry_of_clearInstant (outputInstant_frame i us s)
  | clipReadComplete bytes => exact next_keepsLanes h (entry_of_clearCalls (readComplete_frame bytes s))
  | exciterAck m number flags => exact execExciterAck_keepsLanes h
  | exciterStatus m number flags => exact execExciterStatus_keepsLanes h
  | exciterBadMessage m => exact execExciterBadMessage_keepsLanes h
  | ackTimerExpiry i heard => exact next_keepsLanes h (ite_entry ((ackExpiry_entry i _).trans rfl))
  | refreshTimerExpiry i heard => exact next_keepsLanes h (ite_entry ((cycle_entry i _).trans rfl))
  | settingsSendEnd m => exact execSettingsSendEnd_keepsLanes h
  | portByteReceived p byte stopHigh => exact next_keepsLanes h rfl
  | gapTimerExpiry p => exact next_keepsLanes h rfl
  | parserTake p =>
    refine next_keepsLanes h ?_
    split <;> rfl
  | replyByteSent p => exact next_keepsLanes h rfl
  | holdInChange p asserted => exact next_keepsLanes h rfl
  | blinkPhaseChange => exact next_keepsLanes h rfl
  | endOfDeviceReset e => exact next_keepsLanes h (ite_entry (endReset_entry e s))
  | statusAckSendEnd m => exact execStatusAckSendEnd_keepsLanes h

theorem tick_gate (s : State) : s.tick.gate = s.gate := gate_of_map rfl (elapse_gate 1)

theorem step_lanesMove {s t : State} (h : step s = .next t) : LanesMove s.gate t.gate := by
  unfold step at h
  split at h
  · exact next_lanesMove h (lanesMove_of_gate (tick_gate s))
  · next c rest _ => exact exec_lanesMove (s := { s with pending := rest }) c h

/-- Settles O56: a step makes at most one move at each gate, and a move keeps the law and gives both entry clauses. -/
theorem laneLawsAreKept : Obligations.LaneLawsAreKept := by
  unfold Obligations.LaneLawsAreKept
  intro s t hlaws hstep
  have moves : LanesMove s.gate t.gate := step_lanesMove hstep
  exact ⟨(laneLaws_iff_lawful t).2 fun n => (moves n).lawful ((laneLaws_iff_lawful s).1 hlaws n),
    fun n => ⟨(moves n).settling_passing, (moves n).passing_stuck⟩⟩

end Sys2Proof.Machine

/-! The removal of cues: DELETE_CUE (R76) and CLEAR_CUES (R77). -/

namespace Sys2Proof.Machine

/-! ### Fields out of range -/

theorem within_eq_none_of_lt {lo hi v : Nat} (h : v < lo) : within lo hi v = none := if_neg (by omega)

/-- A DELETE_CUE with either field out of its range names no arguments. -/
theorem deleteCueArgs_eq_none {screen k : Byte} (h : 4 ≤ screen.toNat ∨ k = 0#8) : deleteCueArgs [screen, k] = none := by
  rcases h with hscreen | rfl
  · simp [deleteCueArgs, index_eq_none hscreen]
  · have hid : within 1 255 (0#8).toNat = none := within_eq_none_of_lt (by decide)
    simp only [deleteCueArgs, hid]
    cases index? 4 screen <;> rfl

/-! ### The list and the cursor -/

theorem ScreenState.inShow_iff {x : ScreenState} : x.inShow = true ↔ x = .running ∨ x = .held ∨ x = .lost := by
  cases x <;> simp [ScreenState.inShow]

/-- Two changes that agree on a screen's Cue Unit as it stands leave the same state. -/
theorem State.modCues_congr {i : ScreenId} {f g : CueUnit → CueUnit} {s : State} (h : f s.cues[i] = g s.cues[i]) :
    s.modCues i f = s.modCues i g :=
  congrArg (fun u => { s with cues := s.cues.set i u }) h

theorem CueUnit.indexOf?_eq_none {id : Nat} {u : CueUnit} (h : ∀ c ∈ u.cues, c.id ≠ id) : u.indexOf? id = none := by
  simpa [CueUnit.indexOf?, List.findIdx?_eq_none_iff] using h

/-- The index of the first cue with the id is the number of cues before it. -/
theorem CueUnit.indexOf?_eq_some {id : Nat} {u : CueUnit} {front back : List Cue} {c : Cue} (hu : u.cues = front ++ c :: back)
    (hfront : ∀ b ∈ front, b.id ≠ id) (hc : c.id = id) : u.indexOf? id = some front.length := by
  have hnone : front.findIdx? (·.id == id) = none := by simpa [List.findIdx?_eq_none_iff] using hfront
  simp [CueUnit.indexOf?, hu, List.findIdx?_append, hnone, List.findIdx?_cons, hc]

theorem CueUnit.delete_of_split {u : CueUnit} {front back : List Cue} {c : Cue} (hu : u.cues = front ++ c :: back) :
    u.delete front.length = { u with
      cues := front ++ back, cursor := if front.length < u.cursor then u.cursor - 1 else u.cursor } := by
  simp [CueUnit.delete, hu, List.eraseIdx_append_of_length_le]

/-! ### The handling at the Cue Unit -/

theorem State.deleteCueBody_of_absent {i : ScreenId} {id : Nat} {s : State} (h : ∀ c ∈ (s.cues[i]).cues, c.id ≠ id) :
    s.deleteCueBody (i, id) = (s, .refuse .noSuchCue) := by
  simp only [State.deleteCueBody, CueUnit.indexOf?_eq_none h]

theorem State.deleteCueBody_of_past {i : ScreenId} {id k : Nat} {s : State} (hk : (s.cues[i]).indexOf? id = some k)
    (h : (s.shows[i]).state.inShow = true ∧ k < (s.cues[i]).cursor) : s.deleteCueBody (i, id) = (s, .refuse .cuePast) := by
  simp only [State.deleteCueBody, hk, h, decide_true, Bool.and_self, if_true]

theorem State.deleteCueBody_accepted {i : ScreenId} {id k : Nat} {s : State} (hk : (s.cues[i]).indexOf? id = some k)
    (h : ¬((s.shows[i]).state.inShow = true ∧ k < (s.cues[i]).cursor)) :
    s.deleteCueBody (i, id) = (s.modCues i (·.delete k), .ok (u8 ((s.cues[i]).cues.length - 1))) := by
  simp only [State.deleteCueBody, hk, Bool.and_eq_true, decide_eq_true_eq, if_neg h]

/-- A cue removed from its place in the list, a cursor beyond it lowered (R72), and the number of cues left. -/
theorem State.deleteCueBody_of_split {i : ScreenId} {id : Nat} {s : State} {front back : List Cue} {c : Cue}
    (hu : (s.cues[i]).cues = front ++ c :: back) (hk : (s.cues[i]).indexOf? id = some front.length)
    (h : ¬((s.shows[i]).state.inShow = true ∧ front.length < (s.cues[i]).cursor)) :
    s.deleteCueBody (i, id) = (s.modCues i fun u => { u with
      cues := front ++ back, cursor := if front.length < u.cursor then u.cursor - 1 else u.cursor }, .ok (u8 (front ++ back).length)) := by
  have hleft : (front ++ c :: back).length - 1 = (front ++ back).length := by simp
  rw [State.deleteCueBody_accepted hk h, hu, hleft]
  exact Prod.ext (State.modCues_congr (CueUnit.delete_of_split hu)) rfl

theorem State.clearCuesBody_of_inShow {i : ScreenId} {s : State} (h : (s.shows[i]).state.inShow = true) :
    s.clearCuesBody i = (s, .refuse .screenState) := if_pos h

theorem State.clearCuesBody_outside {i : ScreenId} {s : State} (h : ¬(s.shows[i]).state.inShow = true) :
    s.clearCuesBody i = (s.modCues i fun _ =>
      { cues := [], cursor := 0, flagA := false, flagB := false, lamps := #v[false, false, false, false] }, .ok []) := if_neg h

/-! ### The two requests -/

/-- DELETE_CUE with its fields in range: the Cue Unit's handling and its reply. -/
theorem exec_deleteCue_body {p : PortId} {tag : Byte} {i : ScreenId} {id : Nat} {s : State}
    (ha : s.accepts p ⟨0x1B, tag, u8 i.val ++ u8 id⟩ [.booth, .service] = true) (h : 1 ≤ id ∧ id ≤ 255) :
    exec (.deleteCue p tag (u8 i.val ++ u8 id)) s =
      .next (((s.taken p).deleteCueBody (i, id)).1.answer p 0x1B tag ((s.taken p).deleteCueBody (i, id)).2) :=
  serve_ranged ha rolesB_of_contains rfl (deleteCueArgs_payload i h)

/-- CLEAR_CUES of a screen in range: the Cue Unit's handling and its reply. -/
theorem exec_clearCues_body {p : PortId} {tag : Byte} {i : ScreenId} {s : State}
    (ha : s.accepts p ⟨0x1C, tag, u8 i.val⟩ [.booth, .service] = true) :
    exec (.clearCues p tag (u8 i.val)) s =
      .next (((s.taken p).clearCuesBody i).1.answer p 0x1C tag ((s.taken p).clearCuesBody i).2) :=
  serve_ranged ha rolesB_of_contains rfl (indexArg_u8 i (by omega))

/-- Settles O31, by the equations of the Cue Unit's handling, each carried to its request through `serve`. -/
theorem deleteAndClearCues : Obligations.DeleteAndClearCues := by
  unfold Obligations.DeleteAndClearCues
  intro p tag i id s u state inShow
  have hshow : ((s.taken p).shows[i]).state.inShow = true ↔ inShow := ScreenState.inShow_iff
  refine ⟨fun screen k ha h => serve_range ha rolesB_of_contains rfl (deleteCueArgs_eq_none h),
    fun screen ha h => serve_range ha rolesB_of_contains rfl (indexArg_eq_none h),
    fun ha hlo hhi => ⟨fun habsent => ?_, fun front c back hu hfront hc => ?_⟩, fun ha => ?_⟩
  · rw [exec_deleteCue_body ha ⟨hlo, hhi⟩, State.deleteCueBody_of_absent (s := s.taken p) habsent]
    rfl
  · have hk : ((s.taken p).cues[i]).indexOf? id = some front.length := CueUnit.indexOf?_eq_some hu hfront hc
    rw [exec_deleteCue_body ha ⟨hlo, hhi⟩]
    by_cases hpast : inShow ∧ front.length < u.cursor
    · rw [State.deleteCueBody_of_past hk (hpast.imp_left hshow.2), if_pos hpast]
      rfl
    · rw [State.deleteCueBody_of_split (s := s.taken p) hu hk fun h => hpast (h.imp_left hshow.1), if_neg hpast]
      rfl
  · rw [exec_clearCues_body ha]
    by_cases h : inShow
    · rw [State.clearCuesBody_of_inShow (hshow.2 h), if_pos h]
      rfl
    · rw [State.clearCuesBody_outside fun hin => h (hshow.1 hin), if_neg h]
      rfl

end Sys2Proof.Machine

/-! The rows of requests as services of their ports, and the parts of the state that each row can touch. -/

namespace Sys2Proof.Machine

/-! ### The request rows -/

/-- What `serve` is given for the request of one row. -/
structure Service where
  port     : PortId
  code     : Byte
  tag      : Byte
  payload  : List Byte
  may      : Role → Bool
  lengthOk : List Byte → Bool
  body     : List Byte → State → State × Reply

/-- The request served. -/
def Service.run (v : Service) (s : State) : Host.Outcome State Fault Refusal :=
  serve v.port v.code v.tag v.payload v.may v.lengthOk v.body s

/-- The frame fields of the request. -/
def Service.request (v : Service) : Request := ⟨v.code, v.tag, v.payload⟩

/-- The service of each request row of the catalogue; `exec_of_service` and `request_of_service` tie it to the model. -/
def service? : Instr → Option Service
  | .admitCar p t b => some ⟨p, 0x01, t, b, rolesG, admitLength, ranged admitArgs State.admitBody⟩
  | .depart p t b => some ⟨p, 0x02, t, b, rolesG, lengthIs 2, ranged ticketArg State.departBody⟩
  | .passSet p t b => some ⟨p, 0x03, t, b, rolesG, lengthIs 5, ranged passSetArgs State.passSetBody⟩
  | .setZone p t b => some ⟨p, 0x04, t, b, rolesG, lengthIs 3, ranged setZoneArgs State.setZoneBody⟩
  | .entryOpen p t b => some ⟨p, 0x05, t, b, rolesG, lengthIs 1, ranged (indexArg 4) (State.setEntryBody true)⟩
  | .entryClose p t b => some ⟨p, 0x06, t, b, rolesG, lengthIs 1, ranged (indexArg 4) (State.setEntryBody false)⟩
  | .closeNight p t b => some ⟨p, 0x07, t, b, rolesG, lengthIs 0, State.closeNightBody⟩
  | .ticketQuery p t b => some ⟨p, 0x08, t, b, rolesAll, lengthIs 2, ranged ticketArg State.ticketQueryBody⟩
  | .passQuery p t b => some ⟨p, 0x09, t, b, rolesAll, lengthIs 2, ranged passArg State.passQueryBody⟩
  | .zoneReport p t b => some ⟨p, 0x0A, t, b, rolesAll, lengthIs 0, State.zoneReportBody⟩
  | .nightReport p t b => some ⟨p, 0x0B, t, b, rolesAll, lengthIs 0, State.nightReportBody⟩
  | .setLane p t b => some ⟨p, 0x0C, t, b, rolesG, lengthIs 10, ranged setLaneArgs State.setLaneBody⟩
  | .laneOpen p t b => some ⟨p, 0x0D, t, b, rolesG, lengthIs 2, ranged laneArg State.laneOpenBody⟩
  | .laneClose p t b => some ⟨p, 0x0E, t, b, rolesG, lengthIs 2, ranged laneArg State.laneCloseBody⟩
  | .cancelAdmit p t b => some ⟨p, 0x0F, t, b, rolesG, lengthIs 2, ranged ticketArg State.cancelAdmitBody⟩
  | .laneReset p t b => some ⟨p, 0x10, t, b, rolesG, lengthIs 2, ranged laneArg State.laneResetBody⟩
  | .gateReport p t b => some ⟨p, 0x11, t, b, rolesAll, lengthIs 0, State.gateReportBody⟩
  | .setScreen p t b => some ⟨p, 0x12, t, b, rolesB, lengthIs 9, ranged setScreenArgs State.setScreenBody⟩
  | .armShow p t b => some ⟨p, 0x13, t, b, rolesB, lengthIs 1, ranged (indexArg 4) State.armShowBody⟩
  | .startShow p t b => some ⟨p, 0x14, t, b, rolesB, lengthIs 1, ranged (indexArg 4) State.startShowBody⟩
  | .holdShow p t b => some ⟨p, 0x15, t, b, rolesB, lengthIs 1, ranged (indexArg 4) State.holdShowBody⟩
  | .resumeShow p t b => some ⟨p, 0x16, t, b, rolesB, lengthIs 1, ranged (indexArg 4) State.resumeShowBody⟩
  | .endShow p t b => some ⟨p, 0x17, t, b, rolesB, lengthIs 1, ranged (indexArg 4) State.endShowBody⟩
  | .screenReset p t b => some ⟨p, 0x18, t, b, rolesB, lengthIs 1, ranged (indexArg 4) State.screenResetBody⟩
  | .screenQuery p t b => some ⟨p, 0x19, t, b, rolesAll, lengthIs 1, ranged (indexArg 4) State.screenQueryBody⟩
  | .loadCue p t b => some ⟨p, 0x1A, t, b, rolesB, loadCueLength, ranged loadCueArgs State.loadCueBody⟩
  | .deleteCue p t b => some ⟨p, 0x1B, t, b, rolesB, lengthIs 2, ranged deleteCueArgs State.deleteCueBody⟩
  | .clearCues p t b => some ⟨p, 0x1C, t, b, rolesB, lengthIs 1, ranged (indexArg 4) State.clearCuesBody⟩
  | .cueQuery p t b => some ⟨p, 0x1D, t, b, rolesAll, lengthIs 2, ranged cueQueryArgs State.cueQueryBody⟩
  | .setSound p t b => some ⟨p, 0x1E, t, b, rolesB, lengthIs 5, ranged setSoundArgs State.setSoundBody⟩
  | .intakeQuery p t b => some ⟨p, 0x1F, t, b, rolesAll, lengthIs 1, ranged (indexArg 4) State.intakeQueryBody⟩
  | .alignQuery p t b => some ⟨p, 0x20, t, b, rolesAll, lengthIs 1, ranged (indexArg 4) State.alignQueryBody⟩
  | .clipRescan p t b => some ⟨p, 0x21, t, b, rolesB, lengthIs 0, State.clipRescanBody p t⟩
  | .announce p t b => some ⟨p, 0x22, t, b, rolesB, announceLength, ranged announceArgs State.announceBody⟩
  | .setCalls p t b => some ⟨p, 0x23, t, b, rolesB, lengthIs 5, ranged setCallsArgs State.setCallsBody⟩
  | .callsOpen p t b => some ⟨p, 0x24, t, b, rolesB, lengthIs 1, ranged (indexArg 4) State.callsOpenBody⟩
  | .callsClose p t b => some ⟨p, 0x25, t, b, rolesB, lengthIs 1, ranged (indexArg 4) State.callsCloseBody⟩
  | .ordersOpen p t b => some ⟨p, 0x26, t, b, rolesBK, lengthIs 1, ranged (indexArg 4) (State.orderWindowBody true)⟩
  | .ordersClose p t b => some ⟨p, 0x27, t, b, rolesBK, lengthIs 1, ranged (indexArg 4) (State.orderWindowBody false)⟩
  | .callQuery p t b => some ⟨p, 0x28, t, b, rolesAll, lengthIs 1, ranged (indexArg 4) State.callQueryBody⟩
  | .clipQuery p t b => some ⟨p, 0x29, t, b, rolesAll, lengthIs 0, State.clipQueryBody⟩
  | .setExciter p t b => some ⟨p, 0x2A, t, b.bytes, rolesB, lengthIs 4, ranged setExciterArgs (State.setExciterBody b.heard)⟩
  | .exciterQuery p t b => some ⟨p, 0x2B, t, b, rolesAll, lengthIs 1, ranged (indexArg 4) State.exciterQueryBody⟩
  | .setKitchen p t b => some ⟨p, 0x2C, t, b, rolesK, lengthIs 7, ranged setKitchenArgs State.setKitchenBody⟩
  | .takeOrder p t b => some ⟨p, 0x2D, t, b, rolesK, lengthIs 0, State.takeOrderBody⟩
  | .markReady p t b => some ⟨p, 0x2E, t, b, rolesK, lengthIs 2, ranged orderArg State.markReadyBody⟩
  | .collectOrder p t b => some ⟨p, 0x2F, t, b, rolesK, lengthIs 2, ranged orderArg State.collectOrderBody⟩
  | .placeOrder p t b => some ⟨p, 0x30, t, b, rolesGK, lengthIs 5, ranged placeOrderArgs (State.placeOrderBody p)⟩
  | .cancelOrder p t b => some ⟨p, 0x31, t, b, rolesGK, lengthIs 2, ranged orderArg State.cancelOrderBody⟩
  | .orderQuery p t b => some ⟨p, 0x32, t, b, rolesAll, lengthIs 2, ranged orderArg State.orderQueryBody⟩
  | .kitchenReport p t b => some ⟨p, 0x33, t, b, rolesAll, lengthIs 0, State.kitchenReportBody⟩
  | .setLamp p t b => some ⟨p, 0x34, t, b, rolesB, setLampLength, ranged setLampArgs State.setLampBody⟩
  | .lampQuery p t b => some ⟨p, 0x35, t, b, rolesAll, lengthIs 0, State.lampQueryBody⟩
  | .readEvents p t b => some ⟨p, 0x36, t, b, rolesAll, lengthIs 0, State.readEventsBody p⟩
  | .clearEvents p t b => some ⟨p, 0x37, t, b, rolesAll, clearEventsLength, ranged clearEventsArgs (State.clearEventsBody p)⟩
  | .setAttention p t b => some ⟨p, 0x38, t, b, rolesAll, lengthIs 4, ranged setAttentionArgs (State.setAttentionBody p)⟩
  | .portQuery p t b => some ⟨p, 0x39, t, b, rolesAll, lengthIs 1, ranged (indexArg 3) State.portQueryBody⟩
  | _ => none

/-- A request row is carried out by its service. -/
theorem exec_of_service {c : Instr} {v : Service} (h : service? c = some v) (s : State) : exec c s = v.run s := by
  cases c <;> cases h <;> rfl

theorem request_of_service {c : Instr} {v : Service} (h : service? c = some v) : c.request? = some (v.port, v.request) := by
  cases c <;> cases h <;> rfl

/-- A row that stands for a request has a service, or is an UNKNOWN_REQUEST whose code names no request. -/
theorem service_of_request {c : Instr} {p : PortId} {r : Request} (h : c.request? = some (p, r)) :
    (∃ v, service? c = some v ∧ v.port = p ∧ v.request = r) ∨
      (c = .unknownRequest p r.code r.tag r.payload ∧ knownCode r.code = false) := by
  cases c with
  | unknownRequest p' code tag pl =>
    rw [Instr.request?] at h
    split at h
    · cases h
    · next hk =>
      cases h
      exact .inr ⟨rfl, Bool.eq_false_iff.2 hk⟩
  | _ => cases h <;> exact .inl ⟨_, rfl, rfl, rfl⟩

theorem Service.knownCode_of {c : Instr} {v : Service} (h : service? c = some v) : knownCode v.code = true := by
  cases c <;> cases h <;> rfl

/-! ### The parts of the state -/

/-- The fields of the state. -/
inductive Part where
  | pending | inReset | startup | tickets | nextTicket | nightClock | zones | permits | used | totals | entry | exits | shows | cues
  | intakes | aligns | calls | dir | reader | links | orders | lamps | blink | ports

/-- Two states agree in a part. -/
def Part.Same (s t : State) : Part → Prop
  | .pending => t.pending = s.pending
  | .inReset => t.inReset = s.inReset
  | .startup => t.startup = s.startup
  | .tickets => t.tickets = s.tickets
  | .nextTicket => t.nextTicket = s.nextTicket
  | .nightClock => t.nightClock = s.nightClock
  | .zones => t.zones = s.zones
  | .permits => t.permits = s.permits
  | .used => t.used = s.used
  | .totals => t.totals = s.totals
  | .entry => t.entry = s.entry
  | .exits => t.exits = s.exits
  | .shows => t.shows = s.shows
  | .cues => t.cues = s.cues
  | .intakes => t.intakes = s.intakes
  | .aligns => t.aligns = s.aligns
  | .calls => t.calls = s.calls
  | .dir => t.dir = s.dir
  | .reader => t.reader = s.reader
  | .links => t.links = s.links
  | .orders => t.orders = s.orders
  | .lamps => t.lamps = s.lamps
  | .blink => t.blink = s.blink
  | .ports => t.ports = s.ports

/-- Only the parts listed can differ. -/
def OnlyIn (ps : List Part) (s t : State) : Prop := ∀ q : Part, q ∉ ps → q.Same s t

theorem Part.same_refl (s : State) (q : Part) : q.Same s s := by cases q <;> rfl

theorem Part.Same.trans {q : Part} {s t u : State} (h : q.Same s t) (h' : q.Same t u) : q.Same s u := by
  cases q <;> exact Eq.trans (b := _) h' h

theorem OnlyIn.refl (ps : List Part) (s : State) : OnlyIn ps s s := fun q _ => q.same_refl s

theorem OnlyIn.trans {ps : List Part} {s t u : State} (h : OnlyIn ps s t) (h' : OnlyIn ps t u) : OnlyIn ps s u :=
  fun q hq => (h q hq).trans (h' q hq)

/-- A list of parts may be widened. -/
theorem OnlyIn.mono {ps qs : List Part} {s t : State} (h : OnlyIn ps s t) (hsub : ps ⊆ qs) : OnlyIn qs s t :=
  fun q hq => h q fun hp => hq (hsub hp)

theorem onlyIn_ite {ps : List Part} {c : Prop} [Decidable c] {s t u : State} (ht : OnlyIn ps s t) (hu : OnlyIn ps s u) :
    OnlyIn ps s (if c then t else u) := by
  split
  · exact ht
  · exact hu

/-! The `clear…` masks of the shared operations, as lists of parts. -/

theorem onlyIn_of_clearCalls {s t : State} (h : t.clearCalls = s.clearCalls) : OnlyIn [.calls, .orders, .reader] s t := by
  simp only [State.clearCalls, State.mk.injEq] at h
  intro q hq
  cases q <;> simp_all [Part.Same]

theorem onlyIn_of_clearOrders {s t : State} (h : t.clearOrders = s.clearOrders) : OnlyIn [.tickets, .calls, .orders, .ports] s t := by
  simp only [State.clearOrders, State.mk.injEq] at h
  intro q hq
  cases q <;> simp_all [Part.Same]

theorem onlyIn_of_clearTickets {s t : State} (h : t.clearTickets = s.clearTickets) :
    OnlyIn [.tickets, .calls, .orders, .ports, .used, .zones, .totals] s t := by
  simp only [State.clearTickets, State.clearOrders, State.mk.injEq] at h
  intro q hq
  cases q <;> simp_all [Part.Same]

theorem onlyIn_of_clearLinks {s t : State} (h : t.clearLinks = s.clearLinks) :
    OnlyIn [.calls, .orders, .reader, .shows, .ports, .links] s t := by
  simp only [State.clearLinks, State.clearSound, State.clearCalls, State.mk.injEq] at h
  intro q hq
  cases q <;> simp_all [Part.Same]

theorem onlyIn_of_clearShow {s t : State} (h : t.clearShow = s.clearShow) :
    OnlyIn [.calls, .orders, .reader, .shows, .ports, .tickets, .zones, .cues, .intakes, .aligns] s t := by
  simp only [State.clearShow, State.clearSound, State.clearCalls, State.mk.injEq] at h
  intro q hq
  cases q <;> simp_all [Part.Same]

theorem onlyIn_of_clearInstant {s t : State} (h : t.clearInstant = s.clearInstant) :
    OnlyIn [.calls, .orders, .reader, .shows, .ports, .intakes, .aligns] s t := by
  simp only [State.clearInstant, State.clearSound, State.clearCalls, State.mk.injEq] at h
  intro q hq
  cases q <;> simp_all [Part.Same]

/-! ### What the handlings can touch -/

theorem onlyIn_calls {ps : List Part} {s t : State} (h : t.clearCalls = s.clearCalls)
    (hps : [Part.calls, .orders, .reader] ⊆ ps) : OnlyIn ps s t := (onlyIn_of_clearCalls h).mono hps

theorem onlyIn_orders {ps : List Part} {s t : State} (h : t.clearOrders = s.clearOrders)
    (hps : [Part.tickets, .calls, .orders, .ports] ⊆ ps) : OnlyIn ps s t := (onlyIn_of_clearOrders h).mono hps

theorem onlyIn_links {ps : List Part} {s t : State} (h : t.clearLinks = s.clearLinks)
    (hps : [Part.calls, .orders, .reader, .shows, .ports, .links] ⊆ ps) : OnlyIn ps s t := (onlyIn_of_clearLinks h).mono hps

/-- The parts that the removal of a ticket and the calls it may set going can touch. -/
def gateParts : List Part := [.tickets, .calls, .orders, .ports, .used, .zones, .totals, .reader]

theorem startAll_onlyIn {ps : List Part} (s : State) (hps : [Part.calls, .orders, .reader] ⊆ ps) : OnlyIn ps s s.startAll :=
  onlyIn_calls (startAll_frame s) hps

theorem serveReads_onlyIn {ps : List Part} (s : State) (hps : [Part.calls, .orders, .reader] ⊆ ps) : OnlyIn ps s s.serveReads :=
  onlyIn_calls (serveReads_frame s) hps

theorem modPort_onlyIn {ps : List Part} (p : PortId) (f : Port → Port) (s : State) (hps : .ports ∈ ps) :
    OnlyIn ps s (s.modPort p f) := by
  intro q hq
  cases q <;> first | exact absurd hps hq | rfl

theorem post_onlyIn {ps : List Part} (k : EventKind) (d : Detail) (s : State) (hps : .ports ∈ ps) :
    OnlyIn ps s (s.post k d) := by
  intro q hq
  cases q <;> first | exact absurd hps hq | rfl

theorem modEntry_onlyIn {ps : List Part} (n : LaneId) (f : EntryLane → EntryLane) (s : State) (hps : .entry ∈ ps) :
    OnlyIn ps s (s.modEntry n f) := by
  intro q hq
  cases q <;> first | exact absurd hps hq | rfl

theorem modShow_onlyIn {ps : List Part} (i : ScreenId) (f : Show → Show) (s : State) (hps : .shows ∈ ps) :
    OnlyIn ps s (s.modShow i f) := by
  intro q hq
  cases q <;> first | exact absurd hps hq | rfl

theorem modLink_onlyIn {ps : List Part} (i : ScreenId) (f : Link → Link) (s : State) (hps : .links ∈ ps) :
    OnlyIn ps s (s.modLink i f) := by
  intro q hq
  cases q <;> first | exact absurd hps hq | rfl

theorem answer_onlyIn {ps : List Part} (p : PortId) (code tag : Byte) (r : Reply) (s : State) (hps : .ports ∈ ps) :
    OnlyIn ps s (s.answer p code tag r) := by
  cases r with
  | ok pl => exact modPort_onlyIn p _ s hps
  | refuse st => exact modPort_onlyIn p _ s hps
  | deferred => exact .refl ps s

theorem postCrossings_onlyIn {ps : List Part} (n : Nat) (s : State) (hps : .ports ∈ ps) : OnlyIn ps s (s.postCrossings n) := by
  intro q hq
  simp only [State.postCrossings]
  cases q <;> first | exact absurd hps hq | (repeat' split) <;> rfl

theorem postFullRise_onlyIn {ps : List Part} (b : Bool) (i : ScreenId) (s : State) (hps : .ports ∈ ps) :
    OnlyIn ps s (s.postFullRise b i) := onlyIn_ite (post_onlyIn _ _ s hps) (.refl ps s)

/-! Admissions and lanes. -/

theorem void_onlyIn (n : Nat) (s : State) : OnlyIn gateParts s (s.void n) :=
  (onlyIn_of_clearTickets (void_frame n s)).mono (by simp [gateParts])

theorem admitBody_onlyIn (a : AdmitArgs) (s : State) :
    OnlyIn [.nextTicket, .tickets, .zones, .used, .totals, .entry, .ports] s (s.admitBody a).1 := by
  unfold State.admitBody
  split
  · exact .refl _ s
  · simp only [State.admitTicket]
    refine OnlyIn.trans (fun q hq => ?_) (postFullRise_onlyIn _ _ _ (by simp))
    cases hp : a.payment <;> cases q <;> first | (exfalso; apply hq; simp; done) | rfl
  · exact .refl _ s

theorem departBody_onlyIn (n : Nat) (s : State) : OnlyIn gateParts s (s.departBody n).1 := by
  unfold State.departBody
  split
  · exact .refl _ s
  · split
    · exact .refl _ s
    · dsimp only
      refine OnlyIn.trans ?_ (startAll_onlyIn _ (by simp [gateParts]))
      exact (onlyIn_of_clearTickets (departTicket_frame _ _ s)).mono (by simp [gateParts])

theorem setZoneBody_onlyIn (a : ScreenId × Nat) (s : State) : OnlyIn [.zones, .ports] s (s.setZoneBody a).1 := by
  simp only [State.setZoneBody]
  split
  · exact .refl _ s
  · split
    · exact .refl _ s
    · refine OnlyIn.trans (fun q hq => ?_) (postFullRise_onlyIn _ _ _ (by simp))
      cases q <;> first | (exfalso; apply hq; simp; done) | rfl

theorem closeNightBody_onlyIn (b : List Byte) (s : State) :
    OnlyIn [.tickets, .used, .zones, .nextTicket, .nightClock, .totals, .orders, .calls, .entry, .exits] s (s.closeNightBody b).1 := by
  unfold State.closeNightBody
  split
  · intro q hq
    cases q <;> first | (exfalso; apply hq; simp; done) | rfl
  · exact .refl _ s

theorem setLaneBody_onlyIn (a : LaneName × LaneSettings) (s : State) : OnlyIn [.entry, .exits] s (s.setLaneBody a).1 := by
  unfold State.setLaneBody
  intro q hq
  split <;> split <;> cases q <;> first | (exfalso; apply hq; simp; done) | rfl

theorem laneOpenBody_onlyIn (a : LaneName) (s : State) : OnlyIn [.entry, .exits] s (s.laneOpenBody a).1 := by
  intro q hq
  cases a <;> cases q <;> first | (exfalso; apply hq; simp; done) | rfl

theorem laneCloseBody_onlyIn (a : LaneName) (s : State) : OnlyIn [.entry, .exits] s (s.laneCloseBody a).1 := by
  unfold State.laneCloseBody
  split
  · exact .refl _ s
  · intro q hq
    cases a <;> cases q <;> first | (exfalso; apply hq; simp; done) | rfl

theorem cancelAdmitBody_onlyIn (n : Nat) (s : State) : OnlyIn (.entry :: gateParts) s (s.cancelAdmitBody n).1 := by
  unfold State.cancelAdmitBody
  split
  · exact .refl _ s
  · split
    · exact .refl _ s
    · split
      · dsimp only
        refine OnlyIn.trans ?_ (startAll_onlyIn _ (by simp [gateParts]))
        refine OnlyIn.trans ?_ (modEntry_onlyIn _ _ _ (by simp))
        exact (void_onlyIn n s).mono (by simp)
      · exact .refl _ s

theorem commit_onlyIn (n : Nat) (cls : VehicleClass) (s : State) : OnlyIn [.tickets, .zones, .totals] s (s.commit n cls) := by
  unfold State.commit
  split
  · exact .refl _ s
  · intro q hq
    cases q <;> first | (exfalso; apply hq; simp; done) | rfl

/-- The parts that the passage of a vehicle can touch. -/
def passageParts : List Part := [.tickets, .zones, .totals, .entry, .ports]

theorem commitAdmission_onlyIn (n : LaneId) (cls : VehicleClass) (s : State) : OnlyIn passageParts s (s.commitAdmission n cls) := by
  unfold State.commitAdmission
  split
  · exact .refl _ s
  · exact ((commit_onlyIn _ cls s).mono (by simp [passageParts])).trans (modEntry_onlyIn _ _ _ (by simp [passageParts]))

theorem laneResetBody_onlyIn (a : LaneName) (s : State) : OnlyIn (.entry :: .exits :: gateParts) s (s.laneResetBody a).1 := by
  cases a with
  | entry n =>
    simp only [State.laneResetBody, State.resetEntry]
    refine OnlyIn.trans ?_ (startAll_onlyIn _ (by simp [gateParts]))
    refine OnlyIn.trans ?_ (modEntry_onlyIn _ _ _ (by simp))
    split
    · exact (void_onlyIn _ s).mono (by simp)
    · exact (commitAdmission_onlyIn n _ s).mono (by simp [passageParts, gateParts])
    · exact .refl _ s
  | exit n =>
    intro q hq
    cases q <;> first | (exfalso; apply hq; simp; done) | rfl

theorem entryRise_onlyIn (n : LaneId) (s : State) : OnlyIn passageParts s (s.entryRise n) := by
  simp only [State.entryRise]
  intro q hq
  split
  · exact q.same_refl s
  · split
    · cases q <;> first | (exfalso; apply hq; simp [passageParts]; done) | rfl
    · split <;> cases q <;> first | (exfalso; apply hq; simp [passageParts]; done) | rfl
    all_goals cases q <;> first | (exfalso; apply hq; simp [passageParts]; done) | rfl

theorem endPassage_onlyIn (n : LaneId) (s : State) : OnlyIn passageParts s (s.endPassage n) := by
  have settled : OnlyIn passageParts s ((s.commitAdmission n (s.entry[n]).classify).modEntry n
      fun l => { l.settle with lastCommit := l.admission, admission := none }) :=
    (commitAdmission_onlyIn n _ s).trans (modEntry_onlyIn _ _ _ (by simp [passageParts]))
  unfold State.endPassage
  refine onlyIn_ite ?_ settled
  refine OnlyIn.trans ?_ (post_onlyIn _ _ _ (by simp [passageParts]))
  exact settled.trans (modEntry_onlyIn _ _ _ (by simp [passageParts]))

theorem entryFall_onlyIn (n : LaneId) (us : Nat) (s : State) : OnlyIn passageParts s (s.entryFall n us) := by
  have lane (f : EntryLane → EntryLane) (u : State) : OnlyIn passageParts u (u.modEntry n f) := modEntry_onlyIn n f u (by simp [passageParts])
  simp only [State.entryFall]
  split
  · exact .refl _ s
  · split
    · exact (lane _ s).trans (onlyIn_ite (endPassage_onlyIn n _) (lane _ _))
    · exact (lane _ s).trans (lane _ _)
    all_goals exact lane _ s

theorem passWindowExpiry_onlyIn (n : LaneId) (s : State) : OnlyIn (.entry :: gateParts) s (s.passWindowExpiry n) := by
  simp only [State.passWindowExpiry]
  refine onlyIn_ite ?_ (.refl _ s)
  refine OnlyIn.trans ?_ ((modEntry_onlyIn _ _ _ (by simp)).trans (post_onlyIn _ _ _ (by simp [gateParts])))
  split
  · exact (void_onlyIn _ s).mono (by simp)
  · exact .refl _ s

theorem entryStuckExpiry_onlyIn (n : LaneId) (s : State) : OnlyIn passageParts s (s.entryStuckExpiry n) := by
  simp only [State.entryStuckExpiry]
  refine onlyIn_ite ?_ (.refl _ s)
  refine OnlyIn.trans ?_ (post_onlyIn _ _ _ (by simp [passageParts]))
  refine OnlyIn.trans ?_ (modEntry_onlyIn _ _ _ (by simp [passageParts]))
  exact onlyIn_ite (commitAdmission_onlyIn n _ s) (.refl _ s)

theorem exitStuckExpiry_onlyIn (n : ExitId) (s : State) : OnlyIn [.exits, .ports] s (s.exitStuckExpiry n) := by
  simp only [State.exitStuckExpiry]
  refine onlyIn_ite ?_ (.refl _ s)
  intro q hq
  cases q <;> first | (exfalso; apply hq; simp; done) | rfl

/-! Shows, cues, intakes and calls. -/

theorem setScreenBody_onlyIn (a : ScreenId × ScreenSettings) (s : State) : OnlyIn [.shows, .aligns] s (s.setScreenBody a).1 := by
  unfold State.setScreenBody
  intro q hq
  split <;> cases q <;> first | (exfalso; apply hq; simp; done) | rfl

theorem armShowBody_onlyIn (i : ScreenId) (s : State) : OnlyIn [.shows, .cues, .orders, .intakes, .aligns] s (s.armShowBody i).1 := by
  unfold State.armShowBody
  split
  · intro q hq
    cases q <;> first | (exfalso; apply hq; simp; done) | simp [Part.Same, State.armShow, State.openIntake]
  · exact .refl _ s

theorem startShowBody_onlyIn (i : ScreenId) (s : State) : OnlyIn [.shows] s (s.startShowBody i).1 := by
  unfold State.startShowBody
  intro q hq
  split <;> cases q <;> first | (exfalso; apply hq; simp; done) | rfl

theorem holdShowBody_onlyIn (i : ScreenId) (s : State) : OnlyIn [.shows, .ports] s (s.holdShowBody i).1 := by
  unfold State.holdShowBody
  intro q hq
  split <;> cases q <;> first | (exfalso; apply hq; simp; done) | rfl

theorem resumeShowBody_onlyIn (i : ScreenId) (s : State) : OnlyIn [.shows, .aligns] s (s.resumeShowBody i).1 := by
  simp only [State.resumeShowBody, State.resumeShow]
  intro q hq
  split
  · split
    · exact q.same_refl s
    · split <;> cases q <;> first | (exfalso; apply hq; simp; done) | rfl
  · exact q.same_refl s

/-- The parts that the end of a show and the calls it may set going can touch. -/
def endParts : List Part := [.shows, .intakes, .aligns, .tickets, .calls, .orders, .ports, .reader]

theorem endShow_onlyIn (i : ScreenId) (s : State) : OnlyIn endParts s (s.endShow i) := by
  unfold State.endShow State.cancelHeld
  refine OnlyIn.trans ?_ (post_onlyIn _ _ _ (by simp [endParts]))
  refine OnlyIn.trans ?_ (onlyIn_orders (removeOrders_frame _ _ _) (by simp [endParts]))
  intro q hq
  cases q <;> first | (exfalso; apply hq; simp [endParts]; done) | rfl

theorem endShowBody_onlyIn (i : ScreenId) (s : State) : OnlyIn endParts s (s.endShowBody i).1 := by
  unfold State.endShowBody
  split
  · dsimp only
    exact (endShow_onlyIn i s).trans (startAll_onlyIn _ (by simp [endParts]))
  · exact .refl _ s

theorem screenReset_onlyIn (i : ScreenId) (s : State) :
    OnlyIn [.shows, .intakes, .aligns, .calls, .orders, .reader] s (s.screenReset i) := by
  simp only [State.screenReset]
  refine OnlyIn.trans ?_ (serveReads_onlyIn _ (by simp))
  refine OnlyIn.trans ?_ (onlyIn_calls (cutCall_frame _ _) (by simp))
  refine OnlyIn.trans ?_ (onlyIn_calls (flushQueue_frame _ _) (by simp))
  intro q hq
  cases q <;> first | (exfalso; apply hq; simp; done) |
    simp [Part.Same, State.closeIntake, State.setMode, State.closeCalls, State.setOrderWindow]

theorem loadCueBody_onlyIn (a : LoadCueArgs) (s : State) : OnlyIn [.cues] s (s.loadCueBody a).1 := by
  unfold State.loadCueBody
  intro q hq
  split <;> cases q <;> first | (exfalso; apply hq; simp; done) | rfl

theorem deleteCueBody_onlyIn (a : ScreenId × Nat) (s : State) : OnlyIn [.cues] s (s.deleteCueBody a).1 := by
  simp only [State.deleteCueBody]
  intro q hq
  split
  · exact q.same_refl s
  · split <;> cases q <;> first | (exfalso; apply hq; simp; done) | rfl

theorem clearCuesBody_onlyIn (i : ScreenId) (s : State) : OnlyIn [.cues] s (s.clearCuesBody i).1 := by
  unfold State.clearCuesBody
  intro q hq
  split <;> cases q <;> first | (exfalso; apply hq; simp; done) | rfl

theorem clipRescanBody_onlyIn (p : PortId) (tag : Byte) (b : List Byte) (s : State) : OnlyIn [.dir] s (s.clipRescanBody p tag b).1 := by
  unfold State.clipRescanBody
  intro q hq
  split <;> cases q <;> first | (exfalso; apply hq; simp; done) | rfl

theorem announceBody_onlyIn (a : ScreenId × List Nat) (s : State) : OnlyIn [.calls, .orders, .reader] s (s.announceBody a).1 := by
  unfold State.announceBody
  split
  · exact .refl _ s
  · split
    · exact .refl _ s
    · dsimp only
      refine OnlyIn.trans (fun q hq => ?_) (startAll_onlyIn _ (by simp))
      cases q <;> first | (exfalso; apply hq; simp; done) | rfl

theorem framePulse_onlyIn (i : ScreenId) (us : Nat) (s : State) :
    OnlyIn (.zones :: .cues :: endParts) s (s.framePulse i us).startAll := by
  refine OnlyIn.trans ?_ (startAll_onlyIn _ (by simp [endParts]))
  exact (onlyIn_of_clearShow (framePulse_frame i us s)).mono (by simp [endParts])

theorem stallExpiry_onlyIn (i : ScreenId) (s : State) : OnlyIn [.shows, .aligns, .ports] s (s.stallExpiry i) := by
  simp only [State.stallExpiry]
  refine onlyIn_ite (.refl _ s) ?_
  split <;> intro q hq <;> cases q <;> first | (exfalso; apply hq; simp; done) | simp [Part.Same, State.setMode]

theorem blockArrival_onlyIn (i : ScreenId) (b : List Byte) (s : State) : OnlyIn [.intakes, .ports] s (s.blockArrival i b) := by
  simp only [State.blockArrival]
  intro q hq
  split <;> cases q <;> first | (exfalso; apply hq; simp; done) | rfl

/-! Exciter links and orders. -/

/-- The parts that the events of an exciter link can touch. -/
def linkParts : List Part := [.calls, .orders, .reader, .shows, .ports, .links]

theorem setExciter_onlyIn (heard : List LineInput) (i : ScreenId) (t : ExciterSettings) (s : State) :
    OnlyIn linkParts s (s.setExciter heard i t) := by
  unfold State.setExciter
  refine onlyIn_ite (.refl _ s) ?_
  exact onlyIn_links ((cycle_frame _ _).trans (modLink_frame i _ s)) (by simp [linkParts])

theorem serviceStep_onlyIn (s : State) : OnlyIn [.orders, .ports] s s.serviceStep := by
  simp only [State.serviceStep]
  split
  · exact .refl _ s
  · split
    · exact .refl _ s
    · intro q hq
      cases q <;> first | (exfalso; apply hq; simp; done) | simp [Part.Same, State.joinKitchen, State.modOrder]

theorem takeOrderBody_onlyIn (b : List Byte) (s : State) : OnlyIn [.orders, .ports] s (s.takeOrderBody b).1 := by
  unfold State.takeOrderBody
  split
  · exact .refl _ s
  · split
    · simp only [State.takeOrder]
      refine OnlyIn.trans ?_ (postCrossings_onlyIn _ _ (by simp))
      refine OnlyIn.trans (fun q hq => ?_) (serviceStep_onlyIn _)
      cases q <;> first | (exfalso; apply hq; simp; done) | rfl
    · exact .refl _ s

theorem markReadyBody_onlyIn (n : Nat) (s : State) : OnlyIn [.orders, .calls, .reader] s (s.markReadyBody n).1 := by
  unfold State.markReadyBody
  split
  · exact .refl _ s
  · split
    · dsimp only [State.makeReady]
      refine OnlyIn.trans ?_ (startAll_onlyIn _ (by simp))
      refine OnlyIn.trans (fun q hq => ?_) (onlyIn_calls (enqueueCall_frame _ _ _) (by simp))
      cases q <;> first | (exfalso; apply hq; simp; done) | rfl
    · exact .refl _ s

/-- The parts that the removal of orders and the calls it may set going can touch. -/
def orderParts : List Part := [.tickets, .calls, .orders, .ports, .reader]

theorem removeOrders_startAll_onlyIn (out : OrderOutcome) (os : List Order) (s : State) :
    OnlyIn orderParts s (s.removeOrders out os).startAll :=
  (onlyIn_orders (removeOrders_frame out os s) (by simp [orderParts])).trans (startAll_onlyIn _ (by simp [orderParts]))

theorem collectOrderBody_onlyIn (n : Nat) (s : State) : OnlyIn orderParts s (s.collectOrderBody n).1 := by
  unfold State.collectOrderBody
  split
  · exact .refl _ s
  · split
    · dsimp only
      exact removeOrders_startAll_onlyIn _ _ s
    · exact .refl _ s

theorem cancelOrderBody_onlyIn (n : Nat) (s : State) : OnlyIn orderParts s (s.cancelOrderBody n).1 := by
  unfold State.cancelOrderBody
  split
  · exact .refl _ s
  · dsimp only
    exact removeOrders_startAll_onlyIn _ _ s

theorem placeOrderBody_onlyIn (p : PortId) (a : PlaceOrderArgs) (s : State) : OnlyIn [.orders, .tickets, .ports] s (s.placeOrderBody p a).1 := by
  unfold State.placeOrderBody
  split
  · exact .refl _ s
  · split
    · exact .refl _ s
    · simp only [State.placeOrder]
      refine OnlyIn.trans (fun q hq => ?_) (postCrossings_onlyIn _ _ (by simp))
      cases q <;> first | (exfalso; apply hq; simp; done) | rfl

theorem advanceNight_onlyIn (s : State) : OnlyIn (.nightClock :: orderParts) s s.advanceNight := by
  unfold State.advanceNight
  refine onlyIn_ite ?_ (.refl _ s)
  refine OnlyIn.trans ?_ (startAll_onlyIn _ (by simp [orderParts]))
  refine OnlyIn.trans (fun q hq => ?_) (onlyIn_orders (examineShelf_frame _) (by simp [orderParts]))
  cases q <;> first | (exfalso; apply hq; simp; done) | rfl

/-! The directory, device reset and the ports. -/

theorem rescanDone_onlyIn (header : List Byte) (s : State) :
    OnlyIn [.dir, .ports, .calls, .orders, .reader] s (s.rescanDone header) := by
  unfold State.rescanDone
  split
  · exact .refl _ s
  · refine OnlyIn.trans (fun q hq => ?_) (startAll_onlyIn _ (by simp))
    cases q <;> first | (exfalso; apply hq; simp; done) | rfl

theorem startupDone_onlyIn (header : List Byte) (s : State) :
    OnlyIn [.startup, .dir, .ports, .calls, .orders, .reader] s (s.startupDone header) := by
  unfold State.startupDone
  refine OnlyIn.trans (fun q hq => ?_) (startAll_onlyIn _ (by simp))
  cases q <;> first | (exfalso; apply hq; simp; done) | rfl

theorem endReset_onlyIn (e : ResetEnd) (s : State) : OnlyIn (.inReset :: .blink :: linkParts) s (s.endReset e) := by
  refine OnlyIn.trans (fun q hq => ?_) (onlyIn_links (endReset_frame e s) (by simp [linkParts]))
  cases q <;> first | (exfalso; apply hq; simp [linkParts]; done) | rfl

theorem refuseUnknown_onlyIn (p : PortId) (code tag : Byte) (payload : List Byte) (s : State) :
    OnlyIn [.ports] s (s.refuseUnknown p code tag payload) := by
  unfold State.refuseUnknown
  intro q hq
  split <;> cases q <;> first | (exfalso; apply hq; simp; done) | rfl

/-! ### What each row can touch -/

/-- The parts that the handling of a request row can touch, its port apart. -/
def requestParts : Instr → List Part
  | .admitCar _ _ _ => [.nextTicket, .tickets, .zones, .used, .totals, .entry]
  | .depart _ _ _ => gateParts
  | .passSet _ _ _ => [.permits]
  | .setZone _ _ _ | .entryOpen _ _ _ | .entryClose _ _ _ => [.zones]
  | .closeNight _ _ _ => [.tickets, .used, .zones, .nextTicket, .nightClock, .totals, .orders, .calls, .entry, .exits]
  | .setLane _ _ _ | .laneOpen _ _ _ | .laneClose _ _ _ => [.entry, .exits]
  | .cancelAdmit _ _ _ => .entry :: gateParts
  | .laneReset _ _ _ => .entry :: .exits :: gateParts
  | .setScreen _ _ _ | .resumeShow _ _ _ => [.shows, .aligns]
  | .armShow _ _ _ => [.shows, .cues, .orders, .intakes, .aligns]
  | .startShow _ _ _ | .holdShow _ _ _ => [.shows]
  | .endShow _ _ _ => endParts
  | .screenReset _ _ _ => [.shows, .intakes, .aligns, .calls, .orders, .reader]
  | .loadCue _ _ _ | .deleteCue _ _ _ | .clearCues _ _ _ => [.cues]
  | .setSound _ _ _ => [.intakes]
  | .clipRescan _ _ _ => [.dir]
  | .announce _ _ _ | .callsOpen _ _ _ | .markReady _ _ _ => [.calls, .orders, .reader]
  | .setCalls _ _ _ | .callsClose _ _ _ | .ordersOpen _ _ _ | .ordersClose _ _ _ => [.calls]
  | .setExciter _ _ _ => linkParts
  | .setKitchen _ _ _ | .takeOrder _ _ _ => [.orders]
  | .collectOrder _ _ _ | .cancelOrder _ _ _ => orderParts
  | .placeOrder _ _ _ => [.orders, .tickets]
  | .setLamp _ _ _ => [.lamps]
  | _ => []

/-- The parts that the event of a row can touch. -/
def eventParts : Instr → List Part
  | .deviceReset _ _ =>
    [.inReset, .startup, .tickets, .nextTicket, .nightClock, .zones, .permits, .used, .totals, .entry, .exits, .shows, .cues, .intakes,
      .aligns, .calls, .dir, .reader, .links, .orders, .lamps, .blink, .ports]
  | .startupDirectoryReadDone _ => [.startup, .dir, .ports, .calls, .orders, .reader]
  | .clipRescanDone _ => [.dir, .ports, .calls, .orders, .reader]
  | .nightClockAdvance => .nightClock :: orderParts
  | .entryLoopRise _ | .entryLoopFall _ _ | .entryStuckLimitExpiry _ => passageParts
  | .exitLoopRise _ | .exitLoopFall _ | .exitStuckTimerExpiry _ => [.exits, .ports]
  | .passWindowExpiry _ => .entry :: gateParts
  | .gapWindowExpiry _ | .longLampTimerExpiry _ => [.entry]
  | .framePulse _ _ => .zones :: .cues :: endParts
  | .showMarkEdge _ | .frameMonitorStall _ => [.shows]
  | .stallTimerExpiry _ => [.shows, .aligns, .ports]
  | .audioBlockArrival _ _ => [.intakes, .ports]
  | .holdTimerExpiry _ => [.intakes]
  | .outputInstant _ _ => [.calls, .orders, .reader, .shows, .ports, .intakes, .aligns]
  | .clipReadComplete _ => [.calls, .orders, .reader]
  | .exciterAck _ _ _ | .exciterStatus _ _ _ | .ackTimerExpiry _ _ | .refreshTimerExpiry _ _ => linkParts
  | .exciterBadMessage _ | .settingsSendEnd _ | .statusAckSendEnd _ => [.links]
  | .unknownRequest _ _ _ _ | .portByteReceived _ _ _ | .gapTimerExpiry _ | .parserTake _ | .replyByteSent _ | .holdInChange _ _ =>
    [.ports]
  | .blinkPhaseChange => [.blink]
  | .endOfDeviceReset _ => .inReset :: .blink :: linkParts
  | _ => []

/-- A request touches its port and what its handling touches. -/
theorem Service.run_onlyIn {v : Service} {ps : List Part} {s t : State} (hbody : ∀ u : State, OnlyIn (.ports :: ps) u (v.body v.payload u).1)
    (h : v.run s = .next t) : OnlyIn (.ports :: ps) s t := by
  obtain e | ⟨q, e⟩ | ⟨q, st, e⟩ | ⟨q, e⟩ := serve_cases v.port v.code v.tag v.payload v.may v.lengthOk v.body s <;> cases e.symm.trans h
  · exact .refl _ s
  · exact modPort_onlyIn v.port _ s (by simp)
  · exact (modPort_onlyIn v.port _ s (by simp)).trans <| (modPort_onlyIn v.port _ _ (by simp)).trans (answer_onlyIn v.port v.code v.tag _ _ (by simp))
  · exact (modPort_onlyIn v.port _ s (by simp)).trans <| (hbody _).trans (answer_onlyIn v.port v.code v.tag _ _ (by simp))

theorem ranged_onlyIn {α : Type} {args : List Byte → Option α} {body : α → State → State × Reply} {ps : List Part}
    (hbody : ∀ a (u : State), OnlyIn ps u (body a u).1) (payload : List Byte) (u : State) : OnlyIn ps u (ranged args body payload u).1 := by
  unfold ranged
  split
  · exact .refl ps u
  · exact hbody _ u

theorem OnlyIn.cons {ps : List Part} {s t : State} (h : OnlyIn ps s t) (q : Part) : OnlyIn (q :: ps) s t := h.mono (by simp)

/-- The handling of a request row, said once for its service. -/
theorem service_onlyIn {c : Instr} {v : Service} (hv : service? c = some v) (u : State) :
    OnlyIn (.ports :: requestParts c) u (v.body v.payload u).1 := by
  cases c <;> cases hv
  case admitCar => exact ranged_onlyIn (fun a u => (admitBody_onlyIn a u).mono (by simp [requestParts])) _ u
  case depart => exact ranged_onlyIn (fun a u => (departBody_onlyIn a u).cons _) _ u
  case setZone => exact ranged_onlyIn (fun a u => (setZoneBody_onlyIn a u).mono (by simp [requestParts])) _ u
  case closeNight => exact (closeNightBody_onlyIn [] u).cons _
  case setLane => exact ranged_onlyIn (fun a u => (setLaneBody_onlyIn a u).cons _) _ u
  case laneOpen => exact ranged_onlyIn (fun a u => (laneOpenBody_onlyIn a u).cons _) _ u
  case laneClose => exact ranged_onlyIn (fun a u => (laneCloseBody_onlyIn a u).cons _) _ u
  case cancelAdmit => exact ranged_onlyIn (fun a u => (cancelAdmitBody_onlyIn a u).cons _) _ u
  case laneReset => exact ranged_onlyIn (fun a u => (laneResetBody_onlyIn a u).cons _) _ u
  case setScreen => exact ranged_onlyIn (fun a u => (setScreenBody_onlyIn a u).cons _) _ u
  case armShow => exact ranged_onlyIn (fun a u => (armShowBody_onlyIn a u).cons _) _ u
  case startShow => exact ranged_onlyIn (fun a u => (startShowBody_onlyIn a u).cons _) _ u
  case holdShow => exact ranged_onlyIn (fun a u => (holdShowBody_onlyIn a u).mono (by simp [requestParts])) _ u
  case resumeShow => exact ranged_onlyIn (fun a u => (resumeShowBody_onlyIn a u).cons _) _ u
  case endShow => exact ranged_onlyIn (fun a u => (endShowBody_onlyIn a u).cons _) _ u
  case screenReset => exact ranged_onlyIn (fun a u => (screenReset_onlyIn a u).cons _) _ u
  case loadCue => exact ranged_onlyIn (fun a u => (loadCueBody_onlyIn a u).cons _) _ u
  case deleteCue => exact ranged_onlyIn (fun a u => (deleteCueBody_onlyIn a u).cons _) _ u
  case clearCues => exact ranged_onlyIn (fun a u => (clearCuesBody_onlyIn a u).cons _) _ u
  case clipRescan => exact (clipRescanBody_onlyIn _ _ [] u).cons _
  case announce => exact ranged_onlyIn (fun a u => (announceBody_onlyIn a u).cons _) _ u
  case callsOpen => exact ranged_onlyIn (fun a u => onlyIn_calls (openCalls_frame a u) (by simp [requestParts])) _ u
  case setExciter => exact ranged_onlyIn (fun a u => (setExciter_onlyIn _ a.1 a.2 u).cons _) _ u
  case takeOrder => exact (takeOrderBody_onlyIn [] u).mono (by simp [requestParts])
  case markReady => exact ranged_onlyIn (fun a u => (markReadyBody_onlyIn a u).mono (by simp [requestParts])) _ u
  case collectOrder => exact ranged_onlyIn (fun a u => (collectOrderBody_onlyIn a u).cons _) _ u
  case cancelOrder => exact ranged_onlyIn (fun a u => (cancelOrderBody_onlyIn a u).cons _) _ u
  case placeOrder => exact ranged_onlyIn (fun a u => (placeOrderBody_onlyIn _ a u).mono (by simp [requestParts])) _ u
  case passSet | entryOpen | entryClose | setSound | setCalls | callsClose | ordersOpen | ordersClose | setKitchen | setLamp =>
    refine ranged_onlyIn (fun a u q hq => ?_) _ u
    cases q <;> first | (exfalso; apply hq; simp [requestParts]; done) | rfl
  case clearEvents => exact ranged_onlyIn (fun a u => modPort_onlyIn _ _ u (by simp)) _ u
  case setAttention => exact ranged_onlyIn (fun a u => modPort_onlyIn _ _ u (by simp)) _ u
  case readEvents => exact modPort_onlyIn _ _ u (by simp)
  case ticketQuery =>
    refine ranged_onlyIn (fun a u => ?_) _ u
    unfold State.ticketQueryBody
    split <;> exact .refl _ u
  case orderQuery =>
    refine ranged_onlyIn (fun a u => ?_) _ u
    unfold State.orderQueryBody
    split <;> exact .refl _ u
  case zoneReport | nightReport | gateReport | clipQuery | kitchenReport | lampQuery => exact .refl _ u
  case passQuery | screenQuery | cueQuery | intakeQuery | alignQuery | callQuery | exciterQuery | portQuery =>
    exact ranged_onlyIn (fun a u => .refl _ u) _ u

theorem next_onlyIn {ps : List Part} {s t u : State} (h : (.next u : Host.Outcome State Fault Refusal) = .next t) (hu : OnlyIn ps s u) :
    OnlyIn ps s t := by
  cases h
  exact hu

/-- The event of a row that is no request, said once. -/
theorem event_onlyIn {c : Instr} (hc : service? c = none) {s t : State} (h : exec c s = .next t) : OnlyIn (eventParts c) s t := by
  have link (i : ScreenId) (f : Link → Link) : OnlyIn linkParts s (s.modLink i f) := modLink_onlyIn i f s (by simp [linkParts])
  cases c <;> first | exact absurd hc (Option.some_ne_none _) | refine next_onlyIn h ?_
  case deviceReset =>
    intro q hq
    cases q <;> first | (exfalso; apply hq; simp [eventParts]; done) | rfl
  case startupDirectoryReadDone header => exact onlyIn_ite (startupDone_onlyIn header s) (.refl _ s)
  case clipRescanDone header => exact rescanDone_onlyIn header s
  case unknownRequest p code tag payload => exact onlyIn_ite (.refl _ s) (refuseUnknown_onlyIn p code tag payload s)
  case nightClockAdvance => exact advanceNight_onlyIn s
  case entryLoopRise n => exact entryRise_onlyIn n s
  case entryLoopFall n us => exact entryFall_onlyIn n us s
  case passWindowExpiry n =>
    exact (passWindowExpiry_onlyIn n s).trans (startAll_onlyIn _ (by simp [gateParts]))
  case gapWindowExpiry n => exact onlyIn_ite (modEntry_onlyIn n _ s (by simp [eventParts])) (.refl _ s)
  case entryStuckLimitExpiry n => exact entryStuckExpiry_onlyIn n s
  case longLampTimerExpiry n => exact modEntry_onlyIn n _ s (by simp [eventParts])
  case exitStuckTimerExpiry n => exact exitStuckExpiry_onlyIn n s
  case framePulse i us => exact framePulse_onlyIn i us s
  case showMarkEdge i => exact onlyIn_ite (modShow_onlyIn i _ s (by simp [eventParts])) (.refl _ s)
  case stallTimerExpiry i => exact stallExpiry_onlyIn i s
  case frameMonitorStall i => exact modShow_onlyIn i _ s (by simp [eventParts])
  case audioBlockArrival i bytes => exact blockArrival_onlyIn i bytes s
  case outputInstant i us => exact onlyIn_ite (.refl _ s) (onlyIn_of_clearInstant (outputInstant_frame i us s))
  case clipReadComplete bytes => exact onlyIn_of_clearCalls (readComplete_frame bytes s)
  case exciterAck m number flags =>
    split
    · exact onlyIn_ite ((link m.screen _).trans (onlyIn_of_clearLinks (takeAck_frame _ _ _ _))) (.refl _ s)
    · exact .refl _ s
  case exciterStatus m number flags =>
    split
    · exact onlyIn_ite ((link m.screen _).trans (onlyIn_of_clearLinks (takeStatusMessage_frame _ _ _ _))) (.refl _ s)
    · exact .refl _ s
  case exciterBadMessage m => split <;> first | exact modLink_onlyIn m.screen _ s (by simp [eventParts]) | exact .refl _ s
  case settingsSendEnd m => split <;> first | exact modLink_onlyIn m.screen _ s (by simp [eventParts]) | exact .refl _ s
  case statusAckSendEnd m => split <;> first | exact modLink_onlyIn m.screen _ s (by simp [eventParts]) | exact .refl _ s
  case ackTimerExpiry i heard => exact onlyIn_ite ((link i _).trans (onlyIn_of_clearLinks (ackExpiry_frame i _))) (.refl _ s)
  case refreshTimerExpiry i heard => exact onlyIn_ite ((link i _).trans (onlyIn_of_clearLinks (cycle_frame i _))) (.refl _ s)
  case portByteReceived p _ _ | gapTimerExpiry p | replyByteSent p | holdInChange p _ => exact modPort_onlyIn p _ s (by simp [eventParts])
  case parserTake p => exact onlyIn_ite (.refl _ s) (modPort_onlyIn p _ s (by simp [eventParts]))
  case endOfDeviceReset e => exact onlyIn_ite (endReset_onlyIn e s) (.refl _ s)
  case exitLoopRise | exitLoopFall | holdTimerExpiry | blinkPhaseChange =>
    intro q hq
    cases q <;> first | (exfalso; apply hq; simp [eventParts]; done) | rfl

/-- The parts that a row can touch: a request's port with what its handling touches, or what its event touches. -/
def touchedParts (c : Instr) : List Part := if (service? c).isSome then .ports :: requestParts c else eventParts c

theorem exec_onlyIn {c : Instr} {s t : State} (h : exec c s = .next t) : OnlyIn (touchedParts c) s t := by
  unfold touchedParts
  cases hv : service? c with
  | none => exact event_onlyIn hv h
  | some v =>
    rw [exec_of_service hv] at h
    exact Service.run_onlyIn (service_onlyIn hv) h

/-! ### Every command and every step -/

theorem Service.run_answers (v : Service) (s : State) : ∃ t, v.run s = .next t := by
  obtain e | ⟨q, e⟩ | ⟨q, st, e⟩ | ⟨q, e⟩ := serve_cases v.port v.code v.tag v.payload v.may v.lengthOk v.body s <;> exact ⟨_, e⟩

theorem exec_answers (c : Instr) (s : State) : ∃ t, exec c s = .next t := by
  cases hv : service? c with
  | some v => exact exec_of_service hv s ▸ v.run_answers s
  | none => cases c <;> first | exact absurd hv (Option.some_ne_none _) | exact ⟨_, rfl⟩

/-- No command touches the queue of commands. -/
theorem pending_not_touched (c : Instr) : Part.pending ∉ touchedParts c := by
  cases c <;> simp [touchedParts, service?, requestParts, eventParts, gateParts, endParts, linkParts, orderParts, passageParts]

/-- Settles O3: no row stops, and none touches the queue. -/
theorem everyCommandAnswers : Obligations.EveryCommandAnswers := by
  unfold Obligations.EveryCommandAnswers
  intro c s
  obtain ⟨t, h⟩ := exec_answers c s
  exact ⟨t, h, exec_onlyIn h .pending (pending_not_touched c)⟩

/-- Settles O1, by the definition of a step. -/
theorem stepRunsTheFrontCommand : Obligations.StepRunsTheFrontCommand := by
  unfold Obligations.StepRunsTheFrontCommand
  intro c rest s
  rfl

/-- The monitor at a passing of time, its reference written as R52 has it. -/
theorem FrameMonitor.elapse_eq (r : Rate) (us : Nat) (m : FrameMonitor) :
    m.elapse r us = { m with
      e := min r.stallLimit (m.e + us), reference := if r.stallLimit ≤ m.e + us then .stale else m.reference } := by
  simp only [FrameMonitor.elapse, min_eq_left_iff]

/-- A lane at a passing of time: its occupancy alone counts, and in PASSING alone. -/
theorem EntryLane.elapse_eq (us : Nat) (l : EntryLane) :
    l.elapse us = { l with occupancyUs := if l.state = .passing then l.occupancyUs + us else l.occupancyUs } := by
  unfold EntryLane.elapse
  split <;> rfl

/-- Settles O2: the tick, its two elapses written out. -/
theorem emptyQueueLetsAMicrosecondPass : Obligations.EmptyQueueLetsAMicrosecondPass := by
  unfold Obligations.EmptyQueueLetsAMicrosecondPass
  intro s
  refine ⟨State.tick { s with pending := [] }, rfl, fun i => ?_, fun n => ?_, rfl⟩
  · have hi : (State.tick { s with pending := [] }).shows[i] = (s.shows[i]).elapse 1 := by simp [State.tick]
    rw [hi, Show.elapse, FrameMonitor.elapse_eq]
  · have hn : (State.tick { s with pending := [] }).entry[n] = (s.entry[n]).elapse 1 := by simp [State.tick]
    rw [hn, EntryLane.elapse_eq]

end Sys2Proof.Machine

/-! The four records of a screen (show, cues, intake, alignment), and the moves that a step can make with them. -/

namespace Sys2Proof.Machine

/-! ### A screen and its moves -/

/-- The records of one screen in the Show Clock Unit, the Cue Unit, the Audio Intake and the Alignment Unit. -/
structure Screen where
  show'  : Show
  cues   : CueUnit
  intake : Intake
  align  : Align

def State.screen (s : State) (i : ScreenId) : Screen := ⟨s.shows[i], s.cues[i], s.intakes[i], s.aligns[i]⟩

/-- The delay quantities of two alignment records agree. -/
def Align.SameDelay (a b : Align) : Prop := b.dTenths = a.dTenths ∧ b.clamped = a.clamped ∧ b.dSamples = a.dSamples

/-- What R69 to R72 bind of a cue: its id and its position. -/
def Cue.place (c : Cue) : Nat × Pos := (c.id, c.pos)

/-- What one operation can do to a screen. The moves that are bound to an accepted pulse, with index `true`, are those after which the
cursor need not yet divide the cues by the clock. -/
inductive Screen.Move (g : Screen) : Bool → Screen → Prop where
  /-- Time passes in the frame monitor (R50). -/
  | elapses {b : Bool} (us : Nat) : Move g b { g with show' := g.show'.elapse us }
  /-- A pulse judged (R51). -/
  | judges {b : Bool} : Move g b { g with show' := { g.show' with monitor := g.show'.monitor.pulse g.show'.settings.rate } }
  /-- The frame monitor's stall (R52). -/
  | stalls {b : Bool} : Move g b { g with show' := g.show'.monitorStall }
  /-- An accepted SET_SCREEN (R49, R107). -/
  | sets {b : Bool} (t : ScreenSettings)
      (h : t.rate = g.show'.settings.rate ∨ ((g.show'.state = .idle ∨ g.show'.state = .ended) ∧
        (∀ c ∈ g.cues.cues, c.pos.frame < t.rate.fps) ∧ g.show'.clock.frame < t.rate.fps)) :
      Move g b { g with show' := g.show'.setScreen t, align := g.align.setDelay t }
  /-- ARM_SHOW (R57). -/
  | arms {b : Bool} (h : g.show'.state = .idle ∨ g.show'.state = .ended) :
      Move g b ⟨g.show'.arm, g.cues.rearm, g.intake.openUp, g.align.flushed.arm⟩
  /-- START_SHOW and the show mark in ARMED (R58). -/
  | readies {b : Bool} : Move g b { g with show' := { g.show' with startPending := true } }
  /-- A hold from RUNNING or LOST (R62, R63). -/
  | holds {b : Bool} (r : HoldReason) (stopped : Bool) (h : g.show'.state = .running ∨ g.show'.state = .lost) :
      Move g b { g with show' := { g.show' with state := .held, holdReason := some r, pause := true, framesStopped := stopped } }
  /-- A resume (R64). -/
  | resumes {b : Bool} (h : g.show'.state = .held) : Move g b { g with show' :=
      ({ g.show' with state := .running, holdReason := none, pause := false, framesStopped := false } : Show).startStall }
  /-- The stall timer, the stopped frames, the clock limit and the losses (R54, R60). -/
  | times {b : Bool} (timer : Timer) (stopped limit : Bool) (losses : Nat) : Move g b { g with show' :=
      { g.show' with stallTimer := timer, framesStopped := stopped, clockLimit := limit, losses := losses } }
  /-- Between RUNNING and LOST (R60, R61). -/
  | turns {b : Bool} (x : ScreenState) (h : g.show'.state = .running ∨ g.show'.state = .lost) (hx : x = .running ∨ x = .lost) :
      Move g b { g with show' := { g.show' with state := x } }
  /-- Out of any show (R65, R66). -/
  | leaves {b : Bool} (x : ScreenState) (starting : Bool) (hx : x = .idle ∨ x = .ended) :
      Move g b { g with show' := { g.show'.leave x with startPending := starting } }
  /-- The alignment record, its delay apart (R112 to R121). -/
  | aligns {b : Bool} (a : Align) (h : g.align.SameDelay a) : Move g b { g with align := a }
  /-- The intake with blocks leaving its ring from the front, or none (R91, R100 to R104). -/
  | flows {b : Bool} (k : Intake) (h : k.ring <:+ g.intake.ring) (hl : k.lastAccepted = g.intake.lastAccepted) :
      Move g b { g with intake := k }
  /-- A block accepted (R98). -/
  | accepts {b : Bool} (k : Intake) (block : Block) (h : k.ring = g.intake.ring ++ [block]) (hl : k.lastAccepted = some block.asp)
      (hback : g.intake.isBack block.asp = false) (hfill : g.intake.ring.length < 32) : Move g b { g with intake := k }
  /-- LOAD_CUE (R74). -/
  | loads {b : Bool} (c : Cue) (hframe : c.pos.frame < g.show'.settings.rate.fps) (hlen : g.cues.cues.length < 64)
      (hid : ∀ d ∈ g.cues.cues, d.id ≠ c.id) (hpast : g.show'.state.inShow = true → c.pos.later g.show'.clock = true) :
      Move g b { g with cues := g.cues.load c }
  /-- DELETE_CUE (R76). -/
  | deletes {b : Bool} (k : Nat) (hk : k < g.cues.cues.length) (hpast : g.show'.state.inShow = true → ¬k < g.cues.cursor) :
      Move g b { g with cues := g.cues.delete k }
  /-- CLEAR_CUES (R77). -/
  | clears {b : Bool} (h : g.show'.state.inShow = false) : Move g b { g with cues := .reset }
  /-- Flags, lamps and outcomes (R80, R83, R85). -/
  | marks {b : Bool} (u : CueUnit) (h : u.cues.map Cue.place = g.cues.cues.map Cue.place) (hc : u.cursor = g.cues.cursor) :
      Move g b { g with cues := u }
  /-- Device reset. -/
  | resets {b : Bool} : Move g b ⟨.reset, .reset, .reset, .reset⟩
  /-- The start of a show (R58). -/
  | begins (h : g.show'.state = .armed) : Move g true { g with show' :=
      ({ g.show' with state := .running, startPending := false } : Show).startStall }
  /-- The clock one frame on (R53). -/
  | advances (h : g.show'.saturated = false) : Move g true { g with show' := g.show'.advance }
  /-- A cue passed (R80). -/
  | passes (h : g.cues.cursor < g.cues.cues.length) : Move g true { g with cues := { g.cues with cursor := g.cues.cursor + 1 } }

/-! ### The laws under a move -/

/-- R56 and R67. -/
def Screen.ShowLaw (g : Screen) : Prop := g.show'.pauseLaw ∧ g.show'.reasonLaw

/-- R50 and R53. -/
def Screen.ClockLaw (g : Screen) : Prop := g.show'.clockLaw ∧ g.show'.monitorLaw

theorem Screen.Move.showLaw {g g' : Screen} {b : Bool} (h : g.Move b g') (hg : g.ShowLaw) : g'.ShowLaw := by
  obtain ⟨hp, hr⟩ := hg
  simp only [Show.pauseLaw, Show.reasonLaw] at hp hr
  cases h with
  | arms h =>
    have hstate : g.show'.state ≠ .held := by rcases h with h | h <;> simp [h]
    simp_all [ShowLaw, Show.pauseLaw, Show.reasonLaw, Show.arm]
  | turns x h hx =>
    have hstate : g.show'.state ≠ .held := by rcases h with h | h <;> simp [h]
    have hx' : x ≠ .held := by rcases hx with h | h <;> simp [h]
    simp_all [ShowLaw, Show.pauseLaw, Show.reasonLaw]
  | leaves x starting hx => rcases hx with rfl | rfl <;> simp [ShowLaw, Show.pauseLaw, Show.reasonLaw, Show.leave]
  | holds r stopped h => simp [ShowLaw, Show.pauseLaw, Show.reasonLaw]
  | resumes h => simp [ShowLaw, Show.pauseLaw, Show.reasonLaw, Show.startStall]
  | begins h => simp_all [ShowLaw, Show.pauseLaw, Show.reasonLaw, Show.startStall]
  | resets => simp [ShowLaw, Show.pauseLaw, Show.reasonLaw, Show.reset]
  | advances h =>
    unfold Show.advance
    split <;> exact ⟨hp, hr⟩
  | _ => exact ⟨hp, hr⟩

theorem Rate.pLo_le_pNom (r : Rate) : r.pLo ≤ r.pNom ∧ r.pNom ≤ r.pHi ∧ r.pHi ≤ r.stallLimit ∧ 0 < r.fps := by cases r <;> decide

/-- A pulse is measured within the accept window (R51). -/
theorem FrameMonitor.judge_measured {r : Rate} {m : FrameMonitor} (h : m.judge r = .measured) : r.pLo ≤ m.e ∧ m.e ≤ r.pHi := by
  unfold FrameMonitor.judge at h
  split at h
  · cases h
  · next hlo =>
    split at h
    · cases h
    · split at h
      · next hhi => exact ⟨Nat.not_lt.1 hlo, hhi⟩
      · cases h

/-- The judging of a pulse keeps e within the stall limit and P_last within the accept window. -/
theorem FrameMonitor.pulse_bounds {r : Rate} {m : FrameMonitor} (he : m.e ≤ r.stallLimit) (hl : r.pLo ≤ m.pLast ∧ m.pLast ≤ r.pHi) :
    (m.pulse r).e ≤ r.stallLimit ∧ r.pLo ≤ (m.pulse r).pLast ∧ (m.pulse r).pLast ≤ r.pHi := by
  obtain ⟨hlo, hhi, -, -⟩ := r.pLo_le_pNom
  unfold FrameMonitor.pulse
  split
  · exact ⟨he, hl⟩
  · next h => exact ⟨Nat.zero_le _, FrameMonitor.judge_measured h⟩
  · exact ⟨Nat.zero_le _, hlo.trans hhi, Nat.le_refl _⟩
  · exact ⟨Nat.zero_le _, hl⟩

theorem Show.advance_clockLaw {w : Show} (hs : w.saturated = false) (h : w.clockLaw) : w.advance.clockLaw := by
  obtain ⟨h1, h2⟩ := h
  have hfps := w.settings.rate.pLo_le_pNom.2.2.2
  simp only [Show.saturated, Bool.and_eq_false_iff, beq_eq_false_iff_ne] at hs
  unfold Show.advance Show.clockLaw
  split
  · exact ⟨h1, by assumption⟩
  · exact ⟨by show w.clock.second + 1 ≤ 65535; omega, hfps⟩

theorem Screen.Move.clockLaw {g g' : Screen} {b : Bool} (h : g.Move b g') (hg : g.ClockLaw) : g'.ClockLaw := by
  have hr := g.show'.settings.rate.pLo_le_pNom
  obtain ⟨hc, he, hl⟩ := hg
  cases h with
  | elapses us =>
    refine ⟨hc, ?_, hl⟩
    exact Nat.min_le_left _ _
  | judges => exact ⟨hc, FrameMonitor.pulse_bounds he hl⟩
  | stalls => exact ⟨hc, Nat.le_refl _, hl⟩
  | sets t h =>
    have ht := t.rate.pLo_le_pNom
    simp only [ClockLaw, Show.clockLaw, Show.monitorLaw, Show.setScreen] at hc he hl ⊢
    by_cases hrate : t.rate = g.show'.settings.rate
    · rw [if_pos hrate, hrate]
      exact ⟨hc, he, hl⟩
    · rw [if_neg hrate]
      exact ⟨⟨hc.1, (h.resolve_left hrate).2.2⟩, Nat.le_refl _, ht.1, ht.2.1⟩
  | arms h => exact ⟨⟨Nat.zero_le _, hr.2.2.2⟩, he, hr.1, hr.2.1⟩
  | resets => exact ⟨by simp [Show.clockLaw, Show.reset, Rate.fps], by simp [Show.monitorLaw, Show.reset]; decide⟩
  | advances h =>
    refine ⟨Show.advance_clockLaw h hc, ?_⟩
    unfold Show.advance
    split <;> exact ⟨he, hl⟩
  | _ => exact ⟨hc, he, hl⟩

theorem delaySamples_le (t : ScreenSettings) : delaySamples t.dTenths ≤ 6000 := by
  have h : t.dTenths ≤ 1250 := by
    unfold ScreenSettings.dTenths
    omega
  unfold delaySamples
  omega

theorem Screen.Move.delayLaw {g g' : Screen} {b : Bool} (h : g.Move b g') (hg : Machine.delayLaw g.show' g.align) :
    Machine.delayLaw g'.show' g'.align := by
  cases h with
  | sets t h => exact ⟨rfl, rfl, rfl, delaySamples_le t⟩
  | aligns a h =>
    obtain ⟨h1, h2, h3⟩ := h
    simpa only [Machine.delayLaw, h1, h2, h3] using hg
  | resets => exact ⟨rfl, rfl, rfl, Nat.zero_le _⟩
  | advances h =>
    unfold Show.advance
    split <;> exact hg
  | _ => exact hg

/-! The ring. -/

theorem Intake.ringLaw_of_suffix {k m : Intake} (hm : m.ring <:+ k.ring) (hl : m.lastAccepted = k.lastAccepted) (h : k.ringLaw) :
    m.ringLaw := by
  obtain ⟨hlen, hpair, hlast⟩ := h
  exact ⟨hm.length_le.trans hlen, hpair.sublist hm.sublist, fun b hb => hl ▸ hlast b (hm.subset hb)⟩

theorem Intake.ringLaw_of_accept {k m : Intake} {block : Block} (hm : m.ring = k.ring ++ [block]) (hl : m.lastAccepted = some block.asp)
    (hback : k.isBack block.asp = false) (hfill : k.ring.length < 32) (h : k.ringLaw) : m.ringLaw := by
  obtain ⟨hlen, hpair, hlast⟩ := h
  have hrise : ∀ b ∈ k.ring, b.asp + 240 ≤ block.asp := by
    intro b hb
    obtain ⟨last, he, hle⟩ := hlast b hb
    simp only [Intake.isBack, he, decide_eq_false_iff_not] at hback
    omega
  refine ⟨by simpa [hm] using hfill, ?_, ?_⟩
  · rw [hm, List.pairwise_append]
    exact ⟨hpair, List.pairwise_singleton _ _, by simpa using hrise⟩
  · intro b hb
    rw [hm, List.mem_append, List.mem_singleton] at hb
    refine ⟨block.asp, hl, ?_⟩
    rcases hb with hb | rfl
    · exact Nat.le_of_add_right_le (hrise b hb)
    · exact Nat.le_refl _

theorem Intake.ringLaw_of_empty {k : Intake} (h : k.ring = []) : k.ringLaw := by
  simp [Intake.ringLaw, h]

theorem Intake.openUp_ring (k : Intake) : k.openUp.ring = [] := by
  simp only [Intake.openUp]
  split <;> rfl

theorem Screen.Move.ringLaw {g g' : Screen} {b : Bool} (h : g.Move b g') (hg : g.intake.ringLaw) : g'.intake.ringLaw := by
  cases h with
  | flows k h hl => exact Intake.ringLaw_of_suffix h hl hg
  | accepts k block h hl hback hfill => exact Intake.ringLaw_of_accept h hl hback hfill hg
  | arms h => exact Intake.ringLaw_of_empty (Intake.openUp_ring _)
  | resets => exact Intake.ringLaw_of_empty rfl
  | _ => exact hg

/-! The cue list. -/

/-- Not later is reflexive, and its order is total and transitive. -/
theorem Pos.later_eq_false_iff {p q : Pos} : p.later q = false ↔ p.second < q.second ∨ (p.second = q.second ∧ p.frame ≤ q.frame) := by
  simp only [Pos.later, Bool.or_eq_false_iff, decide_eq_false_iff_not, Bool.and_eq_false_iff, beq_eq_false_iff_ne]
  omega

theorem Pos.later_eq_true_iff {p q : Pos} : p.later q = true ↔ q.second < p.second ∨ (p.second = q.second ∧ q.frame < p.frame) := by
  simp [Pos.later]

/-- What the laws of a cue list say of its places alone. -/
def placesLaw (fps : Nat) (ps : List (Nat × Pos)) : Prop :=
  ps.length ≤ 64 ∧ (ps.map Prod.fst).Nodup ∧ ps.Pairwise (fun a b => a.2.later b.2 = false) ∧ ∀ c ∈ ps, c.2.frame < fps

theorem cueLaw_iff_places (w : Show) (u : CueUnit) :
    Machine.cueLaw w u ↔ placesLaw w.settings.rate.fps (u.cues.map Cue.place) ∧ u.cursor ≤ u.cues.length := by
  simp [Machine.cueLaw, placesLaw, List.pairwise_map, Cue.place, Function.comp_def, and_assoc]

/-- The cues before a place are not later than it, those from it on are later. -/
theorem placeOf_split (p : Pos) (cues : List Cue) (hs : cues.Pairwise fun a b => a.pos.later b.pos = false) :
    (∀ c ∈ cues.take (placeOf p cues), c.pos.later p = false) ∧ ∀ c ∈ cues.drop (placeOf p cues), c.pos.later p = true := by
  have happ := List.takeWhile_append_dropWhile (p := fun c : Cue => !c.pos.later p) (l := cues)
  have htake : cues.take (placeOf p cues) = cues.takeWhile fun c => !c.pos.later p := by
    have h := List.take_left (l₁ := cues.takeWhile fun c => !c.pos.later p) (l₂ := cues.dropWhile fun c => !c.pos.later p)
    rwa [happ] at h
  have hdrop : cues.drop (placeOf p cues) = cues.dropWhile fun c => !c.pos.later p := by
    have h := List.drop_left (l₁ := cues.takeWhile fun c => !c.pos.later p) (l₂ := cues.dropWhile fun c => !c.pos.later p)
    rwa [happ] at h
  refine ⟨fun c hc => ?_, fun c hc => ?_⟩
  · rw [htake] at hc
    simpa using List.mem_takeWhile_imp hc
  · rw [hdrop] at hc
    have hsorted := hs.sublist (List.dropWhile_sublist fun c : Cue => !c.pos.later p)
    cases hl : cues.dropWhile fun c => !c.pos.later p with
    | nil => simp [hl] at hc
    | cons d rest =>
      have hd : d.pos.later p = true := by
        have hhead := List.head?_dropWhile_not (fun c : Cue => !c.pos.later p) cues
        simpa [hl] using hhead
      rw [hl] at hc hsorted
      rcases List.mem_cons.1 hc with rfl | hc
      · exact hd
      · have hdc := (List.pairwise_cons.1 hsorted).1 c hc
        rw [Pos.later_eq_true_iff] at hd ⊢
        rw [Pos.later_eq_false_iff] at hdc
        omega

theorem placeOf_le (p : Pos) (cues : List Cue) : placeOf p cues ≤ cues.length := (List.takeWhile_prefix _).length_le

theorem CueUnit.load_cueLaw {w : Show} {u : CueUnit} {c : Cue} (h : Machine.cueLaw w u) (hframe : c.pos.frame < w.settings.rate.fps)
    (hlen : u.cues.length < 64) (hid : ∀ d ∈ u.cues, d.id ≠ c.id) : Machine.cueLaw w (u.load c) := by
  obtain ⟨-, hnd, hsort, hfr, hcur⟩ := h
  have hk := placeOf_le c.pos u.cues
  obtain ⟨hbefore, hafter⟩ := placeOf_split c.pos u.cues hsort
  have hperm : (u.cues.take (placeOf c.pos u.cues) ++ c :: u.cues.drop (placeOf c.pos u.cues)).Perm (c :: u.cues) := by
    refine List.perm_middle.trans (List.Perm.cons c ?_)
    rw [List.take_append_drop]
  refine ⟨by simpa [CueUnit.load, hperm.length_eq] using hlen, ?_, ?_, ?_, ?_⟩
  · refine ((hperm.map (·.id)).nodup_iff).2 ?_
    rw [List.map_cons, List.nodup_cons]
    refine ⟨fun hm => ?_, hnd⟩
    obtain ⟨d, hd, he⟩ := List.mem_map.1 hm
    exact hid d hd he
  · rw [← List.take_append_drop (placeOf c.pos u.cues) u.cues, List.pairwise_append] at hsort
    obtain ⟨hs1, hs2, hs12⟩ := hsort
    simp only [CueUnit.load, List.pairwise_append, List.pairwise_cons, List.mem_cons]
    refine ⟨hs1, ⟨fun d hd => ?_, hs2⟩, ?_⟩
    · have := hafter d hd
      rw [Pos.later_eq_true_iff] at this
      rw [Pos.later_eq_false_iff]
      omega
    · rintro a ha b (rfl | hb)
      · exact hbefore a ha
      · exact hs12 a ha b hb
  · intro d hd
    rcases List.mem_cons.1 (hperm.mem_iff.1 hd) with rfl | hd
    · exact hframe
    · exact hfr d hd
  · simp only [CueUnit.load, hperm.length_eq, List.length_cons]
    split <;> omega

theorem CueUnit.delete_cueLaw {w : Show} {u : CueUnit} {k : Nat} (hk : k < u.cues.length) (h : Machine.cueLaw w u) :
    Machine.cueLaw w (u.delete k) := by
  obtain ⟨hlen, hnd, hsort, hfr, hcur⟩ := h
  have hsub : (u.cues.eraseIdx k).Sublist u.cues := List.eraseIdx_sublist _ _
  have hl : (u.cues.eraseIdx k).length = u.cues.length - 1 := List.length_eraseIdx_of_lt hk
  refine ⟨hsub.length_le.trans hlen, hnd.sublist (hsub.map _), hsort.sublist hsub, fun c hc => hfr c (hsub.subset hc), ?_⟩
  simp only [CueUnit.delete, hl]
  split <;> omega

theorem Screen.Move.cueLaw {g g' : Screen} {b : Bool} (h : g.Move b g') (hg : Machine.cueLaw g.show' g.cues) :
    Machine.cueLaw g'.show' g'.cues := by
  cases h with
  | sets t h =>
    obtain ⟨hlen, hnd, hsort, hfr, hcur⟩ := hg
    refine ⟨hlen, hnd, hsort, fun c hc => ?_, hcur⟩
    rcases h with h | ⟨-, h, -⟩
    · exact lt_of_lt_of_eq (hfr c hc) (congrArg Rate.fps h.symm)
    · exact h c hc
  | arms h =>
    rw [cueLaw_iff_places] at hg ⊢
    refine ⟨?_, Nat.zero_le _⟩
    have hp : g.cues.rearm.cues.map Cue.place = g.cues.cues.map Cue.place := by simp [CueUnit.rearm, Cue.place, Function.comp_def]
    rw [hp]
    exact hg.1
  | loads c hframe hlen hid hpast => exact CueUnit.load_cueLaw hg hframe hlen hid
  | deletes k hk hpast => exact CueUnit.delete_cueLaw hk hg
  | clears h => simp [Machine.cueLaw, CueUnit.reset]
  | marks u h hc =>
    rw [cueLaw_iff_places] at hg ⊢
    have hl : u.cues.length = g.cues.cues.length := by simpa using congrArg List.length h
    rw [h, hc, hl]
    exact hg
  | resets => simp [Machine.cueLaw, CueUnit.reset]
  | advances h =>
    unfold Show.advance
    split <;> exact hg
  | passes h =>
    obtain ⟨hlen, hnd, hsort, hfr, -⟩ := hg
    exact ⟨hlen, hnd, hsort, hfr, h⟩
  | _ => exact hg

/-! The cursor. -/

/-- A cursor divides the cues by a position: those before it are not later, those from it on are later (R72). -/
def Divides (p : Pos) (cues : List Cue) (cursor : Nat) : Prop :=
  (∀ c ∈ cues.take cursor, c.pos.later p = false) ∧ ∀ c ∈ cues.drop cursor, c.pos.later p = true

theorem divides_iff (p : Pos) (cues : List Cue) (cursor : Nat) :
    Divides p cues cursor ↔ ∀ k (h : k < cues.length), k < cursor ↔ (cues[k]).pos.later p = false := by
  constructor
  · rintro ⟨hbefore, hafter⟩ k hk
    constructor
    · intro hlt
      exact hbefore _ (List.mem_take_iff_getElem.2 ⟨k, by omega, rfl⟩)
    · intro hl
      by_contra hge
      have := hafter cues[k] (List.mem_drop_iff_getElem.2 ⟨k - cursor, by omega, by simp [show cursor + (k - cursor) = k by omega]⟩)
      simp [hl] at this
  · intro h
    refine ⟨fun c hc => ?_, fun c hc => ?_⟩
    · obtain ⟨k, hk, rfl⟩ := List.mem_take_iff_getElem.1 hc
      exact (h k (by omega)).1 (by omega)
    · obtain ⟨k, hk, rfl⟩ := List.mem_drop_iff_getElem.1 hc
      by_contra hl
      exact absurd ((h (cursor + k) (by omega)).2 (by simpa using hl)) (by omega)

theorem cursorLaw_iff_divides (w : Show) (u : CueUnit) :
    Machine.cursorLaw w u ↔ (w.state.inShow = true → Divides w.clock u.cues u.cursor) ∧
      (w.state = .armed → u.cursor = 0 ∧ w.clock = { second := 0, frame := 0 }) := by
  simp only [divides_iff]
  rfl

theorem divides_of_places {p : Pos} {cues cues' : List Cue} {cursor : Nat} (h : cues'.map Cue.place = cues.map Cue.place)
    (hd : Divides p cues cursor) : Divides p cues' cursor := by
  have htake : (cues'.take cursor).map Cue.place = (cues.take cursor).map Cue.place := by rw [List.map_take, h, List.map_take]
  have hdrop : (cues'.drop cursor).map Cue.place = (cues.drop cursor).map Cue.place := by rw [List.map_drop, h, List.map_drop]
  have moved {l l' : List Cue} (hl : l'.map Cue.place = l.map Cue.place) {b : Bool} (hb : ∀ c ∈ l, c.pos.later p = b) :
      ∀ c ∈ l', c.pos.later p = b := by
    intro c hc
    obtain ⟨d, hd, he⟩ := List.mem_map.1 (hl ▸ List.mem_map_of_mem hc)
    rw [show c.pos = d.pos from congrArg Prod.snd he.symm]
    exact hb d hd
  exact ⟨moved htake hd.1, moved hdrop hd.2⟩

/-- A cue later than the clock is placed behind the cursor, which then stays. -/
theorem CueUnit.load_divides {p : Pos} {u : CueUnit} {c : Cue} (hs : u.cues.Pairwise fun a b => a.pos.later b.pos = false)
    (hc : c.pos.later p = true) (hd : Divides p u.cues u.cursor) (hcur : u.cursor ≤ u.cues.length) :
    Divides p (u.load c).cues (u.load c).cursor := by
  have hk := placeOf_le c.pos u.cues
  have hle : u.cursor ≤ placeOf c.pos u.cues := by
    by_contra hlt
    have hlen : placeOf c.pos u.cues < u.cues.length := by omega
    have hafter := (placeOf_split c.pos u.cues hs).2 u.cues[placeOf c.pos u.cues]
      (List.mem_drop_iff_getElem.2 ⟨0, by omega, by simp⟩)
    have hbefore := hd.1 u.cues[placeOf c.pos u.cues] (List.mem_take_iff_getElem.2 ⟨_, by omega, rfl⟩)
    rw [Pos.later_eq_true_iff] at hafter hc
    rw [Pos.later_eq_false_iff] at hbefore
    omega
  have hlen : (u.cues.take (placeOf c.pos u.cues)).length = placeOf c.pos u.cues := by simpa using hk
  simp only [CueUnit.load, if_neg (Nat.not_lt.2 hle)]
  refine ⟨fun d hd' => ?_, fun d hd' => ?_⟩
  · rw [List.take_append_of_le_length (by omega), List.take_take, Nat.min_eq_left hle] at hd'
    exact hd.1 d hd'
  · rw [List.drop_append_of_le_length (by omega), List.mem_append, List.mem_cons] at hd'
    rcases hd' with hd' | rfl | hd'
    · exact hd.2 d (by
        rw [List.drop_take] at hd'
        exact List.mem_of_mem_take hd')
    · exact hc
    · exact hd.2 d (List.drop_subset_drop_left _ hle hd')

/-- The removal of a cue from the cursor on leaves the cursor dividing the rest. -/
theorem CueUnit.delete_divides {p : Pos} {u : CueUnit} {k : Nat} (hk : u.cursor ≤ k) (hd : Divides p u.cues u.cursor) :
    Divides p (u.delete k).cues (u.delete k).cursor := by
  simp only [CueUnit.delete, if_neg (Nat.not_lt.2 hk), List.eraseIdx_eq_take_drop_succ]
  refine ⟨fun d hd' => ?_, fun d hd' => ?_⟩
  · refine hd.1 d ?_
    by_cases hlen : u.cues.length ≤ k
    · rwa [List.take_of_length_le hlen, List.drop_of_length_le (by omega), List.append_nil] at hd'
    · rw [List.take_append_of_le_length (by simp; omega), List.take_take, Nat.min_eq_left hk] at hd'
      exact hd'
  · refine hd.2 d ?_
    rw [List.drop_append, List.mem_append] at hd'
    rcases hd' with hd' | hd'
    · rw [List.drop_take] at hd'
      exact List.mem_of_mem_take hd'
    · exact List.drop_subset_drop_left _ (by omega) (List.mem_of_mem_drop hd')

/-- The moves that are not bound to a pulse keep the cursor dividing the cues by the clock. -/
theorem Screen.Move.cursorLaw {g g' : Screen} (h : g.Move false g') (hcue : Machine.cueLaw g.show' g.cues)
    (hg : Machine.cursorLaw g.show' g.cues) : Machine.cursorLaw g'.show' g'.cues := by
  obtain ⟨-, -, hsort, -, hcur⟩ := hcue
  rw [cursorLaw_iff_divides] at hg ⊢
  obtain ⟨hshow, harmed⟩ := hg
  cases h with
  | arms h => exact ⟨fun h => (by cases h), fun _ => ⟨rfl, rfl⟩⟩
  | holds r stopped h => exact ⟨fun _ => hshow (by rcases h with h | h <;> simp [h, ScreenState.inShow]), fun h => by cases h⟩
  | resumes h => exact ⟨fun _ => hshow (by simp [h, ScreenState.inShow]), fun h => by cases h⟩
  | turns x h hx =>
    refine ⟨fun _ => hshow (by rcases h with h | h <;> simp [h, ScreenState.inShow]), fun h => ?_⟩
    rcases hx with rfl | rfl <;> cases h
  | leaves x starting hx => rcases hx with rfl | rfl <;> exact ⟨fun h => (by cases h), fun h => by cases h⟩
  | loads c hframe hlen hid hpast =>
    refine ⟨fun h => CueUnit.load_divides hsort (hpast h) (hshow h) hcur, fun h => ?_⟩
    obtain ⟨h0, hclock⟩ := harmed h
    exact ⟨by simp [CueUnit.load, h0], hclock⟩
  | deletes k hk hpast =>
    refine ⟨fun h => CueUnit.delete_divides (Nat.not_lt.1 (hpast h)) (hshow h), fun h => ?_⟩
    obtain ⟨h0, hclock⟩ := harmed h
    exact ⟨by simp [CueUnit.delete, h0], hclock⟩
  | clears h => exact ⟨fun hs => absurd hs (by simp [h]), fun hs => ⟨rfl, (harmed hs).2⟩⟩
  | marks u h hc => exact ⟨fun hs => hc ▸ divides_of_places h (hshow hs), fun hs => hc ▸ harmed hs⟩
  | resets => exact ⟨fun h => (by cases h), fun h => by cases h⟩
  | _ => exact ⟨hshow, harmed⟩

/-! ### The moves of the part -/

/-- Screen `i` makes moves one after another, and the other screens stay. -/
def ScreenMoves (b : Bool) (i : ScreenId) (s t : State) : Prop :=
  Relation.ReflTransGen (fun g g' : Screen => g.Move b g') (s.screen i) (t.screen i) ∧ ∀ j, j ≠ i → t.screen j = s.screen j

theorem ScreenMoves.refl {b : Bool} {i : ScreenId} {s t : State} (h : ∀ j, t.screen j = s.screen j) : ScreenMoves b i s t :=
  ⟨h i ▸ .refl, fun j _ => h j⟩

theorem ScreenMoves.trans {b : Bool} {i : ScreenId} {s t u : State} (h : ScreenMoves b i s t) (h' : ScreenMoves b i t u) :
    ScreenMoves b i s u := ⟨h.1.trans h'.1, fun j hj => (h'.2 j hj).trans (h.2 j hj)⟩

/-- One move of screen `i`. -/
theorem ScreenMoves.single {b : Bool} {i : ScreenId} {s t : State} (h : (s.screen i).Move b (t.screen i))
    (ho : ∀ j, j ≠ i → t.screen j = s.screen j) : ScreenMoves b i s t := ⟨.single h, ho⟩

/-- Operations that leave the four records of every screen. -/
theorem screen_congr {s t : State} (hw : t.shows = s.shows) (hc : t.cues = s.cues) (hk : t.intakes = s.intakes) (ha : t.aligns = s.aligns)
    (j : ScreenId) : t.screen j = s.screen j := by
  simp only [State.screen, hw, hc, hk, ha]

theorem screen_of_onlyIn {ps : List Part} {s t : State} (h : OnlyIn ps s t) (hw : .shows ∉ ps) (hc : .cues ∉ ps)
    (hk : .intakes ∉ ps) (ha : .aligns ∉ ps) (j : ScreenId) : t.screen j = s.screen j :=
  screen_congr (h .shows hw) (h .cues hc) (h .intakes hk) (h .aligns ha) j

theorem screen_of_clearCalls {s t : State} (h : t.clearCalls = s.clearCalls) (j : ScreenId) : t.screen j = s.screen j :=
  screen_of_onlyIn (onlyIn_of_clearCalls h) (by simp) (by simp) (by simp) (by simp) j

theorem screen_of_clearOrders {s t : State} (h : t.clearOrders = s.clearOrders) (j : ScreenId) : t.screen j = s.screen j :=
  screen_of_onlyIn (onlyIn_of_clearOrders h) (by simp) (by simp) (by simp) (by simp) j

@[simp] theorem startAll_screen (s : State) (j : ScreenId) : s.startAll.screen j = s.screen j := screen_of_clearCalls (startAll_frame s) j

theorem screen_modShow (i j : ScreenId) (f : Show → Show) (s : State) :
    (s.modShow i f).screen j = if i = j then { s.screen j with show' := f (s.screen j).show' } else s.screen j := by
  simp only [State.screen, State.modShow_shows, upd_get]
  split <;> rfl

theorem screen_modCues (i j : ScreenId) (f : CueUnit → CueUnit) (s : State) :
    (s.modCues i f).screen j = if i = j then { s.screen j with cues := f (s.screen j).cues } else s.screen j := by
  simp only [State.screen, State.modCues_cues, upd_get]
  split <;> rfl

theorem screen_modIntake (i j : ScreenId) (f : Intake → Intake) (s : State) :
    (s.modIntake i f).screen j = if i = j then { s.screen j with intake := f (s.screen j).intake } else s.screen j := by
  simp only [State.screen, State.modIntake_intakes, upd_get]
  split <;> rfl

theorem screen_modAlign (i j : ScreenId) (f : Align → Align) (s : State) :
    (s.modAlign i f).screen j = if i = j then { s.screen j with align := f (s.screen j).align } else s.screen j := by
  simp only [State.screen, State.modAlign_aligns, upd_get]
  split <;> rfl

theorem upd_upd {α : Type} {n : Nat} (v : Vector α n) (i : Fin n) (f g : α → α) : upd (upd v i f) i g = upd v i fun x => g (f x) := by
  simp only [upd, Vector.set_set, Fin.getElem_fin, Vector.getElem_set_self]

/-- Two changes of one show are one. -/
theorem modShow_modShow (i : ScreenId) (f g : Show → Show) (s : State) : (s.modShow i f).modShow i g = s.modShow i fun w => g (f w) := by
  simp only [State.modShow, upd_upd]

theorem moves_modShow {b : Bool} {i : ScreenId} {f : Show → Show} {s : State}
    (h : (s.screen i).Move b { s.screen i with show' := f (s.screen i).show' }) : ScreenMoves b i s (s.modShow i f) :=
  .single (by rwa [screen_modShow, if_pos rfl]) fun j hj => by rw [screen_modShow, if_neg hj.symm]

theorem moves_modCues {b : Bool} {i : ScreenId} {f : CueUnit → CueUnit} {s : State}
    (h : (s.screen i).Move b { s.screen i with cues := f (s.screen i).cues }) : ScreenMoves b i s (s.modCues i f) :=
  .single (by rwa [screen_modCues, if_pos rfl]) fun j hj => by rw [screen_modCues, if_neg hj.symm]

theorem moves_modIntake {b : Bool} {i : ScreenId} {f : Intake → Intake} {s : State}
    (h : (s.screen i).Move b { s.screen i with intake := f (s.screen i).intake }) : ScreenMoves b i s (s.modIntake i f) :=
  .single (by rwa [screen_modIntake, if_pos rfl]) fun j hj => by rw [screen_modIntake, if_neg hj.symm]

theorem moves_modAlign {b : Bool} {i : ScreenId} {f : Align → Align} {s : State} (h : ∀ a : Align, a.SameDelay (f a)) :
    ScreenMoves b i s (s.modAlign i f) :=
  .single (by rw [screen_modAlign, if_pos rfl]; exact .aligns _ (h _)) fun j hj => by rw [screen_modAlign, if_neg hj.symm]

theorem post_screen (k : EventKind) (d : Detail) (s : State) (j : ScreenId) : (s.post k d).screen j = s.screen j := rfl

theorem moves_ite {b : Bool} {i : ScreenId} {c : Prop} [Decidable c] {s t u : State} (ht : c → ScreenMoves b i s t)
    (hu : ¬c → ScreenMoves b i s u) : ScreenMoves b i s (if c then t else u) := by
  split
  · next h => exact ht h
  · next h => exact hu h

theorem moves_elapse {b : Bool} (i : ScreenId) (us : Nat) (s : State) : ScreenMoves b i s (s.modShow i (·.elapse us)) :=
  moves_modShow (.elapses us)

theorem moves_setMode {b : Bool} (i : ScreenId) (m : AlignMode) (s : State) : ScreenMoves b i s (s.setMode i m) :=
  moves_modAlign fun _ => ⟨rfl, rfl, rfl⟩

theorem Align.unpause_sameDelay (a : Align) : a.SameDelay a.unpause := by
  unfold Align.unpause
  split <;> exact ⟨rfl, rfl, rfl⟩

theorem moves_unpause {b : Bool} (i : ScreenId) (s : State) : ScreenMoves b i s (s.modAlign i Align.unpause) :=
  moves_modAlign Align.unpause_sameDelay

theorem moves_closeIntake {b : Bool} (i : ScreenId) (s : State) : ScreenMoves b i s (s.closeIntake i) :=
  (moves_modIntake (.flows _ List.nil_suffix rfl)).trans (moves_modAlign fun _ => ⟨rfl, rfl, rfl⟩)

theorem moves_holdShow {b : Bool} {i : ScreenId} {s : State} (r : HoldReason) (h : (s.shows[i]).state = .running ∨ (s.shows[i]).state = .lost) :
    ScreenMoves b i s (s.holdShow i r) :=
  (moves_modShow (.holds r _ h)).trans (.refl (post_screen _ _ _))

theorem moves_resumeShow {b : Bool} {i : ScreenId} {s : State} (h : (s.shows[i]).state = .held) : ScreenMoves b i s (s.resumeShow i) := by
  simp only [State.resumeShow]
  have resumed : ScreenMoves b i s (s.modShow i fun w =>
      { w with state := .running, holdReason := none, pause := false, framesStopped := false }.startStall) := moves_modShow (.resumes h)
  exact moves_ite (fun _ => resumed.trans (moves_unpause i _)) fun _ => resumed

theorem moves_endShow {b : Bool} (i : ScreenId) (s : State) : ScreenMoves b i s (s.endShow i) := by
  unfold State.endShow State.cancelHeld
  refine ScreenMoves.trans ?_ (.refl (post_screen _ _ _))
  refine ScreenMoves.trans ?_ (.refl (screen_of_clearOrders (removeOrders_frame _ _ _)))
  refine ScreenMoves.trans ?_ (moves_setMode i _ _)
  refine ScreenMoves.trans ?_ (moves_closeIntake i _)
  exact moves_modShow (.leaves .ended _ (.inr rfl))

theorem moves_stallExpiry {b : Bool} (i : ScreenId) (s : State) : ScreenMoves b i s (s.stallExpiry i) := by
  simp only [State.stallExpiry]
  have stopped : ScreenMoves b i s (s.modShow i fun w => { w with stallTimer := none }) := moves_modShow (.times _ _ _ _)
  have found : ((s.modShow i fun w => { w with stallTimer := none }).shows[i]).state = (s.shows[i]).state := by
    simp [-Fin.getElem_fin]
  refine moves_ite (fun _ => .refl fun _ => rfl) fun _ => ?_
  split
  · next h =>
    refine ScreenMoves.trans ?_ (.refl (post_screen _ _ _))
    refine ScreenMoves.trans ?_ (moves_setMode i _ _)
    have lost : ScreenMoves b i (s.modShow i fun w => { w with stallTimer := none })
        ((s.modShow i fun w => { w with stallTimer := none }).modShow i fun w => { w with state := .lost }) :=
      moves_modShow (f := fun w => { w with state := .lost }) (.turns .lost (.inl (found.trans h)) (.inr rfl))
    have counted := lost.trans (moves_modShow (f := fun w => { w with losses := inc16 w.losses }) (.times _ _ _ _))
    rw [modShow_modShow i (fun w => { w with state := .lost })] at counted
    exact stopped.trans counted
  · exact (stopped.trans (moves_modShow (.times _ _ _ _))).trans (moves_setMode i _ _)
  all_goals exact stopped

/-! Cue actions and passes. -/

theorem moves_modCues_marks {b : Bool} {i : ScreenId} {f : CueUnit → CueUnit} {s : State}
    (h : ∀ u : CueUnit, (f u).cues.map Cue.place = u.cues.map Cue.place ∧ (f u).cursor = u.cursor) : ScreenMoves b i s (s.modCues i f) :=
  moves_modCues (.marks _ (h _).1 (h _).2)

theorem moves_runAction {b : Bool} (i : ScreenId) (a : CueAction) (s : State) : ScreenMoves b i s (s.runAction i a) := by
  cases a with
  | test src m f => cases f <;> exact moves_modCues_marks fun _ => ⟨rfl, rfl⟩
  | hold => exact moves_ite (fun h => moves_holdShow .cue (.inl h)) fun _ => .refl fun _ => rfl
  | endShow => exact moves_ite (fun _ => moves_endShow i s) fun _ => .refl fun _ => rfl
  | kitchenRelease => exact .refl (screen_of_clearOrders (kitchenRelease_frame i s))
  | callsOpen => exact .refl (screen_of_clearCalls (openCalls_frame i s))
  | lamp k on => exact moves_modCues_marks fun _ => ⟨rfl, rfl⟩
  | entryOpen | entryClose | ordersOpen | ordersClose | callsClose | mark => exact .refl fun _ => rfl

theorem CueUnit.pass_places (k : Nat) (out : CueOutcome) (u : CueUnit) :
    (u.pass k out).cues.map Cue.place = u.cues.map Cue.place ∧ (u.pass k out).cursor = u.cursor := by
  refine ⟨?_, rfl⟩
  simp only [CueUnit.pass]
  refine List.ext_getElem (by simp) fun n h1 h2 => ?_
  simp only [List.getElem_map, List.getElem_modify, Cue.place]
  split <;> rfl

theorem moves_setOutcome {b : Bool} (i : ScreenId) (k : Nat) (out : CueOutcome) (s : State) : ScreenMoves b i s (s.setOutcome i k out) :=
  moves_modCues_marks (CueUnit.pass_places k out)

theorem moves_passCursor {i : ScreenId} {s : State} {c : Cue} (h : (s.cues[i]).cues[(s.cues[i]).cursor]? = some c) :
    ScreenMoves true i s (s.passCursor i) := moves_modCues (.passes (List.getElem?_eq_some_iff.1 h).1)

theorem moves_passOver (n : Nat) (i : ScreenId) (p : Pos) (s : State) : ScreenMoves true i s (State.passOver n i p s) := by
  induction n generalizing s with
  | zero => exact .refl fun _ => rfl
  | succ n ih =>
    unfold State.passOver
    split
    · next c hc =>
      refine moves_ite (fun _ => ?_) fun _ => .refl fun _ => rfl
      refine ScreenMoves.trans ?_ (ih _)
      refine (moves_setOutcome i _ _ s).trans (moves_modCues (.passes ?_))
      have hlen := (List.getElem?_eq_some_iff.1 hc).1
      have hsame := CueUnit.pass_places (s.cues[i]).cursor .passedOver (s.cues[i])
      have hl : ((s.cues[i]).pass (s.cues[i]).cursor .passedOver).cues.length = (s.cues[i]).cues.length := by
        simpa using congrArg List.length hsame.1
      have hcues : (s.setOutcome i (s.cues[i]).cursor .passedOver).cues[i] = (s.cues[i]).pass (s.cues[i]).cursor .passedOver :=
        upd_get_self _ _ _
      simp only [State.screen, hcues, hl]
      exact hlen
    · exact .refl fun _ => rfl

theorem moves_passFor (n : Nat) (i : ScreenId) (p : Pos) (s : State) : ScreenMoves true i s (State.passFor n i p s) := by
  induction n generalizing s with
  | zero => exact .refl fun _ => rfl
  | succ n ih =>
    unfold State.passFor
    dsimp only
    split
    · exact .refl fun _ => rfl
    · next c hc =>
      refine moves_ite (fun _ => ?_) fun _ => .refl fun _ => rfl
      refine ScreenMoves.trans (moves_passCursor hc) ?_
      refine moves_ite (fun _ => ?_) fun _ => (moves_setOutcome i _ _ _).trans (ih _)
      have turn := (moves_runAction (b := true) i c.action (s.passCursor i)).trans (moves_setOutcome i (s.cues[i]).cursor .executed _)
      exact moves_ite (fun _ => turn.trans (moves_passOver _ _ _ _)) fun _ => turn.trans (ih _)

theorem moves_clockLimit {b : Bool} (i : ScreenId) (s : State) : ScreenMoves b i s (s.clockLimit i) := by
  unfold State.clockLimit
  refine moves_ite (fun _ => .refl fun _ => rfl) fun _ => ?_
  exact (moves_modShow (.times _ _ _ _)).trans (.refl (post_screen _ _ _))

theorem moves_advanceClock (i : ScreenId) (s : State) : ScreenMoves true i s (s.advanceClock i) := by
  unfold State.advanceClock
  refine moves_ite (fun _ => moves_clockLimit i s) fun h => ?_
  exact (moves_modShow (.advances (Bool.eq_false_iff.2 h))).trans (moves_passFor _ _ _ _)

theorem moves_startStall {b : Bool} (i : ScreenId) (s : State) : ScreenMoves b i s (s.modShow i Show.startStall) :=
  moves_modShow (.times _ _ _ _)

/-- A recovery up to its advance: RUNNING with the stall timer started, the sound unpaused (R61, R113). -/
theorem moves_recover {b : Bool} {i : ScreenId} {s : State} (h : (s.shows[i]).state = .lost) :
    ScreenMoves b i s (((s.modShow i fun w => { w with state := .running }.startStall).modAlign i Align.unpause).post
      .frameResumed (.screen i)) := by
  refine ScreenMoves.trans ?_ (.refl (post_screen _ _ _))
  refine ScreenMoves.trans ?_ (moves_unpause i _)
  have started := (moves_modShow (b := b) (s := s) (f := fun w => { w with state := .running }) (.turns .running (.inr h) (.inl rfl))).trans
    (moves_startStall i _)
  rwa [modShow_modShow i (fun w => { w with state := .running })] at started

/-- A pulse in HELD up to its advance (R59). -/
theorem moves_heldPulse {b : Bool} (i : ScreenId) (s : State) :
    ScreenMoves b i s ((if (s.shows[i]).framesStopped then s.modAlign i Align.unpause else s).modShow i fun w =>
      { w with framesStopped := false }.startStall) := by
  refine ScreenMoves.trans ?_ (moves_modShow (.times _ _ _ _))
  exact moves_ite (fun _ => moves_unpause i s) fun _ => .refl fun _ => rfl

theorem moves_acceptedPulse (i : ScreenId) (s : State) : ScreenMoves true i s (s.acceptedPulse i) := by
  simp only [State.acceptedPulse]
  split
  · exact .refl fun _ => rfl
  · exact .refl fun _ => rfl
  · next h =>
    refine moves_ite (fun _ => ?_) fun _ => .refl fun _ => rfl
    exact ((moves_modShow (.begins h)).trans (moves_setMode i _ _)).trans (moves_passFor _ _ _ _)
  · exact (moves_startStall i s).trans (moves_advanceClock i _)
  · exact (moves_heldPulse i s).trans (moves_advanceClock i _)
  · next h => exact (moves_recover h).trans (moves_advanceClock i _)

/-- The judging of a pulse, before its effect on the show (R51). -/
theorem moves_judged {b : Bool} (i : ScreenId) (us : Nat) (s : State) : ScreenMoves b i s
    ((s.modShow i (·.elapse us)).modShow i fun w => { w with monitor := w.monitor.pulse w.settings.rate }) :=
  (moves_elapse i us s).trans (moves_modShow .judges)

theorem moves_framePulse (i : ScreenId) (us : Nat) (s : State) : ScreenMoves true i s (s.framePulse i us) := by
  simp only [State.framePulse]
  exact moves_ite (fun _ => moves_judged i us s) fun _ => (moves_judged i us s).trans (moves_acceptedPulse i _)

/-! Links, intakes and instants. -/

theorem moves_deriveSound {b : Bool} (i : ScreenId) (s : State) : ScreenMoves b i s (s.deriveSound i) := by
  simp only [State.deriveSound]
  refine moves_ite (fun _ => ?_) fun _ => moves_ite (fun _ => ?_) fun _ => .refl fun _ => rfl
  · refine ScreenMoves.trans ?_ (.refl (screen_of_clearCalls ((serveReads_frame _).trans (cutCall_frame i _))))
    unfold State.soundLossHold
    refine ScreenMoves.trans (.refl fun _ => rfl) (moves_ite (fun h => moves_holdShow .sound (.inl h.1)) fun _ => .refl fun _ => rfl)
  · refine .refl fun j => ?_
    exact screen_of_clearCalls ((serveReads_frame _).trans <| (startScreen_frame _ _).trans (owedFill_frame i _)) j

theorem moves_loseLink {b : Bool} (i : ScreenId) (s : State) : ScreenMoves b i s (s.loseLink i) := by
  refine ScreenMoves.trans ?_ (moves_deriveSound i _)
  exact .refl fun _ => rfl

theorem moves_cycle {b : Bool} (i : ScreenId) (s : State) : ScreenMoves b i s (s.cycle i) := by
  simp only [State.cycle]
  refine ScreenMoves.trans ?_ (.refl fun _ => rfl)
  exact moves_ite (fun _ => moves_loseLink i s) fun _ => .refl fun _ => rfl

theorem moves_ackExpiry {b : Bool} (i : ScreenId) (s : State) : ScreenMoves b i s (s.ackExpiry i) := by
  simp only [State.ackExpiry]
  refine moves_ite (fun _ => .refl fun _ => rfl) fun _ => moves_ite (fun _ => ?_) fun _ => .refl fun _ => rfl
  refine moves_ite (fun _ => .refl fun _ => rfl) fun _ => ?_
  refine ScreenMoves.trans ?_ (moves_loseLink i _)
  exact .refl fun _ => rfl

theorem postStatusChange_screen (i : ScreenId) (old new : Option ExciterStatus) (was now : Bool) (s : State) (j : ScreenId) :
    (s.postStatusChange i old new was now).screen j = s.screen j := by
  unfold State.postStatusChange
  split
  · rfl
  · split <;> rfl

theorem moves_takeStatus {b : Bool} (i : ScreenId) (t : ExciterStatus) (s : State) : ScreenMoves b i s (s.takeStatus i t) := by
  simp only [State.takeStatus]
  refine moves_ite (fun _ => ?_) fun _ => .refl fun _ => rfl
  refine ScreenMoves.trans ?_ (moves_deriveSound i _)
  exact .refl fun j => postStatusChange_screen _ _ _ _ _ _ j

theorem moves_takeStatusMessage {b : Bool} (i : ScreenId) (n : Byte) (t : ExciterStatus) (s : State) :
    ScreenMoves b i s (s.takeStatusMessage i n t) := by
  refine ScreenMoves.trans ?_ (moves_takeStatus i t _)
  exact .refl fun _ => rfl

theorem moves_takeAck {b : Bool} (i : ScreenId) (n : Byte) (t : ExciterStatus) (s : State) : ScreenMoves b i s (s.takeAck i n t) := by
  simp only [State.takeAck, State.validAck]
  refine moves_ite (fun _ => ?_) fun _ => .refl fun _ => rfl
  split
  · refine ScreenMoves.trans ?_ (moves_takeStatus i t _)
    exact .refl fun _ => rfl
  all_goals
    refine ScreenMoves.trans ?_ (moves_deriveSound i _)
    exact .refl fun _ => rfl

theorem Intake.count_ring (f : IntakeCounts → IntakeCounts) (k : Intake) : (k.count f).ring = k.ring ∧ (k.count f).lastAccepted = k.lastAccepted :=
  ⟨rfl, rfl⟩

/-- Two intakes hold the same blocks, the last accepted position agreeing. -/
def Intake.SameRing (k m : Intake) : Prop := m.ring = k.ring ∧ m.lastAccepted = k.lastAccepted

theorem Intake.examineRise_sameRing (k : Intake) : k.SameRing k.examineRise := by
  unfold Intake.examineRise
  split <;> exact ⟨rfl, rfl⟩

theorem Intake.examineFall_sameRing (k : Intake) : k.SameRing k.examineFall := by
  unfold Intake.examineFall
  split <;> exact ⟨rfl, rfl⟩

theorem Intake.setSound_sameRing (t : SoundSettings) (k : Intake) : k.SameRing (k.setSound t) := by
  simp only [Intake.setSound]
  split
  · exact ⟨rfl, rfl⟩
  · split
    · exact Intake.examineFall_sameRing { k with settings := t }
    · exact Intake.examineRise_sameRing { k with settings := t }

theorem Intake.holdExpiry_sameRing (k : Intake) : k.SameRing k.holdExpiry := by
  unfold Intake.holdExpiry
  split <;> exact ⟨rfl, rfl⟩

theorem Intake.judgeSequence_sameRing (b : BlockFields) (k : Intake) : k.SameRing (k.judgeSequence b) := by
  simp only [Intake.judgeSequence]
  split
  · split <;> exact ⟨rfl, rfl⟩
  · exact ⟨rfl, rfl⟩

theorem Intake.afterInstant_ring (ring : List Block) (k : Intake) :
    (k.afterInstant ring).ring = ring ∧ (k.afterInstant ring).lastAccepted = k.lastAccepted := by
  unfold Intake.afterInstant
  split
  · exact Intake.examineFall_sameRing { k with ring := ring }
  · exact ⟨rfl, rfl⟩

theorem Intake.SameRing.flows {g : Screen} {b : Bool} {k : Intake} (h : g.intake.SameRing k) : g.Move b { g with intake := k } :=
  .flows k (h.1 ▸ List.suffix_refl _) h.2

/-- An arriving block is accepted at the tail of the ring, or the ring stays. -/
theorem Intake.arrive_moves {b : Bool} (r : Rate) (bytes : List Byte) (g : Screen) :
    g.Move b { g with intake := (g.intake.arrive r bytes).1 } := by
  unfold Intake.arrive
  split
  · exact Intake.SameRing.flows ⟨rfl, rfl⟩
  · split
    · exact Intake.SameRing.flows ⟨rfl, rfl⟩
    · next fields _ =>
      have hjudged := Intake.judgeSequence_sameRing fields g.intake
      dsimp only
      split
      · exact Intake.SameRing.flows hjudged
      · split
        · exact Intake.SameRing.flows hjudged
        · next hback =>
          split
          · exact Intake.SameRing.flows hjudged
          · next hfill =>
            have haccepted := Intake.examineRise_sameRing (({ g.intake.judgeSequence fields with
              ring := (g.intake.judgeSequence fields).ring ++ [{
                second := fields.second, frame := fields.frame, offset := fields.offset, asp := stampPosition r fields
                samples := fields.samples }]
              lastAccepted := some (stampPosition r fields) } : Intake).count fun c => { c with accepted := inc16 c.accepted })
            refine .accepts _ { second := fields.second, frame := fields.frame, offset := fields.offset, asp := stampPosition r fields
                                samples := fields.samples } (haccepted.1.trans ?_) haccepted.2 ?_ ?_
            · exact congrArg (· ++ _) hjudged.1
            · simpa [Intake.isBack, hjudged.2] using hback
            · simpa [Intake.fill, hjudged.1] using hfill

theorem moves_blockArrival {b : Bool} (i : ScreenId) (bytes : List Byte) (s : State) : ScreenMoves b i s (s.blockArrival i bytes) := by
  simp only [State.blockArrival]
  have arrived : ScreenMoves b i s (s.modIntake i fun _ => ((s.intakes[i]).arrive (s.shows[i]).settings.rate bytes).1) :=
    moves_modIntake (Intake.arrive_moves _ bytes (s.screen i))
  exact moves_ite (fun _ => arrived.trans (.refl (post_screen _ _ _))) fun _ => arrived

/-! An instant's alignment keeps the delay and leaves a rest of the ring. -/

/-- What every outcome of an instant keeps: the delay, and a ring that lost blocks from its front alone. -/
def Sounding.Keeps (a : Align) (ring : List Block) (r : Sounding) : Prop := a.SameDelay r.align ∧ r.ring <:+ ring

theorem emitNext_keeps (b : Block) (rest : List Block) (a : Align) (x : Bool) : (emitNext b rest a x).Keeps a (b :: rest) := by
  unfold emitNext
  dsimp only
  split
  · exact ⟨⟨rfl, rfl, rfl⟩, List.suffix_cons b rest⟩
  · exact ⟨⟨rfl, rfl, rfl⟩, List.suffix_refl _⟩

theorem resyncLate_keeps (psp : Nat) (ring : List Block) (a : Align) : (resyncLate psp ring a).Keeps a ring := by
  have hleft := List.dropWhile_suffix (l := ring) fun b => b.asp + 239 < psp - a.dSamples
  simp only [resyncLate]
  split
  · exact ⟨⟨rfl, rfl, rfl⟩, List.nil_suffix⟩
  · next b rest hl =>
    rw [hl] at hleft
    split
    · obtain ⟨hd, hr⟩ := emitNext_keeps b rest _ true
      exact ⟨hd, hr.trans hleft⟩
    · exact ⟨⟨rfl, rfl, rfl⟩, hleft⟩

theorem blockStart_keeps (before : AlignMode) (psp spf : Nat) (b : Block) (rest : List Block) (a : Align) :
    (blockStart before psp spf b rest a).Keeps a (b :: rest) := by
  simp only [blockStart]
  split
  · exact resyncLate_keeps psp (b :: rest) _
  · split
    · exact ⟨⟨rfl, rfl, rfl⟩, List.suffix_refl _⟩
    · exact emitNext_keeps b rest _ false

theorem withinBlock_keeps (psp spf : Nat) (b : Block) (rest : List Block) (a : Align) :
    (withinBlock psp spf b rest a).Keeps a (b :: rest) := by
  unfold withinBlock
  split
  · split
    · exact emitNext_keeps b rest _ false
    · split
      · split
        · exact ⟨⟨rfl, rfl, rfl⟩, List.nil_suffix⟩
        · next next' rest' =>
          obtain ⟨hd, hr⟩ := blockStart_keeps .catchUp psp spf next' rest' a.countDrop
          exact ⟨hd, hr.trans (List.suffix_cons b _)⟩
      · exact emitNext_keeps b rest a false
  · split
    · split
      · exact emitNext_keeps b rest _ false
      · exact ⟨⟨rfl, rfl, rfl⟩, List.suffix_refl _⟩
    · exact emitNext_keeps b rest a false
  all_goals exact emitNext_keeps b rest a false

theorem waitingInstant_keeps (psp spf : Nat) (ring : List Block) (a : Align) : (waitingInstant psp spf ring a).Keeps a ring := by
  unfold waitingInstant
  split
  · exact ⟨⟨rfl, rfl, rfl⟩, List.suffix_refl _⟩
  · next b rest =>
    dsimp only
    split
    · exact ⟨⟨rfl, rfl, rfl⟩, List.suffix_refl _⟩
    · split
      · exact resyncLate_keeps psp (b :: rest) a
      · split
        · exact blockStart_keeps .locked psp spf b rest a
        · exact emitNext_keeps b rest _ false

theorem instant_keeps (psp spf : Nat) (ring : List Block) (a : Align) : (a.instant psp spf ring).Keeps a ring := by
  have playing : (match ring with
      | [] => underrun a
      | b :: rest => if a.readPoint = 0 then blockStart a.mode psp spf b rest a else withinBlock psp spf b rest a).Keeps a ring := by
    split
    · exact ⟨⟨rfl, rfl, rfl⟩, List.suffix_refl _⟩
    · split
      · exact blockStart_keeps a.mode psp spf _ _ a
      · exact withinBlock_keeps psp spf _ _ a
  unfold Align.instant
  split
  · exact ⟨⟨rfl, rfl, rfl⟩, List.suffix_refl _⟩
  · exact ⟨⟨rfl, rfl, rfl⟩, List.suffix_refl _⟩
  · exact waitingInstant_keeps psp spf ring a
  all_goals exact playing

theorem moves_alignInstant {b : Bool} (i : ScreenId) (s : State) : ScreenMoves b i s (s.alignInstant i) := by
  obtain ⟨hdelay, hring⟩ := instant_keeps (s.shows[i]).psp (s.shows[i]).settings.rate.spf (s.intakes[i]).ring (s.aligns[i])
  simp only [State.alignInstant]
  have moved : ScreenMoves b i s ((s.modAlign i fun _ => (s.sounding i).align).modIntake i (·.afterInstant (s.sounding i).ring)) := by
    refine ScreenMoves.trans (t := s.modAlign i fun _ => (s.sounding i).align) ?_ (moves_modIntake ?_)
    · exact .single (by rw [screen_modAlign, if_pos rfl]; exact .aligns _ hdelay) fun j hj => by rw [screen_modAlign, if_neg hj.symm]
    · have hk := Intake.afterInstant_ring (s.sounding i).ring (s.intakes[i])
      have hleft : ((s.intakes[i]).afterInstant (s.sounding i).ring).ring <:+ (s.intakes[i]).ring := by
        rw [hk.1]
        exact hring
      exact .flows _ hleft hk.2
  exact moves_ite (fun _ => moved.trans (.refl (post_screen _ _ _))) fun _ => moved

theorem moves_outputInstant {b : Bool} (i : ScreenId) (us : Nat) (s : State) : ScreenMoves b i s (s.outputInstant i us) := by
  simp only [State.outputInstant]
  refine ScreenMoves.trans ?_ (.refl (screen_of_clearCalls (mixInstant_frame i _ _)))
  exact (moves_elapse i us s).trans (moves_alignInstant i _)

/-! ### Every command and every step -/

/-- Every screen makes moves that are bound to no pulse. -/
def QuietMoves (s t : State) : Prop := ∀ i : ScreenId, Relation.ReflTransGen (fun g g' : Screen => g.Move false g') (s.screen i) (t.screen i)

theorem QuietMoves.refl {s t : State} (h : ∀ i, t.screen i = s.screen i) : QuietMoves s t := fun i => h i ▸ .refl

theorem QuietMoves.trans {s t u : State} (h : QuietMoves s t) (h' : QuietMoves t u) : QuietMoves s u := fun i => (h i).trans (h' i)

theorem ScreenMoves.quiet {i : ScreenId} {s t : State} (h : ScreenMoves false i s t) : QuietMoves s t := by
  intro j
  by_cases hj : j = i
  · exact hj ▸ h.1
  · exact h.2 j hj ▸ .refl

theorem answer_screen (p : PortId) (code tag : Byte) (r : Reply) (s : State) (j : ScreenId) : (s.answer p code tag r).screen j = s.screen j := by
  cases r <;> rfl

theorem Service.run_quietMoves {v : Service} {s t : State} (hbody : ∀ u : State, QuietMoves u (v.body v.payload u).1)
    (h : v.run s = .next t) : QuietMoves s t := by
  obtain e | ⟨q, e⟩ | ⟨q, st, e⟩ | ⟨q, e⟩ := serve_cases v.port v.code v.tag v.payload v.may v.lengthOk v.body s <;> cases e.symm.trans h
  · exact .refl fun _ => rfl
  · exact .refl fun _ => rfl
  · exact .refl fun _ => rfl
  · exact (hbody (s.modPort v.port fun _ => q)).trans (.refl (answer_screen v.port v.code v.tag _ _))

theorem ranged_quietMoves {α : Type} {args : List Byte → Option α} {body : α → State → State × Reply}
    (hbody : ∀ a (u : State), QuietMoves u (body a u).1) (payload : List Byte) (u : State) : QuietMoves u (ranged args body payload u).1 := by
  unfold ranged
  split
  · exact .refl fun _ => rfl
  · exact hbody _ u

/-- The four parts of a screen. -/
def screenParts : List Part := [.shows, .cues, .intakes, .aligns]

theorem quietMoves_of_onlyIn {ps : List Part} {s t : State} (h : OnlyIn ps s t) (hps : ∀ q ∈ screenParts, q ∉ ps) : QuietMoves s t :=
  .refl (screen_of_onlyIn h (hps _ (by simp [screenParts])) (hps _ (by simp [screenParts])) (hps _ (by simp [screenParts]))
    (hps _ (by simp [screenParts])))

theorem setScreenBody_moves (a : ScreenId × ScreenSettings) (s : State) : QuietMoves s (s.setScreenBody a).1 := by
  unfold State.setScreenBody
  split
  · exact .refl fun _ => rfl
  · next hcheck =>
    have allowed : a.2.rate = (s.shows[a.1]).settings.rate ∨ (((s.shows[a.1]).state = .idle ∨ (s.shows[a.1]).state = .ended) ∧
        (∀ c ∈ (s.cues[a.1]).cues, c.pos.frame < a.2.rate.fps) ∧ (s.shows[a.1]).clock.frame < a.2.rate.fps) := by
      simp only [State.setScreenCheck] at hcheck
      split at hcheck
      · next h => exact .inl h
      · split at hcheck
        · cases hcheck
        · next hstate =>
          split at hcheck
          · cases hcheck
          · next hcues =>
            split at hcheck
            · cases hcheck
            · next hclock => exact .inr ⟨not_not.1 hstate, by simpa using hcues, Nat.not_le.1 hclock⟩
    refine ScreenMoves.quiet (i := a.1) (.single ?_ fun j hj => ?_)
    · rw [screen_modAlign, if_pos rfl, screen_modShow, if_pos rfl]
      exact .sets a.2 allowed
    · rw [screen_modAlign, if_neg hj.symm, screen_modShow, if_neg hj.symm]

theorem armShowBody_moves (i : ScreenId) (s : State) : QuietMoves s (s.armShowBody i).1 := by
  unfold State.armShowBody
  split
  · next h =>
    have hscreen (j : ScreenId) : (s.armShow i).screen j = if i = j then
        ⟨(s.shows[j]).arm, (s.cues[j]).rearm, (s.intakes[j]).openUp, (s.aligns[j]).flushed.arm⟩ else s.screen j := by
      simp only [State.armShow, State.openIntake, State.screen, State.modAlign_shows, State.modIntake_shows, State.modOrders_shows,
        State.modCues_shows, State.modShow_shows, State.modAlign_cues, State.modIntake_cues, State.modOrders_cues, State.modCues_cues,
        State.modShow_cues, State.modAlign_intakes, State.modIntake_intakes, State.modOrders_intakes, State.modCues_intakes,
        State.modShow_intakes, State.modAlign_aligns, State.modIntake_aligns, State.modOrders_aligns, State.modCues_aligns,
        State.modShow_aligns, upd_upd, upd_get]
      split <;> rfl
    refine ScreenMoves.quiet (i := i) (.single ?_ fun j hj => ?_)
    · rw [hscreen, if_pos rfl]
      exact .arms h
    · rw [hscreen, if_neg hj.symm]
  · exact .refl fun _ => rfl

theorem startShowBody_moves (i : ScreenId) (s : State) : QuietMoves s (s.startShowBody i).1 := by
  unfold State.startShowBody
  split
  · exact (moves_modShow .readies).quiet
  · exact .refl fun _ => rfl

theorem holdShowBody_moves (i : ScreenId) (s : State) : QuietMoves s (s.holdShowBody i).1 := by
  unfold State.holdShowBody
  split
  · next h => exact (moves_holdShow .request (.inl h)).quiet
  · next h => exact (moves_holdShow .request (.inr h)).quiet
  all_goals exact .refl fun _ => rfl

theorem resumeShowBody_moves (i : ScreenId) (s : State) : QuietMoves s (s.resumeShowBody i).1 := by
  unfold State.resumeShowBody
  split
  · next h =>
    split
    · exact .refl fun _ => rfl
    · exact (moves_resumeShow h).quiet
  · exact .refl fun _ => rfl

theorem endShowBody_moves (i : ScreenId) (s : State) : QuietMoves s (s.endShowBody i).1 := by
  unfold State.endShowBody
  split
  · dsimp only
    exact (moves_endShow i s).quiet.trans (.refl (startAll_screen _))
  · exact .refl fun _ => rfl

theorem screenReset_moves (i : ScreenId) (s : State) : QuietMoves s (s.screenReset i) := by
  simp only [State.screenReset]
  refine ScreenMoves.quiet (i := i) ?_
  refine ScreenMoves.trans ?_ (.refl (screen_of_clearCalls ((serveReads_frame _).trans <| (cutCall_frame i _).trans (flushQueue_frame i _))))
  refine ScreenMoves.trans (t := ((s.modShow i fun w => { w.leave .idle with startPending := false }).closeIntake i).setMode i .muted) ?_
    (.refl fun _ => rfl)
  exact (moves_modShow (.leaves .idle false (.inl rfl))).trans <| (moves_closeIntake i _).trans (moves_setMode i _ _)

theorem screenResetBody_moves (i : ScreenId) (s : State) : QuietMoves s (s.screenResetBody i).1 := screenReset_moves i s

theorem loadCueBody_moves (a : LoadCueArgs) (s : State) : QuietMoves s (s.loadCueBody a).1 := by
  unfold State.loadCueBody
  split
  · exact .refl fun _ => rfl
  · next hcheck =>
    simp only [State.loadCueCheck] at hcheck
    split at hcheck
    · cases hcheck
    · next hframe =>
      split at hcheck
      · cases hcheck
      · next hlen =>
        split at hcheck
        · cases hcheck
        · next hid =>
          split at hcheck
          · cases hcheck
          · next hpast =>
            have fresh : ∀ d ∈ (s.cues[a.screen]).cues, d.id ≠ a.id := by simpa [CueUnit.indexOf?] using hid
            have ahead : (s.shows[a.screen]).state.inShow = true → a.pos.later (s.shows[a.screen]).clock = true := by simpa using hpast
            exact ScreenMoves.quiet (moves_modCues (.loads a.cue (Nat.not_le.1 hframe) (Nat.not_le.1 hlen) fresh ahead))

theorem deleteCueBody_moves (a : ScreenId × Nat) (s : State) : QuietMoves s (s.deleteCueBody a).1 := by
  simp only [State.deleteCueBody]
  split
  · exact .refl fun _ => rfl
  · next k hk =>
    have hlen : k < (s.cues[a.1]).cues.length := (List.findIdx?_eq_some_iff_getElem.1 hk).1
    split
    · exact .refl fun _ => rfl
    · next hpast => exact ScreenMoves.quiet (moves_modCues (.deletes k hlen (by simpa [State.screen] using hpast)))

theorem clearCuesBody_moves (i : ScreenId) (s : State) : QuietMoves s (s.clearCuesBody i).1 := by
  unfold State.clearCuesBody
  split
  · exact .refl fun _ => rfl
  · next h => exact ScreenMoves.quiet (moves_modCues (.clears (Bool.eq_false_iff.2 h)))

theorem setExciter_moves (heard : List LineInput) (i : ScreenId) (t : ExciterSettings) (s : State) : QuietMoves s (s.setExciter heard i t) := by
  unfold State.setExciter
  refine ScreenMoves.quiet (i := i) (moves_ite (fun _ => .refl fun _ => rfl) fun _ => ?_)
  refine ScreenMoves.trans ?_ (moves_cycle i _)
  exact .refl fun _ => rfl

/-- The handling of every request moves the screens by moves that are bound to no pulse. -/
theorem service_moves {c : Instr} {v : Service} (hv : service? c = some v) (u : State) : QuietMoves u (v.body v.payload u).1 := by
  have kept (hps : ∀ q ∈ screenParts, q ∉ Part.ports :: requestParts c) : QuietMoves u (v.body v.payload u).1 :=
    quietMoves_of_onlyIn (service_onlyIn hv u) hps
  cases c <;> cases hv
  case setScreen => exact ranged_quietMoves setScreenBody_moves _ u
  case armShow => exact ranged_quietMoves armShowBody_moves _ u
  case startShow => exact ranged_quietMoves startShowBody_moves _ u
  case holdShow => exact ranged_quietMoves holdShowBody_moves _ u
  case resumeShow => exact ranged_quietMoves resumeShowBody_moves _ u
  case endShow => exact ranged_quietMoves endShowBody_moves _ u
  case screenReset => exact ranged_quietMoves screenResetBody_moves _ u
  case loadCue => exact ranged_quietMoves loadCueBody_moves _ u
  case deleteCue => exact ranged_quietMoves deleteCueBody_moves _ u
  case clearCues => exact ranged_quietMoves clearCuesBody_moves _ u
  case setSound =>
    exact ranged_quietMoves (fun a u => ScreenMoves.quiet (moves_modIntake (Intake.setSound_sameRing a.2 _).flows)) _ u
  case setExciter => exact ranged_quietMoves (fun a u => setExciter_moves _ a.1 a.2 u) _ u
  all_goals exact kept (by simp [screenParts, requestParts, gateParts, orderParts])

/-- Every event but a frame pulse moves the screens by moves that are bound to no pulse. -/
theorem event_moves {c : Instr} (hc : service? c = none) (hp : ∀ i us, c ≠ .framePulse i us) {s t : State} (h : exec c s = .next t) :
    QuietMoves s t := by
  have kept (hps : ∀ q ∈ screenParts, q ∉ eventParts c) : QuietMoves s t := quietMoves_of_onlyIn (event_onlyIn hc h) hps
  have heard (i : ScreenId) (f : Link → Link) : ScreenMoves false i s (s.modLink i f) := .refl fun _ => rfl
  cases c <;> first | exact absurd hc (Option.some_ne_none _) | skip
  case framePulse i us => exact absurd rfl (hp i us)
  case deviceReset entryLoops exitLoops =>
    cases h
    intro i
    refine .single ?_
    have hreset : (s.deviceReset entryLoops exitLoops).screen i = ⟨.reset, .reset, .reset, .reset⟩ := by
      simp [State.screen, State.deviceReset, State.reset]
    exact hreset ▸ .resets
  case showMarkEdge i =>
    cases h
    exact (moves_ite (fun _ => moves_modShow .readies) fun _ => .refl fun _ => rfl).quiet
  case stallTimerExpiry i =>
    cases h
    exact (moves_stallExpiry i s).quiet
  case frameMonitorStall i =>
    cases h
    exact (moves_modShow .stalls).quiet
  case audioBlockArrival i bytes =>
    cases h
    exact (moves_blockArrival i bytes s).quiet
  case holdTimerExpiry i =>
    cases h
    exact (moves_modIntake (Intake.holdExpiry_sameRing _).flows).quiet
  case outputInstant i us =>
    cases h
    exact (moves_ite (fun _ => .refl fun _ => rfl) fun _ => moves_outputInstant i us s).quiet
  case exciterAck m number flags =>
    cases h
    split
    · exact (moves_ite (fun _ => (heard m.screen _).trans (moves_takeAck _ _ _ _)) fun _ => .refl fun _ => rfl).quiet
    · exact .refl fun _ => rfl
  case exciterStatus m number flags =>
    cases h
    split
    · exact (moves_ite (fun _ => (heard m.screen _).trans (moves_takeStatusMessage _ _ _ _)) fun _ => .refl fun _ => rfl).quiet
    · exact .refl fun _ => rfl
  case ackTimerExpiry i inputs =>
    cases h
    exact (moves_ite (fun _ => (heard i _).trans (moves_ackExpiry i _)) fun _ => .refl fun _ => rfl).quiet
  case refreshTimerExpiry i inputs =>
    cases h
    exact (moves_ite (fun _ => (heard i _).trans (moves_cycle i _)) fun _ => .refl fun _ => rfl).quiet
  case endOfDeviceReset e =>
    cases h
    split
    · have first (i : ScreenId) (u : State) : QuietMoves u (u.firstCycle e i) := by
        refine ScreenMoves.quiet (i := i) (ScreenMoves.trans ?_ (moves_cycle i _))
        exact .refl fun _ => rfl
      simp only [State.endReset]
      refine QuietMoves.trans ?_ (first 3 _)
      refine QuietMoves.trans ?_ (first 2 _)
      refine QuietMoves.trans ?_ (first 1 _)
      refine QuietMoves.trans ?_ (first 0 _)
      exact .refl fun _ => rfl
    · exact .refl fun _ => rfl
  all_goals exact kept (by simp [screenParts, eventParts, passageParts, gateParts, orderParts])

theorem exec_moves {c : Instr} (hp : ∀ i us, c ≠ .framePulse i us) {s t : State} (h : exec c s = .next t) : QuietMoves s t := by
  cases hv : service? c with
  | none => exact event_moves hv hp h
  | some v =>
    rw [exec_of_service hv] at h
    exact Service.run_quietMoves (service_moves hv) h

theorem tick_moves (s : State) : QuietMoves s s.tick := by
  intro i
  refine .single ?_
  have htick : s.tick.screen i = { s.screen i with show' := (s.screen i).show'.elapse 1 } := by simp [State.screen, State.tick]
  exact htick ▸ .elapses 1

/-- A step moves every screen, by a frame pulse or by moves that are bound to none. -/
theorem step_moves {s t : State} (h : step s = .next t) :
    QuietMoves s t ∨ ∃ i us rest, t = (State.framePulse i us { s with pending := rest }).startAll := by
  unfold step at h
  split at h
  · cases h
    exact .inl (tick_moves s)
  · next c rest _ =>
    by_cases hp : ∀ i us, c ≠ .framePulse i us
    · exact .inl (exec_moves (s := { s with pending := rest }) hp h)
    · simp only [ne_eq, not_forall, not_not] at hp
      obtain ⟨i, us, rfl⟩ := hp
      have answered : exec (.framePulse i us) { s with pending := rest } = .next (State.framePulse i us { s with pending := rest }).startAll := rfl
      exact .inr ⟨i, us, rest, Host.Outcome.next.inj (h.symm.trans answered)⟩

/-- A law that every move keeps is kept by every step. -/
theorem step_keeps_of_move {P : Screen → Prop} (hP : ∀ g g' b, Screen.Move g b g' → P g → P g') {s t : State} (h : step s = .next t)
    (hs : ∀ i, P (s.screen i)) (i : ScreenId) : P (t.screen i) := by
  have along {b : Bool} {g g' : Screen} (hm : Relation.ReflTransGen (fun g g' : Screen => g.Move b g') g g') (hg : P g) : P g' := by
    induction hm with
    | refl => exact hg
    | tail _ hmove ih => exact hP _ _ b hmove ih
  rcases step_moves h with hq | ⟨k, us, rest, ht⟩
  · exact along (hq i) (hs i)
  · have moved := moves_framePulse k us { s with pending := rest }
    rw [ht, startAll_screen]
    by_cases hi : i = k
    · rw [hi]
      exact along moved.1 (hs k)
    · rw [moved.2 i hi]
      exact hs i

/-- Settles O57: each law is kept by every move of a screen, and a step is moves of screens. -/
theorem screenLawsAreKept : Obligations.ScreenLawsAreKept := by
  unfold Obligations.ScreenLawsAreKept
  intro s t h
  exact ⟨step_keeps_of_move (P := Screen.ShowLaw) (fun _ _ _ => Screen.Move.showLaw) h,
    step_keeps_of_move (P := Screen.ClockLaw) (fun _ _ _ => Screen.Move.clockLaw) h,
    step_keeps_of_move (P := fun g => Machine.delayLaw g.show' g.align) (fun _ _ _ => Screen.Move.delayLaw) h⟩

end Sys2Proof.Machine

namespace Sys2Proof.Machine

/-! ### The cursor through a pass -/

/-- A screen in the middle of a pass over the cues at a position: its clock stands there, the cues before the cursor are not later, and none
from the cursor on is earlier; `n` bounds the cues
from the cursor on. -/
structure Passing (n : Nat) (p : Pos) (w : Show) (u : CueUnit) : Prop where
  clock   : w.clock = p
  started : w.state ≠ .armed
  sorted  : u.cues.Pairwise fun a b => a.pos.later b.pos = false
  behind  : ∀ c ∈ u.cues.take u.cursor, c.pos.later p = false
  left    : u.cues.length ≤ u.cursor + n
  ahead   : ∀ c ∈ u.cues.drop u.cursor, p.later c.pos = false

theorem pairwise_of_places {l l' : List Cue} (h : l'.map Cue.place = l.map Cue.place)
    (hs : l.Pairwise fun a b => a.pos.later b.pos = false) : l'.Pairwise fun a b => a.pos.later b.pos = false := by
  have hl : (l.map Cue.place).Pairwise fun a b => a.2.later b.2 = false := List.pairwise_map.2 hs
  rw [← h] at hl
  exact List.pairwise_map.1 hl

theorem forall_of_places {l l' : List Cue} {P : Pos → Prop} (h : l'.map Cue.place = l.map Cue.place) (hl : ∀ c ∈ l, P c.pos) :
    ∀ c ∈ l', P c.pos := by
  intro c hc
  obtain ⟨d, hd, he⟩ := List.mem_map.1 (h ▸ List.mem_map_of_mem hc)
  rw [show c.pos = d.pos from congrArg Prod.snd he.symm]
  exact hl d hd

/-- A pass goes on over a change that leaves the clock, the places of the cues and the cursor. -/
theorem Passing.congr {n : Nat} {p : Pos} {w w' : Show} {u u' : CueUnit} (h : Passing n p w u) (hclock : w'.clock = w.clock)
    (hstate : w'.state ≠ .armed) (hplaces : u'.cues.map Cue.place = u.cues.map Cue.place) (hcursor : u'.cursor = u.cursor) :
    Passing n p w' u' where
  clock := hclock.trans h.clock
  started := hstate
  sorted := pairwise_of_places hplaces h.sorted
  left := by
    have hlength := congrArg List.length hplaces
    rw [List.length_map, List.length_map] at hlength
    rw [hlength, hcursor]
    exact h.left
  behind := by
    rw [hcursor]
    exact forall_of_places (P := fun q => q.later p = false) (by simp only [List.map_take, hplaces]) h.behind
  ahead := by
    rw [hcursor]
    exact forall_of_places (P := fun q => p.later q = false) (by simp only [List.map_drop, hplaces]) h.ahead

/-- The cursor moved past a cue at the position of the pass. -/
theorem Passing.pass {n : Nat} {p : Pos} {w : Show} {u : CueUnit} {c : Cue} (h : Passing (n + 1) p w u) (hc : u.cues[u.cursor]? = some c) (hp : c.pos = p) :
    Passing n p w { u with cursor := u.cursor + 1 } where
  clock := h.clock
  started := h.started
  sorted := h.sorted
  left := by
    have := h.left
    dsimp only
    omega
  behind := by
    intro d hd
    rw [List.take_add_one, hc, List.mem_append] at hd
    rcases hd with hd | hd
    · exact h.behind d hd
    · obtain rfl : d = c := by simpa using hd
      exact hp ▸ Pos.later_eq_false_iff.2 (.inr ⟨rfl, Nat.le_refl _⟩)
  ahead := fun d hd => h.ahead d (List.drop_subset_drop_left _ (Nat.le_succ _) hd)

/-- A pass with no cue left at its position has set the cursor where R72 wants it. -/
theorem Passing.cursorLaw {n : Nat} {p : Pos} {w : Show} {u : CueUnit} (h : Passing n p w u) (hdone : ∀ c, u.cues[u.cursor]? = some c → c.pos ≠ p) :
    Machine.cursorLaw w u := by
  rw [cursorLaw_iff_divides]
  refine ⟨fun _ => ⟨h.clock ▸ h.behind, fun c hc => ?_⟩, fun ha => absurd ha h.started⟩
  cases hd : u.cues.drop u.cursor with
  | nil => simp [hd] at hc
  | cons d rest =>
    have hget : u.cues[u.cursor]? = some d := by
      have hhead := congrArg List.head? hd
      simpa [List.head?_drop] using hhead
    have hdp : d.pos.later p = true := by
      have hge := h.ahead d (by simp [hd])
      have hne := hdone d hget
      rw [Pos.later_eq_false_iff] at hge
      rw [Pos.later_eq_true_iff]
      by_contra hlt
      exact hne (by
        obtain ⟨ds, df⟩ : Pos := d.pos
        cases hpos : d.pos
        cases p
        simp_all
        omega)
    rw [h.clock]
    rw [hd] at hc
    rcases List.mem_cons.1 hc with rfl | hc
    · exact hdp
    · have hsorted := h.sorted.sublist (List.drop_sublist u.cursor u.cues)
      rw [hd] at hsorted
      have hdc := (List.pairwise_cons.1 hsorted).1 c hc
      rw [Pos.later_eq_true_iff] at hdp ⊢
      rw [Pos.later_eq_false_iff] at hdc
      omega

/-- A change of a screen's cue record that leaves the places of the cues and the cursor. -/
theorem Passing.modCues {n : Nat} {p : Pos} {i : ScreenId} {s : State} {f : CueUnit → CueUnit} (h : Passing n p s.shows[i] s.cues[i])
    (hf : ∀ u, (f u).cues.map Cue.place = u.cues.map Cue.place ∧ (f u).cursor = u.cursor) :
    Passing n p (s.modCues i f).shows[i] (s.modCues i f).cues[i] := by
  have hcues : (s.modCues i f).cues[i] = f s.cues[i] := upd_get_self _ _ _
  rw [hcues]
  exact h.congr rfl h.started (hf _).1 (hf _).2

/-- What every cue action leaves of its screen: the clock, the places of the cues, the cursor, and a screen that is not ARMED. -/
theorem runAction_passing {n : Nat} {p : Pos} {i : ScreenId} (a : CueAction) {s : State} (h : Passing n p s.shows[i] s.cues[i]) :
    Passing n p ((s.runAction i a).shows[i]) ((s.runAction i a).cues[i]) := by
  have same {t : State} (hw : t.shows = s.shows) (hc : t.cues = s.cues) : Passing n p t.shows[i] t.cues[i] := by
    rw [hw, hc]
    exact h
  have onlyIn {ps : List Part} {t : State} (ht : OnlyIn ps s t) (hw : .shows ∉ ps) (hc : .cues ∉ ps) : Passing n p t.shows[i] t.cues[i] :=
    same (ht .shows hw) (ht .cues hc)
  cases a with
  | test src m f => cases f <;> exact h.modCues fun _ => ⟨rfl, rfl⟩
  | lamp k on => exact h.modCues fun _ => ⟨rfl, rfl⟩
  | hold =>
    unfold State.runAction
    dsimp only
    split
    · exact h.congr (by simp [-Fin.getElem_fin, State.holdShow]) (by simp [-Fin.getElem_fin, State.holdShow]) rfl rfl
    · exact h
  | endShow =>
    unfold State.runAction
    dsimp only
    split
    · have hcues : (s.endShow i).cues[i] = s.cues[i] := congrArg (·[i]) (endShow_onlyIn i s .cues (by simp [endParts]))
      have hshows : (s.endShow i).shows[i] = (s.shows[i]).leave .ended :=
        (congrArg (·[i]) (onlyIn_of_clearOrders (removeOrders_frame _ _ _) .shows (by simp))).trans (upd_get_self _ _ _)
      rw [hcues, hshows]
      exact h.congr rfl (by simp [Show.leave]) rfl rfl
    · exact h
  | kitchenRelease => exact onlyIn (onlyIn_of_clearOrders (kitchenRelease_frame i s)) (by simp) (by simp)
  | callsOpen => exact onlyIn (onlyIn_of_clearCalls (openCalls_frame i s)) (by simp) (by simp)
  | entryOpen | entryClose | ordersOpen | ordersClose | callsClose | mark => exact same rfl rfl

theorem setOutcome_passing {n : Nat} {p : Pos} {i : ScreenId} (k : Nat) (out : CueOutcome) {s : State} (h : Passing n p s.shows[i] s.cues[i]) :
    Passing n p ((s.setOutcome i k out).shows[i]) ((s.setOutcome i k out).cues[i]) := by
  exact h.modCues fun u => ⟨(CueUnit.pass_places k out u).1, rfl⟩

theorem passCursor_passing {n : Nat} {p : Pos} {i : ScreenId} {c : Cue} {s : State} (h : Passing (n + 1) p s.shows[i] s.cues[i])
    (hc : (s.cues[i]).cues[(s.cues[i]).cursor]? = some c) (hp : c.pos = p) :
    Passing n p ((s.passCursor i).shows[i]) ((s.passCursor i).cues[i]) := by
  have hcues : (s.passCursor i).cues[i] = { s.cues[i] with cursor := (s.cues[i]).cursor + 1 } := upd_get_self _ _ _
  rw [hcues]
  exact h.pass hc hp

/-- With no cue left at its position, a pass ends with the cursor where R72 wants it. -/
theorem Passing.ends {n : Nat} {p : Pos} {w : Show} {u : CueUnit} (h : Passing n p w u) {c : Cue} (hc : u.cues[u.cursor]? = some c)
    (hp : c.pos ≠ p) : Machine.cursorLaw w u :=
  h.cursorLaw fun d hd => by
    obtain rfl : c = d := Option.some.inj (hc.symm.trans hd)
    exact hp

theorem Passing.endsOut {n : Nat} {p : Pos} {w : Show} {u : CueUnit} (h : Passing n p w u) (hc : u.cues[u.cursor]? = none) :
    Machine.cursorLaw w u :=
  h.cursorLaw fun d hd => by simp [hc] at hd

theorem Passing.none_left {p : Pos} {w : Show} {u : CueUnit} (h : Passing 0 p w u) : u.cues[u.cursor]? = none :=
  List.getElem?_eq_none h.left

theorem passCursor_setOutcome (i : ScreenId) (k : Nat) (out : CueOutcome) (s : State) :
    (s.setOutcome i k out).passCursor i = (s.passCursor i).setOutcome i k out := by
  simp only [State.passCursor, State.setOutcome, State.modCues, upd_upd]
  rfl

/-- The cursor of a screen stands where R72 wants it. -/
def State.CursorPlaced (i : ScreenId) (s : State) : Prop := cursorLaw s.shows[i] s.cues[i]

theorem passOver_cursorPlaced (n : Nat) {i : ScreenId} {p : Pos} {s : State} (h : Passing n p s.shows[i] s.cues[i]) :
    (State.passOver n i p s).CursorPlaced i := by
  induction n generalizing s with
  | zero => exact h.endsOut h.none_left
  | succ n ih =>
    unfold State.passOver
    split
    · next c hc =>
      split
      · next hp =>
        rw [passCursor_setOutcome]
        exact ih (setOutcome_passing _ .passedOver (passCursor_passing h hc hp))
      · next hp => exact h.ends hc hp
    · next hc => exact h.endsOut hc

theorem passFor_cursorPlaced (n : Nat) {i : ScreenId} {p : Pos} {s : State} (h : Passing n p s.shows[i] s.cues[i]) :
    (State.passFor n i p s).CursorPlaced i := by
  induction n generalizing s with
  | zero => exact h.endsOut h.none_left
  | succ n ih =>
    unfold State.passFor
    dsimp only
    split
    · next hc => exact h.endsOut hc
    · next c hc =>
      split
      · next hp =>
        have passed := passCursor_passing h hc hp
        split
        · have acted := setOutcome_passing (s.cues[i]).cursor .executed (runAction_passing c.action passed)
          split
          · exact passOver_cursorPlaced n acted
          · exact ih acted
        · exact ih (setOutcome_passing _ .skipped passed)
      · next hp => exact h.ends hc hp

/-! ### The cursor at an accepted pulse -/

/-- The cue list of a screen keeps its laws and its cursor divides it. -/
def Screen.Cued (g : Screen) : Prop := Machine.cueLaw g.show' g.cues ∧ Machine.cursorLaw g.show' g.cues

theorem Screen.Cued.moves {g g' : Screen} (hg : g.Cued) (h : Relation.ReflTransGen (fun g g' : Screen => g.Move false g') g g') : g'.Cued := by
  induction h with
  | refl => exact hg
  | tail _ hmove ih => exact ⟨hmove.cueLaw ih.1, hmove.cursorLaw ih.1 ih.2⟩

/-- The clock moved on by a frame does not pass over a cue that was ahead of it. -/
theorem Passing.of_advance {w : Show} {u : CueUnit} (hshow : w.state.inShow = true) (hcue : Machine.cueLaw w u)
    (hcur : Machine.cursorLaw w u) : Passing u.cues.length w.advance.clock w.advance u := by
  obtain ⟨-, -, hsort, hframes, -⟩ := hcue
  obtain ⟨hbehind, hahead⟩ := ((cursorLaw_iff_divides w u).1 hcur).1 hshow
  have hstate : w.advance.state = w.state := by
    unfold Show.advance
    split <;> rfl
  refine ⟨rfl, fun ha => ?_, hsort, fun c hc => ?_, Nat.le_add_left _ _, fun c hc => ?_⟩
  · simp [← hstate, ha, ScreenState.inShow] at hshow
  · have hle := hbehind c hc
    rw [Pos.later_eq_false_iff] at hle ⊢
    unfold Show.advance
    split <;> dsimp only <;> omega
  · have hlt := hahead c hc
    have hframe := hframes c (List.mem_of_mem_drop hc)
    rw [Pos.later_eq_true_iff] at hlt
    rw [Pos.later_eq_false_iff]
    unfold Show.advance
    split <;> dsimp only <;> omega

/-- A show that starts at 0+0 passes over its cues from the first. -/
theorem Passing.of_start {w : Show} {u : CueUnit} (hsort : u.cues.Pairwise fun a b => a.pos.later b.pos = false) (hcursor : u.cursor = 0)
    (hstate : w.state ≠ .armed) (hclock : w.clock = { second := 0, frame := 0 }) : Passing u.cues.length w.clock w u := by
  refine ⟨rfl, hstate, hsort, by simp [hcursor], Nat.le_add_left _ _, fun c _ => ?_⟩
  rw [hclock, Pos.later_eq_false_iff]
  dsimp only
  omega

theorem advanceClock_cursorPlaced {i : ScreenId} {s : State} (hshow : (s.shows[i]).state.inShow = true) (h : (s.screen i).Cued) :
    (s.advanceClock i).CursorPlaced i := by
  unfold State.advanceClock
  split
  · exact (h.moves (moves_clockLimit i s).1).2
  · have hshows : (s.modShow i Show.advance).shows[i] = (s.shows[i]).advance := upd_get_self _ _ _
    refine passFor_cursorPlaced _ ?_
    rw [hshows]
    exact .of_advance hshow h.1 h.2

theorem startShow_cursorPlaced {i : ScreenId} {s : State} (harmed : (s.shows[i]).state = .armed) (h : (s.screen i).Cued) :
    (s.startShow i).CursorPlaced i := by
  obtain ⟨⟨-, -, hsort, -⟩, hcursor⟩ := h
  have hzero := hcursor.2 harmed
  have hshows : (((s.modShow i fun w => { w with state := .running, startPending := false }.startStall).setMode i .waiting).shows)[i] =
      { s.shows[i] with state := .running, startPending := false }.startStall := upd_get_self _ _ _
  refine passFor_cursorPlaced _ ?_
  rw [hshows]
  exact .of_start hsort hzero.1 (by simp [Show.startStall]) hzero.2

/-- After an accepted pulse the cursor divides the cues by the clock. -/
theorem acceptedPulse_cursorPlaced {i : ScreenId} {s : State} (h : (s.screen i).Cued) : (s.acceptedPulse i).CursorPlaced i := by
  simp only [State.acceptedPulse]
  split
  · exact h.2
  · exact h.2
  · next harmed =>
    split
    · exact startShow_cursorPlaced harmed h
    · exact h.2
  · next hrunning =>
    refine advanceClock_cursorPlaced ?_ (h.moves (moves_startStall i s).1)
    have hshows : (s.modShow i Show.startStall).shows[i] = (s.shows[i]).startStall := upd_get_self _ _ _
    rw [hshows]
    simp [-Fin.getElem_fin, Show.startStall, hrunning, ScreenState.inShow]
  · next hheld =>
    refine advanceClock_cursorPlaced ?_ (h.moves (moves_heldPulse i s).1)
    have hshows : ((if (s.shows[i]).framesStopped then s.modAlign i Align.unpause else s).modShow i fun w =>
        { w with framesStopped := false }.startStall).shows[i] = { s.shows[i] with framesStopped := false }.startStall := by
      split <;> exact upd_get_self _ _ _
    rw [hshows]
    simp [-Fin.getElem_fin, Show.startStall, hheld, ScreenState.inShow]
  · next hlost =>
    refine advanceClock_cursorPlaced ?_ (h.moves (moves_recover hlost).1)
    have hshows : (((s.modShow i fun w => { w with state := .running }.startStall).modAlign i Align.unpause).post .frameResumed
        (.screen i)).shows[i] = { s.shows[i] with state := .running }.startStall := upd_get_self _ _ _
    rw [hshows]
    simp [-Fin.getElem_fin, Show.startStall, ScreenState.inShow]

theorem framePulse_cursorPlaced {i : ScreenId} (us : Nat) {s : State} (h : (s.screen i).Cued) : (s.framePulse i us).CursorPlaced i := by
  have judged := h.moves (moves_judged i us s).1
  simp only [State.framePulse]
  split
  · exact judged.2
  · exact acceptedPulse_cursorPlaced judged

/-- Every step keeps the cursor of a lawful cue list dividing the cues by the clock. -/
theorem step_cursorLaw {s t : State} (h : step s = .next t) (hs : ∀ i, (s.screen i).Cued) (i : ScreenId) :
    cursorLaw t.shows[i] t.cues[i] := by
  rcases step_moves h with hq | ⟨k, us, rest, ht⟩
  · exact ((hs i).moves (hq i)).2
  · have hscreen : t.screen i = (State.framePulse k us { s with pending := rest }).screen i := ht ▸ startAll_screen _ i
    have placed : Machine.cursorLaw (t.screen i).show' (t.screen i).cues := by
      rw [hscreen]
      by_cases hi : i = k
      · rw [hi]
        exact framePulse_cursorPlaced us (hs k)
      · rw [(moves_framePulse k us { s with pending := rest }).2 i hi]
        exact (hs i).2
    exact placed

end Sys2Proof.Machine

/-! The order book of the part (orders, kitchen queue, shelf, call queues, tickets), as its laws read it, and what each handling does with it. -/

namespace Sys2Proof.Machine

/-! ### The book and its laws -/

/-- The stages of an order: its state without the time that READY carries. -/
inductive Stage where
  | held | pending | queued | cooking | ready

def OrderState.stage : OrderState → Stage
  | .held false => .held
  | .held true => .pending
  | .queued => .queued
  | .cooking => .cooking
  | .ready _ => .ready

/-- What the laws of the order book read of an order. -/
structure OrderPlace where
  number : Nat
  ticket : Nat
  screen : ScreenId
  stage  : Stage

def Order.place (o : Order) : OrderPlace := { number := o.number, ticket := o.ticket, screen := o.screen, stage := o.state.stage }

/-- What the laws of the order book read of a ticket. -/
structure TicketPlace where
  number     : Nat
  screen     : ScreenId
  openOrders : Nat

def Ticket.place (t : Ticket) : TicketPlace := { number := t.number, screen := t.screen, openOrders := t.openOrders }

/-- The parts of the state that the laws of the order book read. -/
structure Book where
  places  : List OrderPlace
  kitchen : List Nat
  shelf   : List Nat
  high    : Nat
  totals  : OrderTotals
  queue   : ScreenId → List CallEntry
  tickets : List TicketPlace

def State.book (s : State) : Book where
  places := s.orders.table.map Order.place
  kitchen := s.orders.kitchen
  shelf := s.orders.shelf
  high := s.orders.settings.high
  totals := s.orders.totals
  queue i := (s.calls[i]).queue
  tickets := s.tickets.map Ticket.place

/-- The bounds of the kitchen queue and the call queues, with `k` freed slots of the kitchen queue still to be served. -/
structure Book.Bounds (k : Nat) (b : Book) : Prop where
  room : b.kitchen.length + k ≤ 48
  high : b.high ≤ 48
  full : (∃ p ∈ b.places, p.stage = .pending) → b.kitchen.length + k = 48
  call : ∀ i, (b.queue i).length ≤ 16

/-- The laws of R134, R156 and R158. -/
structure Book.Law (b : Book) : Prop where
  numbers : (b.places.map (·.number)).Nodup
  once    : b.kitchen.Nodup
  shelved : b.shelf.Nodup
  kitchen : ∀ n, n ∈ b.kitchen ↔ ∃ p ∈ b.places, p.number = n ∧ p.stage = .queued
  shelf   : ∀ n, n ∈ b.shelf ↔ ∃ p ∈ b.places, p.number = n ∧ p.stage = .ready
  calls   : ∀ i n, CallEntry.orderCall n ∈ b.queue i → ∃ p ∈ b.places, p.number = n ∧ p.stage = .ready ∧ p.screen = i
  totals  : b.totals.law

/-- The laws of R4. -/
structure Book.Naming (b : Book) : Prop where
  numbers : (b.places.map (·.number)).Nodup
  length  : b.places.length ≤ 256
  named   : ∀ p ∈ b.places, ∃ t ∈ b.tickets, t.number = p.ticket ∧ t.screen = p.screen
  counted : ∀ t ∈ b.tickets, t.openOrders = b.places.countP (fun p => p.ticket == t.number) ∧ t.openOrders ≤ 4

theorem OrderState.stage_eq_queued (st : OrderState) : st.stage = .queued ↔ st = .queued := by
  rcases st with (_ | _) | _ | _ | _ <;> simp [OrderState.stage]

theorem Order.stage_eq_ready (o : Order) : o.state.stage = .ready ↔ o.isReady = true := by
  unfold Order.isReady
  rcases o.state with (_ | _) | _ | _ | _ <;> simp [OrderState.stage]

theorem Order.stage_eq_pending (o : Order) : o.state.stage = .pending ↔ o.isPending = true := by
  unfold Order.isPending
  rcases o.state with (_ | _) | _ | _ | _ <;> simp [OrderState.stage]

theorem queueLaws_iff (s : State) : s.queueLaws ↔ s.book.Bounds 0 := by
  constructor
  · rintro ⟨⟨hroom, hhigh, hfull⟩, hcall⟩
    refine ⟨hroom, hhigh, fun h => hfull ?_, hcall⟩
    obtain ⟨p, hp, hpend⟩ := h
    obtain ⟨o, ho, rfl⟩ := List.mem_map.1 hp
    exact ⟨o, ho, o.stage_eq_pending.1 hpend⟩
  · rintro ⟨hroom, hhigh, hfull, hcall⟩
    refine ⟨⟨hroom, hhigh, fun h => hfull ?_⟩, hcall⟩
    obtain ⟨o, ho, hpend⟩ := h
    exact ⟨o.place, List.mem_map_of_mem ho, o.stage_eq_pending.2 hpend⟩

theorem bookLaws_iff (s : State) : s.bookLaws ↔ s.book.Law := by
  have numbers : s.orders.table.map (·.number) = s.book.places.map (·.number) := by simp [State.book, Order.place, Function.comp_def]
  have queued (n : Nat) : (∃ o ∈ s.orders.table, o.number = n ∧ o.state = .queued) ↔
      ∃ p ∈ s.book.places, p.number = n ∧ p.stage = .queued := by
    simp [State.book, Order.place, OrderState.stage_eq_queued]
  have ready (n : Nat) : (∃ o ∈ s.orders.table, o.number = n ∧ o.isReady = true) ↔
      ∃ p ∈ s.book.places, p.number = n ∧ p.stage = .ready := by
    simp [State.book, Order.place, Order.stage_eq_ready]
  have called (i : ScreenId) (n : Nat) : (∃ o ∈ s.orders.table, o.number = n ∧ o.isReady = true ∧ o.screen = i) ↔
      ∃ p ∈ s.book.places, p.number = n ∧ p.stage = .ready ∧ p.screen = i := by
    simp [State.book, Order.place, Order.stage_eq_ready]
  simp only [State.bookLaws, numbers, queued, ready, called]
  exact ⟨fun ⟨a, b, c, d, e, f, g⟩ => ⟨a, b, c, d, e, f, g⟩, fun ⟨a, b, c, d, e, f, g⟩ => ⟨a, b, c, d, e, f, g⟩⟩

theorem orderLaws_iff (s : State) : s.orderLaws ↔ s.book.Naming := by
  have numbers : s.orders.table.map (·.number) = s.book.places.map (·.number) := by simp [State.book, Order.place, Function.comp_def]
  have length : s.orders.table.length = s.book.places.length := by simp [State.book]
  have named : (∀ o ∈ s.orders.table, ∃ t ∈ s.tickets, t.number = o.ticket ∧ t.screen = o.screen) ↔
      ∀ p ∈ s.book.places, ∃ t ∈ s.book.tickets, t.number = p.ticket ∧ t.screen = p.screen := by
    simp [State.book, Order.place, Ticket.place]
  have counted : (∀ t ∈ s.tickets, t.openOrders = s.orders.table.countP (fun o => o.ticket == t.number) ∧ t.openOrders ≤ 4) ↔
      ∀ t ∈ s.book.tickets, t.openOrders = s.book.places.countP (fun p => p.ticket == t.number) ∧ t.openOrders ≤ 4 := by
    simp [State.book, Order.place, Ticket.place, List.countP_map, Function.comp_def]
  rw [State.orderLaws, numbers, length, named, counted]
  exact ⟨fun ⟨a, b, c, d⟩ => ⟨a, b, c, d⟩, fun ⟨a, b, c, d⟩ => ⟨a, b, c, d⟩⟩

/-! ### Handlings that keep the three laws -/

/-- A handling keeps the three laws of the book, each by itself. -/
structure Book.Keeps (b b' : Book) : Prop where
  bounds : b.Bounds 0 → b'.Bounds 0
  law    : b.Law → b'.Law
  naming : b.Naming → b'.Naming

theorem Book.Keeps.refl (b : Book) : b.Keeps b := ⟨id, id, id⟩

theorem Book.Keeps.trans {b b' b'' : Book} (h : b.Keeps b') (h' : b'.Keeps b'') : b.Keeps b'' :=
  ⟨h'.bounds ∘ h.bounds, h'.law ∘ h.law, h'.naming ∘ h.naming⟩

theorem Book.Keeps.of_eq {b b' : Book} (h : b' = b) : b.Keeps b' := h ▸ .refl b

/-- Only call queues change, and none rises above 16. -/
structure Book.Queues (b b' : Book) : Prop where
  same  : b' = { b with queue := b'.queue }
  short : ∀ i, (b'.queue i).length ≤ max 16 (b.queue i).length

/-- Only call queues change, and a number that joins one is that of an order of its screen, shelved or READY. -/
structure Book.Calls (b b' : Book) : Prop extends b.Queues b' where
  named : ∀ i n, CallEntry.orderCall n ∈ b'.queue i →
    CallEntry.orderCall n ∈ b.queue i ∨ ∃ p ∈ b.places, p.number = n ∧ p.screen = i ∧ (n ∈ b.shelf ∨ p.stage = .ready)

theorem Book.Queues.refl (b : Book) : b.Queues b := ⟨rfl, fun _ => Nat.le_max_right _ _⟩

theorem Book.Queues.trans {b b' b'' : Book} (h : b.Queues b') (h' : b'.Queues b'') : b.Queues b'' := by
  refine ⟨h'.same.trans (by rw [h.same]), fun i => ?_⟩
  have h1 := h.short i
  have h2 := h'.short i
  omega

theorem Book.Queues.bounds {b b' : Book} (h : b.Queues b') (hb : b.Bounds 0) : b'.Bounds 0 := by
  have hshort := h.short
  rw [h.same]
  refine ⟨hb.room, hb.high, hb.full, fun i => ?_⟩
  have h1 := hb.call i
  have h2 := hshort i
  dsimp only
  omega

theorem Book.Queues.naming {b b' : Book} (h : b.Queues b') (hb : b.Naming) : b'.Naming := by
  rw [h.same]
  exact ⟨hb.numbers, hb.length, hb.named, hb.counted⟩

theorem Book.Calls.refl (b : Book) : b.Calls b := ⟨.refl b, fun _ _ h => .inl h⟩

theorem Book.Calls.of_eq {b b' : Book} (h : b' = b) : b.Calls b' := h ▸ .refl b

theorem Book.Calls.trans {b b' b'' : Book} (h : b.Calls b') (h' : b'.Calls b'') : b.Calls b'' := by
  have places : b'.places = b.places := (congrArg Book.places h.same).trans rfl
  have shelf : b'.shelf = b.shelf := (congrArg Book.shelf h.same).trans rfl
  refine ⟨h.toQueues.trans h'.toQueues, fun i n hn => ?_⟩
  rcases h'.named i n hn with hq | hp
  · exact h.named i n hq
  · rw [places, shelf] at hp
    exact .inr hp

theorem eq_of_number {l : List OrderPlace} (h : (l.map (·.number)).Nodup) {p q : OrderPlace} (hp : p ∈ l) (hq : q ∈ l)
    (hn : p.number = q.number) : p = q := List.inj_on_of_nodup_map h hp hq hn

theorem Book.Calls.law {b b' : Book} (h : b.Calls b') (hb : b.Law) : b'.Law := by
  have hnamed := h.named
  rw [h.same]
  refine ⟨hb.numbers, hb.once, hb.shelved, hb.kitchen, hb.shelf, fun i n hn => ?_, hb.totals⟩
  rcases hnamed i n hn with hq | ⟨p, hp, rfl, hi, hsh | hr⟩
  · exact hb.calls i n hq
  · obtain ⟨q, hq, hqn, hqr⟩ := (hb.shelf _).1 hsh
    obtain rfl := eq_of_number hb.numbers hq hp hqn
    exact ⟨q, hq, rfl, hqr, hi⟩
  · exact ⟨p, hp, rfl, hr, hi⟩

theorem Book.Calls.keeps {b b' : Book} (h : b.Calls b') : b.Keeps b' := ⟨h.toQueues.bounds, h.law, h.toQueues.naming⟩

/-! ### The book under the updates of one record -/

theorem book_of_same {s t : State} (ho : t.orders = s.orders) (hc : t.calls = s.calls) (ht : t.tickets = s.tickets) : t.book = s.book := by
  simp only [State.book, ho, hc, ht]

theorem book_of_onlyIn {ps : List Part} {s t : State} (h : OnlyIn ps s t) (ho : Part.orders ∉ ps) (hc : Part.calls ∉ ps)
    (ht : Part.tickets ∉ ps) : t.book = s.book := book_of_same (h .orders ho) (h .calls hc) (h .tickets ht)

theorem book_modOrder {f : Order → Order} (hf : ∀ o, (f o).place = o.place) (n : Nat) (s : State) : (s.modOrder n f).book = s.book := by
  have hplaces : (s.modOrder n f).orders.table.map Order.place = s.orders.table.map Order.place := by
    simp only [State.modOrder, State.modOrders, List.map_map]
    refine List.map_congr_left fun o _ => ?_
    simp only [Function.comp_apply]
    split
    · exact hf o
    · rfl
  unfold State.book
  rw [hplaces]
  rfl

theorem book_modTicket {f : Ticket → Ticket} (hf : ∀ t, (f t).place = t.place) (n : Nat) (s : State) : (s.modTicket n f).book = s.book := by
  have htickets : (s.modTicket n f).tickets.map Ticket.place = s.tickets.map Ticket.place := by
    simp only [State.modTicket, State.modTickets, List.map_map]
    refine List.map_congr_left fun t _ => ?_
    simp only [Function.comp_apply]
    split
    · exact hf t
    · rfl
  unfold State.book
  rw [htickets]
  rfl

/-- A book with the call queue of a screen replaced. -/
def Book.setQueue (i : ScreenId) (q : List CallEntry) (b : Book) : Book := { b with queue := Function.update b.queue i q }

theorem book_modCalls (i : ScreenId) (f : CallUnit → CallUnit) (s : State) :
    (s.modCalls i f).book = s.book.setQueue i (f s.calls[i]).queue := by
  have hqueue : (fun j : ScreenId => ((s.modCalls i f).calls[j]).queue) = Function.update (fun j => (s.calls[j]).queue) i (f s.calls[i]).queue := by
    funext j
    by_cases h : j = i
    · subst h
      rw [Function.update_self]
      exact congrArg CallUnit.queue (upd_get_self _ _ _)
    · rw [Function.update_of_ne h]
      exact congrArg CallUnit.queue (upd_get_ne _ _ _ _ (Ne.symm h))
  simp only [State.book, Book.setQueue, hqueue]
  rfl

theorem Book.setQueue_self (i : ScreenId) (b : Book) : b.setQueue i (b.queue i) = b := by
  simp [Book.setQueue]

/-- A change of a screen's call record that leaves its queue. -/
theorem book_modCalls_queue {i : ScreenId} {f : CallUnit → CallUnit} {s : State} (hf : (f s.calls[i]).queue = (s.calls[i]).queue) :
    (s.modCalls i f).book = s.book := by
  rw [book_modCalls, hf]
  exact Book.setQueue_self i _

/-- A queue shortened. -/
theorem Book.Calls.shorten {b : Book} {i : ScreenId} {q : List CallEntry} (h : q.Sublist (b.queue i)) : b.Calls (b.setQueue i q) := by
  refine ⟨⟨rfl, fun j => ?_⟩, fun j n hn => .inl ?_⟩ <;> by_cases hj : j = i
  · subst hj
    simpa [Book.setQueue] using .inr h.length_le
  · simp [Book.setQueue, Function.update_of_ne hj]
  · subst hj
    simp only [Book.setQueue, Function.update_self] at hn
    exact h.subset hn
  · simpa [Book.setQueue, Function.update_of_ne hj] using hn

/-- An entry joins a queue that has room. -/
theorem Book.Queues.joins {b : Book} {i : ScreenId} {e : CallEntry} (hroom : (b.queue i).length < 16) :
    b.Queues (b.setQueue i (b.queue i ++ [e])) := by
  refine ⟨rfl, fun j => ?_⟩
  by_cases hj : j = i
  · subst hj
    simp [Book.setQueue]
    omega
  · simp [Book.setQueue, Function.update_of_ne hj]

theorem Book.Calls.joins {b : Book} {i : ScreenId} {e : CallEntry} (hroom : (b.queue i).length < 16)
    (he : ∀ n, e = .orderCall n → ∃ p ∈ b.places, p.number = n ∧ p.screen = i ∧ (n ∈ b.shelf ∨ p.stage = .ready)) :
    b.Calls (b.setQueue i (b.queue i ++ [e])) := by
  refine ⟨.joins hroom, fun j n hn => ?_⟩
  by_cases hj : j = i
  · subst hj
    simp only [Book.setQueue, Function.update_self, List.mem_append, List.mem_singleton] at hn
    exact hn.imp id fun h => he n h.symm
  · left
    simpa [Book.setQueue, Function.update_of_ne hj] using hn

/-! ### The Call Unit's handlings -/

theorem calls_ite {b : Book} {c : Prop} [Decidable c] {s t : State} (hs : c → b.Calls s.book) (ht : ¬c → b.Calls t.book) :
    b.Calls (if c then s else t).book := by
  split
  · next h => exact hs h
  · next h => exact ht h

/-- The place of the record that a number finds. -/
theorem place_of_order {s : State} {n : Nat} {o : Order} (h : s.order? n = some o) : o.place ∈ s.book.places ∧ o.number = n := by
  refine ⟨List.mem_map_of_mem (List.mem_of_find?_eq_some h), ?_⟩
  simpa using List.find?_some h

theorem owe_calls (n : Nat) (b : Bool) (s : State) : (s.modOrder n fun o => { o with owed := b }).book = s.book :=
  book_modOrder (f := fun o => { o with owed := b }) (fun _ => rfl) n s

theorem enqueueCall_calls {i : ScreenId} {n : Nat} {s : State}
    (h : ∃ p ∈ s.book.places, p.number = n ∧ p.screen = i ∧ (n ∈ s.book.shelf ∨ p.stage = .ready)) : s.book.Calls (s.enqueueCall i n).book := by
  unfold State.enqueueCall
  refine calls_ite (fun _ => .refl _) fun _ => calls_ite (fun hroom => ?_) fun _ => .of_eq (owe_calls n true s)
  rw [book_modCalls]
  refine .joins hroom fun m hm => ?_
  cases hm
  exact h

theorem enqueueCall_queues (i : ScreenId) (n : Nat) (s : State) : s.book.Queues (s.enqueueCall i n).book := by
  unfold State.enqueueCall
  split
  · exact .refl _
  · split
    · next hroom =>
      rw [book_modCalls]
      exact .joins hroom
    · rw [owe_calls]
      exact .refl _

theorem nextOwed_place {i : ScreenId} {n : Nat} {s : State} (h : s.nextOwed i = some n) :
    ∃ p ∈ s.book.places, p.number = n ∧ p.screen = i ∧ (n ∈ s.book.shelf ∨ p.stage = .ready) := by
  have hshelf : n ∈ s.orders.shelf := List.mem_of_find?_eq_some h
  have hfound := List.find?_some h
  cases ho : s.order? n with
  | none => simp [ho] at hfound
  | some o =>
    obtain ⟨hmem, hn⟩ := place_of_order ho
    rw [ho] at hfound
    simp only [Bool.and_eq_true, beq_iff_eq] at hfound
    exact ⟨o.place, hmem, hn, hfound.2, .inl hshelf⟩

theorem owedFillFor_calls (k : Nat) (i : ScreenId) (s : State) : s.book.Calls (State.owedFillFor k i s).book := by
  induction k generalizing s with
  | zero => exact .refl _
  | succ k ih =>
    unfold State.owedFillFor
    refine calls_ite (fun hroom => ?_) fun _ => .refl _
    split
    · next n hn =>
      refine .trans ?_ (ih _)
      rw [book_modCalls, owe_calls]
      refine .joins hroom fun m hm => ?_
      cases hm
      exact nextOwed_place hn
    · exact .refl _

theorem owedFill_calls (i : ScreenId) (s : State) : s.book.Calls (s.owedFill i).book := owedFillFor_calls 16 i s

theorem reportPlayed_book (e : CallEntry) (s : State) : (s.reportPlayed e).book = s.book := by
  cases e with
  | announce _ => rfl
  | orderCall n =>
    refine book_modOrder (fun o => ?_) n s
    cases h : o.state <;> simp [Order.place, OrderState.stage, h]

theorem countPlayed_book (i : ScreenId) (s : State) : (s.countPlayed i).book = s.book := book_modCalls_queue rfl

theorem takeHead_calls (i : ScreenId) (m : MixSettings) (d : DuckState) (s : State) : s.book.Calls (s.takeHead i m d).book := by
  unfold State.takeHead
  split
  · exact .refl _
  · next e rest hq =>
    refine .trans ?_ (owedFill_calls i _)
    have shorter : s.book.Calls (s.modCalls i fun c => { c with queue := rest }).book := by
      rw [book_modCalls]
      refine .shorten ?_
      simp [-Fin.getElem_fin, State.book, hq]
    refine shorter.trans (calls_ite (fun _ => .of_eq ?_) fun _ => .of_eq (book_modCalls_queue rfl))
    rw [countPlayed_book, reportPlayed_book]

theorem startCalls_calls (k : Nat) (i : ScreenId) (s : State) : s.book.Calls (State.startCalls k i s).book := by
  induction k generalizing s with
  | zero => exact .refl _
  | succ k ih =>
    unfold State.startCalls
    exact calls_ite (fun _ => (takeHead_calls i _ _ s).trans (ih _)) fun _ => .refl _

theorem startScreen_calls (i : ScreenId) (s : State) : s.book.Calls (s.startScreen i).book := startCalls_calls _ i s

theorem followOn_calls (k : Nat) (i : ScreenId) (m : MixSettings) (s : State) : s.book.Calls (State.followOn k i m s).book := by
  induction k generalizing s with
  | zero =>
    unfold State.followOn
    exact calls_ite (fun _ => .refl _) fun _ => .of_eq (book_modCalls_queue rfl)
  | succ k ih =>
    unfold State.followOn
    exact calls_ite (fun _ => .refl _) fun _ => calls_ite (fun _ => (takeHead_calls i m _ s).trans (ih _)) fun _ => .of_eq (book_modCalls_queue rfl)

theorem modReader_book (f : ClipReader → ClipReader) (s : State) : (s.modReader f).book = s.book := rfl

theorem grant_book (i : ScreenId) (s : State) : (s.grant i).book = s.book := by
  unfold State.grant
  split
  · rfl
  · split
    · rfl
    · rw [modReader_book]
      exact book_modCalls_queue rfl

theorem grantRead_book (s : State) : s.grantRead.book = s.book := by
  unfold State.grantRead
  split
  · rfl
  · split
    · exact grant_book _ s
    · rfl

theorem serveReads_book (s : State) : s.serveReads.book = s.book := by
  have asked (i : ScreenId) (u : State) : (u.askRead i).book = u.book :=
    book_modCalls_queue (f := fun c => { c with slot := c.slot.map (·.ask (u.reader.serves i)) }) rfl
  unfold State.serveReads
  rw [grantRead_book, asked, asked, asked, asked]

theorem startAll_calls (s : State) : s.book.Calls s.startAll.book := by
  unfold State.startAll
  rw [serveReads_book]
  exact (startScreen_calls 0 s).trans <| (startScreen_calls 1 _).trans <| (startScreen_calls 2 _).trans (startScreen_calls 3 _)

theorem openCalls_calls (i : ScreenId) (s : State) : s.book.Calls (s.openCalls i).book := by
  unfold State.openCalls
  refine calls_ite (fun _ => .refl _) fun _ => ?_
  rw [serveReads_book]
  have opened : (s.modCalls i fun c => { c with callWindow := true }).book = s.book := book_modCalls_queue rfl
  exact (Book.Calls.of_eq opened).trans ((owedFill_calls i _).trans (startScreen_calls i _))

theorem markOwed_book (e : CallEntry) (s : State) : (s.markOwed e).book = s.book := by
  cases e with
  | orderCall n => exact owe_calls n true s
  | announce _ => rfl

theorem cutCall_book (i : ScreenId) (s : State) : (s.cutCall i).book = s.book := by
  unfold State.cutCall
  split
  · rfl
  · next p _ =>
    have emptied : (s.modCalls i fun c => { c with slot := none, duckState := .rampUp c.gain 0, cut := inc16 c.cut }).book = s.book :=
      book_modCalls_queue rfl
    exact (markOwed_book p.entry _).trans emptied

theorem flushQueue_calls (i : ScreenId) (s : State) : s.book.Calls (s.flushQueue i).book := by
  have marked (q : List CallEntry) (u : State) : (q.foldl (fun s e => s.markOwed e) u).book = u.book := by
    induction q generalizing u with
    | nil => rfl
    | cons e q ih => exact (ih _).trans (markOwed_book e u)
  unfold State.flushQueue
  rw [book_modCalls, marked]
  exact .shorten (List.nil_sublist _)

theorem endFinished_calls (i : ScreenId) (s : State) : s.book.Calls (s.endFinished i).book := by
  unfold State.endFinished
  split
  · next p _ =>
    refine calls_ite (fun _ => ?_) fun _ => .refl _
    have emptied : (s.modCalls i fun c => { c with slot := none }).book = s.book := book_modCalls_queue rfl
    refine .trans (.of_eq ?_) (followOn_calls _ i _ _)
    rw [countPlayed_book, reportPlayed_book]
    exact emptied
  · exact .refl _

theorem CallUnit.mix_queue (prog : Pair) (c : CallUnit) : (c.mix prog).queue = c.queue := by
  have late (c : CallUnit) : c.skipLate.queue = c.queue := by
    unfold CallUnit.skipLate
    split
    · split <;> rfl
    · rfl
  have settled (c : CallUnit) : c.settle.queue = c.queue := by
    unfold CallUnit.settle
    split <;> rfl
  exact (settled _).trans (late c)

theorem mixInstant_calls (i : ScreenId) (prog : Pair) (s : State) : s.book.Calls (s.mixInstant i prog).book := by
  unfold State.mixInstant
  rw [serveReads_book]
  have mixed : (s.modCalls i (·.mix prog)).book = s.book := book_modCalls_queue (CallUnit.mix_queue prog _)
  exact (Book.Calls.of_eq mixed).trans ((endFinished_calls i _).trans (startScreen_calls i _))

theorem outputInstant_calls (i : ScreenId) (us : Nat) (s : State) : s.book.Calls (s.outputInstant i us).book := by
  refine Book.Calls.trans (.of_eq ?_) (mixInstant_calls i _ _)
  simp only [State.alignInstant]
  split <;> rfl

theorem readComplete_book (bytes : List Byte) (s : State) : (s.readComplete bytes).book = s.book := by
  unfold State.readComplete
  split
  · rfl
  · split
    · rw [serveReads_book]
      exact book_modCalls_queue rfl
    · rfl

theorem announceBody_calls (a : ScreenId × List Nat) (s : State) : s.book.Calls (s.announceBody a).1.book := by
  unfold State.announceBody
  split
  · exact .refl _
  · split
    · exact .refl _
    · next hroom =>
      dsimp only
      refine .trans ?_ (startAll_calls _)
      rw [book_modCalls]
      exact .joins (Nat.lt_of_not_le hroom) fun n hn => by cases hn

theorem screenReset_calls (i : ScreenId) (s : State) : s.book.Calls (s.screenReset i).book := by
  simp only [State.screenReset]
  rw [serveReads_book, cutCall_book]
  refine .trans (.of_eq ?_) (flushQueue_calls i _)
  exact (book_modCalls_queue rfl).trans ((book_modCalls_queue rfl).trans (book_of_same rfl rfl rfl))

/-! Exciter links. -/

/-- What a fall of SOUND_UP does. -/
theorem soundFall_calls (i : ScreenId) (s : State) : s.book.Calls ((s.soundLossHold i).cutCall i).serveReads.book := by
  rw [serveReads_book, cutCall_book]
  unfold State.soundLossHold
  split
  · exact .refl _
  · exact .refl _

/-- What a rise of SOUND_UP does. -/
theorem soundRise_calls (i : ScreenId) (s : State) : s.book.Calls ((s.owedFill i).startScreen i).serveReads.book := by
  rw [serveReads_book]
  exact (owedFill_calls i s).trans (startScreen_calls i _)

theorem modLink_book (i : ScreenId) (f : Link → Link) (s : State) : (s.modLink i f).book = s.book := rfl

theorem post_book (k : EventKind) (d : Detail) (s : State) : (s.post k d).book = s.book := rfl

theorem deriveSound_calls (i : ScreenId) (s : State) : s.book.Calls (s.deriveSound i).book := by
  simp only [State.deriveSound]
  refine Book.Calls.trans (.of_eq (modLink_book i (fun k => { k with soundUp := (s.links[i]).deriveSound }) s)) ?_
  exact calls_ite (fun _ => soundFall_calls i _) fun _ => calls_ite (fun _ => soundRise_calls i _) fun _ => .refl _

theorem loseLink_calls (i : ScreenId) (s : State) : s.book.Calls (s.loseLink i).book := by
  unfold State.loseLink
  refine .trans (.of_eq ?_) (deriveSound_calls i _)
  rw [post_book, modLink_book]

theorem cycle_calls (i : ScreenId) (s : State) : s.book.Calls (s.cycle i).book := by
  simp only [State.cycle]
  rw [modLink_book]
  exact calls_ite (fun _ => loseLink_calls i s) fun _ => .refl _

theorem ackExpiry_calls (i : ScreenId) (s : State) : s.book.Calls (s.ackExpiry i).book := by
  simp only [State.ackExpiry]
  refine calls_ite (fun _ => .refl _) fun _ => calls_ite (fun _ => calls_ite (fun _ => ?_) fun _ => ?_) fun _ => ?_
  · rw [modLink_book, modLink_book]
    exact .refl _
  · refine .trans (.of_eq ?_) (loseLink_calls i _)
    rw [modLink_book]
  · rw [modLink_book]
    exact .refl _

theorem postStatusChange_book (i : ScreenId) (old new : Option ExciterStatus) (was now : Bool) (s : State) :
    (s.postStatusChange i old new was now).book = s.book := by
  unfold State.postStatusChange
  split
  · rfl
  · split <;> rfl

theorem takeStatus_calls (i : ScreenId) (t : ExciterStatus) (s : State) : s.book.Calls (s.takeStatus i t).book := by
  simp only [State.takeStatus]
  refine calls_ite (fun _ => ?_) fun _ => .of_eq (modLink_book i _ s)
  refine .trans (.of_eq ?_) (deriveSound_calls i _)
  rw [postStatusChange_book, modLink_book]

theorem takeStatusMessage_calls (i : ScreenId) (n : Byte) (t : ExciterStatus) (s : State) : s.book.Calls (s.takeStatusMessage i n t).book := by
  unfold State.takeStatusMessage
  refine .trans (.of_eq ?_) (takeStatus_calls i t _)
  rw [modLink_book]

theorem takeAck_calls (i : ScreenId) (n : Byte) (t : ExciterStatus) (s : State) : s.book.Calls (s.takeAck i n t).book := by
  unfold State.takeAck
  refine calls_ite (fun _ => ?_) fun _ => .of_eq (modLink_book i _ s)
  simp only [State.validAck]
  split
  · refine .trans (.of_eq ?_) (takeStatus_calls i t _)
    rw [modLink_book]
  · refine .trans (.of_eq ?_) (deriveSound_calls i _)
    rw [modLink_book, modLink_book]
  · refine .trans (.of_eq ?_) (deriveSound_calls i _)
    rw [post_book, modLink_book, modLink_book]

theorem setExciter_calls (heard : List LineInput) (i : ScreenId) (t : ExciterSettings) (s : State) :
    s.book.Calls (s.setExciter heard i t).book := by
  unfold State.setExciter
  refine calls_ite (fun _ => .refl _) fun _ => ?_
  refine .trans (.of_eq ?_) (cycle_calls i _)
  rw [modLink_book]

end Sys2Proof.Machine

/-! What the handlings of the Order Unit do with the book. -/

namespace Sys2Proof.Machine

/-! ### An order moved to another stage -/

/-- The order with the number moved to a stage. -/
def Book.setStage (n : Nat) (st : Stage) (b : Book) : Book :=
  { b with places := b.places.map fun p => if p.number = n then { p with stage := st } else p }

theorem Book.mem_setStage {n : Nat} {st : Stage} {b : Book} {p : OrderPlace} :
    p ∈ (b.setStage n st).places ↔ ∃ q ∈ b.places, (if q.number = n then { q with stage := st } else q) = p := List.mem_map

/-- Moving an order to another stage leaves what an order is named by. -/
theorem Book.setStage_map {α : Type} (f : OrderPlace → α) (hf : ∀ p st, f { p with stage := st } = f p) (n : Nat) (st : Stage) (b : Book) :
    (b.setStage n st).places.map f = b.places.map f := by
  simp only [Book.setStage, List.map_map]
  refine List.map_congr_left fun p _ => ?_
  simp only [Function.comp_apply]
  split
  · exact hf p st
  · rfl

theorem book_setStage (n : Nat) (st : OrderState) (s : State) :
    (s.modOrder n fun o => { o with state := st }).book = s.book.setStage n st.stage := by
  have hplaces : (s.modOrder n fun o => { o with state := st }).orders.table.map Order.place = (s.book.setStage n st.stage).places := by
    simp only [State.modOrder, State.modOrders, Book.setStage, State.book, List.map_map]
    refine List.map_congr_left fun o _ => ?_
    simp only [Function.comp_apply]
    by_cases h : o.number = n
    · simp [Order.place, h]
    · simp [Order.place, h]
  unfold State.book
  rw [hplaces]
  rfl

theorem Book.Naming.setStage {b : Book} (h : b.Naming) (n : Nat) (st : Stage) : (b.setStage n st).Naming where
  numbers := by
    rw [Book.setStage_map _ (fun _ _ => rfl)]
    exact h.numbers
  length := by simpa [Book.setStage] using h.length
  named := by
    intro p hp
    obtain ⟨q, hq, rfl⟩ := Book.mem_setStage.1 hp
    have hnamed := h.named q hq
    split <;> exact hnamed
  counted := by
    intro t ht
    have hsame : (b.setStage n st).places.countP (fun p => p.ticket == t.number) = b.places.countP fun p => p.ticket == t.number := by
      have htickets := congrArg (List.countP fun k => k == t.number) (Book.setStage_map OrderPlace.ticket (fun _ _ => rfl) n st b)
      simpa only [List.countP_map, Function.comp_def] using htickets
    rw [hsame]
    exact h.counted t ht

theorem Book.Naming.of_queues {b b' : Book} (h : b.Naming) (hp : b'.places = b.places) (ht : b'.tickets = b.tickets) : b'.Naming :=
  ⟨hp ▸ h.numbers, hp ▸ h.length, hp ▸ ht ▸ h.named, hp ▸ ht ▸ h.counted⟩

/-- An order that is not READY moves to another stage, the kitchen queue and the shelf following it. -/
theorem Book.Law.restage {b : Book} (h : b.Law) {q : OrderPlace} (hq : q ∈ b.places) (hready : q.stage ≠ .ready) {st : Stage}
    {kitchen shelf : List Nat} (honce : kitchen.Nodup) (hshelved : shelf.Nodup)
    (hk : ∀ m, m ∈ kitchen ↔ if m = q.number then st = .queued else m ∈ b.kitchen)
    (hs : ∀ m, m ∈ shelf ↔ if m = q.number then st = .ready else m ∈ b.shelf) :
    ({ b.setStage q.number st with kitchen, shelf } : Book).Law := by
  have moved (P : Stage → Prop) (m : Nat) : (∃ p ∈ (b.setStage q.number st).places, p.number = m ∧ P p.stage) ↔
      if m = q.number then P st else ∃ p ∈ b.places, p.number = m ∧ P p.stage := by
    split
    · next hm =>
      constructor
      · rintro ⟨p, hp, hpm, hst⟩
        obtain ⟨r, hr, rfl⟩ := Book.mem_setStage.1 hp
        by_cases hrn : r.number = q.number
        · simpa [hrn] using hst
        · simp [hrn] at hpm
          exact absurd (hpm.trans hm) hrn
      · intro hst
        exact ⟨{ q with stage := st }, Book.mem_setStage.2 ⟨q, hq, by simp⟩, hm.symm, hst⟩
    · next hm =>
      constructor
      · rintro ⟨p, hp, hpm, hst⟩
        obtain ⟨r, hr, rfl⟩ := Book.mem_setStage.1 hp
        by_cases hrn : r.number = q.number
        · simp [hrn] at hpm
          exact absurd hpm.symm hm
        · simp only [hrn, if_false] at hpm hst
          exact ⟨r, hr, hpm, hst⟩
      · rintro ⟨p, hp, hpm, hst⟩
        exact ⟨p, Book.mem_setStage.2 ⟨p, hp, by simp [hpm, hm]⟩, hpm, hst⟩
  refine ⟨?_, honce, hshelved, fun m => ?_, fun m => ?_, fun i m hm => ?_, h.totals⟩
  · exact (Book.setStage_map OrderPlace.number (fun _ _ => rfl) q.number st b) ▸ h.numbers
  · rw [hk m, moved (· = .queued) m]
    split
    · rfl
    · exact h.kitchen m
  · rw [hs m, moved (· = .ready) m]
    split
    · rfl
    · exact h.shelf m
  · obtain ⟨p, hp, hpm, hpr, hpi⟩ := h.calls i m hm
    refine ⟨p, Book.mem_setStage.2 ⟨p, hp, if_neg fun hpn => ?_⟩, hpm, hpr, hpi⟩
    obtain rfl := eq_of_number h.numbers hp hq hpn
    exact hready hpr

theorem Book.Law.not_mem_kitchen {b : Book} (h : b.Law) {q : OrderPlace} (hq : q ∈ b.places) (hst : q.stage ≠ .queued) :
    q.number ∉ b.kitchen := by
  intro hm
  obtain ⟨p, hp, hpn, hpq⟩ := (h.kitchen _).1 hm
  obtain rfl := eq_of_number h.numbers hp hq hpn
  exact hst hpq

theorem Book.Law.not_mem_shelf {b : Book} (h : b.Law) {q : OrderPlace} (hq : q ∈ b.places) (hst : q.stage ≠ .ready) :
    q.number ∉ b.shelf := by
  intro hm
  obtain ⟨p, hp, hpn, hpq⟩ := (h.shelf _).1 hm
  obtain rfl := eq_of_number h.numbers hp hq hpn
  exact hst hpq

/-! ### The kitchen queue joined -/

/-- An order joins the tail of the kitchen queue. -/
def Book.join (n : Nat) (b : Book) : Book := { b.setStage n .queued with kitchen := b.kitchen ++ [n] }

theorem joinKitchen_book (n : Nat) (s : State) : (s.joinKitchen n).book = s.book.join n := by
  unfold Book.join
  rw [show Stage.queued = OrderState.queued.stage from rfl, ← book_setStage]
  rfl

theorem Book.Law.join {b : Book} (h : b.Law) {q : OrderPlace} (hq : q ∈ b.places) (hqueued : q.stage ≠ .queued) (hready : q.stage ≠ .ready) :
    (b.join q.number).Law := by
  have hk := h.not_mem_kitchen hq hqueued
  have hs := h.not_mem_shelf hq hready
  refine h.restage hq hready (List.nodup_append.2 ⟨h.once, by simp, ?_⟩) h.shelved (fun m => ?_) fun m => ?_
  · intro a ha c hc
    rintro rfl
    exact hk (by simpa using List.mem_singleton.1 hc ▸ ha)
  · split
    · next hm => simp [hm]
    · next hm => simp [hm]
  · split
    · next hm =>
      rw [hm]
      exact iff_of_false hs (by simp)
    · rfl

theorem Book.Naming.join {b : Book} (h : b.Naming) (n : Nat) : (b.join n).Naming := (h.setStage n .queued).of_queues rfl rfl

/-- No order becomes release pending by joining the queue. -/
theorem Book.pending_of_join {b : Book} {n : Nat} (h : ∃ p ∈ (b.join n).places, p.stage = .pending) : ∃ p ∈ b.places, p.stage = .pending := by
  obtain ⟨p, hp, hpend⟩ := h
  obtain ⟨q, hq, rfl⟩ := Book.mem_setStage.1 hp
  split at hpend
  · cases hpend
  · exact ⟨q, hq, hpend⟩

/-- A joining that serves one freed slot. -/
theorem Book.Bounds.join {b : Book} {k : Nat} (h : b.Bounds (k + 1)) (n : Nat) : (b.join n).Bounds k where
  room := by
    have := h.room
    simp only [Book.join, List.length_append, List.length_singleton]
    omega
  high := h.high
  full := by
    intro hp
    have := h.full (Book.pending_of_join hp)
    simp only [Book.join, List.length_append, List.length_singleton]
    omega
  call := h.call

/-- A joining that finds room: no order was release pending. -/
theorem Book.Bounds.join_room {b : Book} (h : b.Bounds 0) (hroom : b.kitchen.length < 48) (n : Nat) : (b.join n).Bounds 0 where
  room := by
    simp only [Book.join, List.length_append, List.length_singleton]
    omega
  high := h.high
  full := by
    intro hp
    have := h.full (Book.pending_of_join hp)
    omega
  call := h.call

/-! ### Service steps -/

/-- A service step finds no release-pending order, or moves one to the queue (R164). -/
theorem serviceStep_cases (s : State) :
    (s.serviceStep = s ∧ ¬∃ p ∈ s.book.places, p.stage = .pending) ∨
      ∃ o ∈ s.orders.table, o.isPending = true ∧ s.serviceStep.book = s.book.join o.number := by
  simp only [State.serviceStep]
  split
  · next hnone =>
    refine .inl ⟨rfl, ?_⟩
    rintro ⟨p, hp, hpend⟩
    obtain ⟨o, ho, rfl⟩ := List.mem_map.1 hp
    have hpending := o.stage_eq_pending.1 hpend
    have hheld : o.isHeld = true := by
      unfold Order.isPending at hpending
      unfold Order.isHeld
      split at hpending <;> simp_all
    have hin : o.screen ∈ [s.orders.pointer + 1, s.orders.pointer + 2, s.orders.pointer + 3, s.orders.pointer] := by
      generalize s.orders.pointer = a
      generalize o.screen = c
      revert a c
      decide
    have hscreen := List.find?_eq_none.1 hnone _ hin
    refine hscreen ?_
    rw [OrderUnit.oldestPending, List.find?_isSome]
    exact ⟨o, List.mem_filter.2 ⟨ho, by simp [hheld]⟩, hpending⟩
  · next i hi =>
    split
    · next hnone =>
      have := List.find?_some hi
      simp [hnone] at this
    · next o ho =>
      refine .inr ⟨o, (List.mem_filter.1 (List.mem_of_find?_eq_some ho)).1, by simpa using List.find?_some ho, ?_⟩
      exact joinKitchen_book o.number s

theorem Order.isPending_stage {o : Order} (h : o.isPending = true) : o.place.stage = .pending := o.stage_eq_pending.2 h

theorem Book.Law.serviceStep {s : State} (h : s.book.Law) : s.serviceStep.book.Law := by
  rcases serviceStep_cases s with ⟨he, -⟩ | ⟨o, ho, hpend, he⟩
  · rw [he]
    exact h
  · rw [he]
    have hst := Order.isPending_stage hpend
    exact h.join (List.mem_map_of_mem ho) (by simp [hst]) (by simp [hst])

theorem Book.Naming.serviceStep {s : State} (h : s.book.Naming) : s.serviceStep.book.Naming := by
  rcases serviceStep_cases s with ⟨he, -⟩ | ⟨o, -, -, he⟩ <;> rw [he]
  · exact h
  · exact h.join o.number

theorem Book.Bounds.serviceStep {s : State} {k : Nat} (h : s.book.Bounds (k + 1)) : s.serviceStep.book.Bounds k := by
  rcases serviceStep_cases s with ⟨he, hnone⟩ | ⟨o, -, -, he⟩ <;> rw [he]
  · exact ⟨by have := h.room; omega, h.high, fun hp => absurd hp hnone, h.call⟩
  · exact h.join o.number

theorem Book.Law.serviceSteps (k : Nat) {s : State} (h : s.book.Law) : (State.serviceSteps k s).book.Law := by
  induction k generalizing s with
  | zero => exact h
  | succ k ih => exact ih h.serviceStep

theorem Book.Naming.serviceSteps (k : Nat) {s : State} (h : s.book.Naming) : (State.serviceSteps k s).book.Naming := by
  induction k generalizing s with
  | zero => exact h
  | succ k ih => exact ih h.serviceStep

theorem Book.Bounds.serviceSteps (k : Nat) {s : State} (h : s.book.Bounds k) : (State.serviceSteps k s).book.Bounds 0 := by
  induction k generalizing s with
  | zero => exact h
  | succ k ih => exact ih h.serviceStep

/-! ### Removal -/

/-- The order of a place leaves the book, its call and its ticket's count with it (R4, R169). -/
def Book.remove (out : OrderOutcome) (p : OrderPlace) (b : Book) : Book where
  places := b.places.filter fun q => q.number != p.number
  kitchen := b.kitchen.filter (· != p.number)
  shelf := b.shelf.filter (· != p.number)
  high := b.high
  totals := b.totals.countOutcome out
  queue := Function.update b.queue p.screen ((b.queue p.screen).filter fun e => !(e == .orderCall p.number))
  tickets := b.tickets.map fun t => if t.number = p.ticket then { t with openOrders := t.openOrders - 1 } else t

theorem postRemoval_book (out : OrderOutcome) (n : Nat) (s : State) : (s.postRemoval out n).book = s.book := by
  cases out <;> rfl

theorem removeOne_book (out : OrderOutcome) (s : State) (o : Order) : (s.removeOne out o).book = s.book.remove out o.place := by
  simp only [State.removeOne, State.withdrawCall]
  rw [postRemoval_book, book_modCalls]
  have hplaces : (s.orders.table.filter fun r => r.number != o.number).map Order.place =
      s.book.places.filter fun q => q.number != o.number := by
    simp only [State.book, List.filter_map]
    rfl
  have htickets : (s.tickets.map fun t => if t.number = o.ticket then { t with openOrders := t.openOrders - 1 } else t).map Ticket.place =
      s.book.tickets.map fun t => if t.number = o.ticket then { t with openOrders := t.openOrders - 1 } else t := by
    simp only [State.book, List.map_map]
    refine List.map_congr_left fun t _ => ?_
    simp only [Function.comp_apply]
    by_cases h : t.number = o.ticket
    · simp [Ticket.place, h]
    · simp [Ticket.place, h]
  simp only [Book.setQueue, Book.remove, State.book, State.modTicket, State.modTickets, State.modOrders, hplaces, htickets]
  rfl

theorem OrderTotals.law_countOutcome {t : OrderTotals} (h : t.law) (out : OrderOutcome) : (t.countOutcome out).law := by
  obtain ⟨h1, h2, h3, h4, h5, h6, h7, h8⟩ := h
  have held (n : Nat) : inc16 n ≤ 65535 := Nat.min_le_left _ _
  cases out <;> simp only [OrderTotals.countOutcome, OrderTotals.law] <;> simp [*]

theorem Book.Law.remove {b : Book} (h : b.Law) {p : OrderPlace} (hp : p ∈ b.places) (out : OrderOutcome) : (b.remove out p).Law where
  numbers := (h.numbers.sublist ((List.filter_sublist).map _))
  once := h.once.filter _
  shelved := h.shelved.filter _
  kitchen := by
    intro n
    simp only [Book.remove, List.mem_filter, h.kitchen n, bne_iff_ne]
    constructor
    · rintro ⟨⟨q, hq, rfl, hst⟩, hne⟩
      exact ⟨q, ⟨hq, hne⟩, rfl, hst⟩
    · rintro ⟨q, ⟨hq, hne⟩, rfl, hst⟩
      exact ⟨⟨q, hq, rfl, hst⟩, hne⟩
  shelf := by
    intro n
    simp only [Book.remove, List.mem_filter, h.shelf n, bne_iff_ne]
    constructor
    · rintro ⟨⟨q, hq, rfl, hst⟩, hne⟩
      exact ⟨q, ⟨hq, hne⟩, rfl, hst⟩
    · rintro ⟨q, ⟨hq, hne⟩, rfl, hst⟩
      exact ⟨⟨q, hq, rfl, hst⟩, hne⟩
  calls := by
    intro i n hn
    simp only [Book.remove] at hn
    have hcalled : CallEntry.orderCall n ∈ b.queue i := by
      by_cases hi : i = p.screen
      · subst hi
        rw [Function.update_self] at hn
        exact (List.mem_filter.1 hn).1
      · rwa [Function.update_of_ne hi] at hn
    obtain ⟨q, hq, rfl, hr, rfl⟩ := h.calls i n hcalled
    refine ⟨q, List.mem_filter.2 ⟨hq, ?_⟩, rfl, hr, rfl⟩
    rw [bne_iff_ne]
    intro hqp
    obtain rfl := eq_of_number h.numbers hq hp hqp
    rw [Function.update_self] at hn
    simp at hn
  totals := OrderTotals.law_countOutcome h.totals out

/-- Without the order of a place, the orders of its ticket are one fewer, and those of other tickets as many. -/
theorem countP_without {l : List OrderPlace} (h : (l.map (·.number)).Nodup) {p : OrderPlace} (hp : p ∈ l) (n : Nat) :
    (l.filter fun q => q.number != p.number).countP (fun q => q.ticket == n) =
      l.countP (fun q => q.ticket == n) - if p.ticket = n then 1 else 0 := by
  induction l with
  | nil => simp at hp
  | cons q l ih =>
    obtain ⟨hq, hl⟩ := List.nodup_cons.1 h
    rcases List.mem_cons.1 hp with rfl | hp
    · have rest : l.filter (fun r => r.number != p.number) = l := by
        refine List.filter_eq_self.2 fun r hr => ?_
        rw [bne_iff_ne]
        intro he
        exact hq (List.mem_map.2 ⟨r, hr, he⟩)
      rw [List.filter_cons_of_neg (by simp), rest, List.countP_cons]
      simp
    · have hne : q.number ≠ p.number := fun he => hq (List.mem_map.2 ⟨p, hp, he.symm⟩)
      rw [List.filter_cons_of_pos (by simpa using hne), List.countP_cons, List.countP_cons, ih hl hp]
      by_cases hn : p.ticket = n
      · have : 0 < l.countP fun q => q.ticket == n := List.countP_pos_iff.2 ⟨p, hp, by simp [hn]⟩
        simp only [hn, if_true]
        omega
      · simp [hn]

theorem Book.Naming.remove {b : Book} (h : b.Naming) {p : OrderPlace} (hp : p ∈ b.places) (out : OrderOutcome) : (b.remove out p).Naming where
  numbers := (h.numbers.sublist ((List.filter_sublist).map _))
  length := Nat.le_trans (List.length_filter_le _ _) h.length
  named := by
    intro q hq
    obtain ⟨t, ht, hn, hs⟩ := h.named q (List.mem_of_mem_filter hq)
    refine ⟨_, List.mem_map_of_mem ht, ?_, ?_⟩ <;> split <;> assumption
  counted := by
    intro t ht
    obtain ⟨r, hr, rfl⟩ := List.mem_map.1 ht
    obtain ⟨hcount, hfour⟩ := h.counted r hr
    have hrest := countP_without h.numbers hp r.number
    simp only [Book.remove]
    by_cases hn : r.number = p.ticket
    · simp only [hn, if_true] at hrest hcount ⊢
      omega
    · simp only [hn, if_false] at hrest hcount ⊢
      rw [hrest, if_neg (Ne.symm hn)]
      omega

/-- Orders of the book, with distinct numbers. -/
def Book.Lists (b : Book) (os : List Order) : Prop := (os.map (·.number)).Nodup ∧ ∀ o ∈ os, o.place ∈ b.places

/-- The orders still to be removed stay in the book. -/
theorem Book.Lists.remove {b : Book} {o : Order} {os : List Order} (h : b.Lists (o :: os)) (out : OrderOutcome) :
    (b.remove out o.place).Lists os := by
  obtain ⟨hnodup, hmem⟩ := h
  obtain ⟨ho, hos⟩ := List.nodup_cons.1 hnodup
  refine ⟨hos, fun r hr => List.mem_filter.2 ⟨hmem r (by simp [hr]), ?_⟩⟩
  rw [bne_iff_ne]
  intro he
  exact ho (List.mem_map.2 ⟨r, hr, he⟩)

theorem removeAll_law {out : OrderOutcome} {os : List Order} {s : State} (hos : s.book.Lists os) (h : s.book.Law) :
    (os.foldl (State.removeOne out) s).book.Law := by
  induction os generalizing s with
  | nil => exact h
  | cons o os ih =>
    refine ih ?_ ?_ <;> rw [removeOne_book]
    · exact hos.remove out
    · exact h.remove (hos.2 o (by simp)) out

theorem removeAll_naming {out : OrderOutcome} {os : List Order} {s : State} (hos : s.book.Lists os) (h : s.book.Naming) :
    (os.foldl (State.removeOne out) s).book.Naming := by
  induction os generalizing s with
  | nil => exact h
  | cons o os ih =>
    refine ih ?_ ?_ <;> rw [removeOne_book]
    · exact hos.remove out
    · exact h.remove (hos.2 o (by simp)) out

/-- A book in which nothing has joined. -/
structure Book.Shrinks (b b' : Book) : Prop where
  kitchen : b'.kitchen.length ≤ b.kitchen.length
  high    : b'.high = b.high
  places  : ∀ p ∈ b'.places, p ∈ b.places
  queue   : ∀ i, (b'.queue i).length ≤ (b.queue i).length

theorem Book.shrinks_remove (out : OrderOutcome) (p : OrderPlace) (b : Book) : b.Shrinks (b.remove out p) where
  kitchen := List.length_filter_le _ _
  high := rfl
  places := fun _ hq => List.mem_of_mem_filter hq
  queue := by
    intro i
    simp only [Book.remove]
    by_cases hi : i = p.screen
    · subst hi
      rw [Function.update_self]
      exact List.length_filter_le _ _
    · rw [Function.update_of_ne hi]

theorem removeAll_shrinks (out : OrderOutcome) (os : List Order) (s : State) : s.book.Shrinks (os.foldl (State.removeOne out) s).book := by
  induction os generalizing s with
  | nil => exact ⟨Nat.le_refl _, rfl, fun _ h => h, fun _ => Nat.le_refl _⟩
  | cons o os ih =>
    have first := Book.shrinks_remove out o.place s.book
    rw [← removeOne_book] at first
    have rest := ih (s.removeOne out o)
    exact ⟨Nat.le_trans rest.kitchen first.kitchen, rest.high.trans first.high, fun p hp => first.places p (rest.places p hp),
      fun i => Nat.le_trans (rest.queue i) (first.queue i)⟩

/-- What has left the kitchen queue is what there is to be served. -/
theorem Book.Shrinks.bounds {b b' : Book} (h : b.Shrinks b') (hb : b.Bounds 0) : b'.Bounds (b.kitchen.length - b'.kitchen.length) where
  room := by
    have := hb.room
    have := h.kitchen
    omega
  high := h.high ▸ hb.high
  full := by
    rintro ⟨p, hp, hpend⟩
    have := hb.full ⟨p, h.places p hp, hpend⟩
    have := h.kitchen
    omega
  call := fun i => Nat.le_trans (h.queue i) (hb.call i)

theorem postCrossings_book (n : Nat) (s : State) : (s.postCrossings n).book = s.book :=
  book_of_onlyIn (postCrossings_onlyIn (ps := [.ports]) n s (by simp)) (by simp) (by simp) (by simp)

theorem fillIfShrunk_calls (i : ScreenId) (n : Nat) (s : State) : s.book.Calls (s.fillIfShrunk i n).book :=
  calls_ite (fun _ => owedFill_calls i s) fun _ => .refl _

/-- The end of a removal: the freed slots served, the crossings posted, the shrunk call queues filled. -/
theorem removeOrders_served (out : OrderOutcome) (os : List Order) (s : State) :
    (State.serviceSteps (s.orders.fill - (os.foldl (State.removeOne out) s).orders.fill) (os.foldl (State.removeOne out) s)).book.Calls
      (s.removeOrders out os).book := by
  simp only [State.removeOrders]
  refine .trans (.of_eq (postCrossings_book s.orders.fill _)) ?_
  exact (fillIfShrunk_calls 0 _ _).trans <| (fillIfShrunk_calls 1 _ _).trans <| (fillIfShrunk_calls 2 _ _).trans (fillIfShrunk_calls 3 _ _)

theorem removeOrders_keeps (out : OrderOutcome) {os : List Order} {s : State}
    (hos : (s.book.places.map (·.number)).Nodup → s.book.Lists os) : s.book.Keeps (s.removeOrders out os).book where
  bounds := fun h => (removeOrders_served out os s).keeps.bounds (Book.Bounds.serviceSteps _ ((removeAll_shrinks out os s).bounds h))
  law := fun h => (removeOrders_served out os s).keeps.law (Book.Law.serviceSteps _ (removeAll_law (hos h.numbers) h))
  naming := fun h => (removeOrders_served out os s).keeps.naming (Book.Naming.serviceSteps _ (removeAll_naming (hos h.numbers) h))

/-- Orders picked from the table are orders of the book. -/
theorem Book.Lists.of_sublist {s : State} {os : List Order} (h : os.Sublist s.orders.table) (hn : (s.book.places.map (·.number)).Nodup) :
    s.book.Lists os := by
  have hnumbers : s.book.places.map (·.number) = s.orders.table.map (·.number) := by simp [State.book, Order.place, Function.comp_def]
  rw [hnumbers] at hn
  exact ⟨hn.sublist (h.map _), fun o ho => List.mem_map_of_mem (h.subset ho)⟩

theorem removeOrders_one_keeps (out : OrderOutcome) {n : Nat} {o : Order} {s : State} (ho : s.order? n = some o) :
    s.book.Keeps (s.removeOrders out [o]).book :=
  removeOrders_keeps out fun hn => .of_sublist (List.singleton_sublist.2 (List.mem_of_find?_eq_some ho)) hn

/-! ### Recall and expiry -/

theorem serviceSteps_shelf (k : Nat) (s : State) : (State.serviceSteps k s).book.shelf = s.book.shelf := by
  induction k generalizing s with
  | zero => rfl
  | succ k ih =>
    refine (ih _).trans ?_
    rcases serviceStep_cases s with ⟨he, -⟩ | ⟨o, -, -, he⟩ <;> rw [he]
    rfl

theorem removeOrders_shelf (out : OrderOutcome) (o : Order) (s : State) :
    (s.removeOrders out [o]).book.shelf = s.book.shelf.filter (· != o.number) := by
  rw [(removeOrders_served out [o] s).same]
  refine (serviceSteps_shelf _ _).trans ?_
  exact congrArg Book.shelf (removeOne_book out s o)

/-- The examination of an order of the shelf keeps the laws, and the other orders of the shelf stay there. -/
theorem examineOrder_law {s : State} {n : Nat} (hn : n ∈ s.book.shelf) (h : s.book.Law) :
    (s.examineOrder n).book.Law ∧ ∀ m ∈ s.book.shelf, m ≠ n → m ∈ (s.examineOrder n).book.shelf := by
  unfold State.examineOrder
  split
  · exact ⟨h, fun m hm _ => hm⟩
  · next o ho =>
    obtain ⟨hmem, rfl⟩ := place_of_order ho
    split
    · exact ⟨h, fun m hm _ => hm⟩
    · split
      · have hcalls := enqueueCall_calls (i := o.screen) (n := o.number) ⟨o.place, hmem, rfl, rfl, .inl hn⟩
        refine ⟨hcalls.law h, fun m hm _ => ?_⟩
        rw [hcalls.same]
        exact hm
      · refine ⟨(removeOrders_one_keeps .expired ho).law h, fun m hm hne => ?_⟩
        rw [removeOrders_shelf]
        exact List.mem_filter.2 ⟨hm, by simpa using hne⟩

theorem examineOrder_bounds {s : State} (n : Nat) (h : s.book.Bounds 0) : (s.examineOrder n).book.Bounds 0 := by
  unfold State.examineOrder
  split
  · exact h
  · next o ho =>
    split
    · exact h
    · split
      · exact (enqueueCall_queues _ _ s).bounds h
      · exact (removeOrders_one_keeps .expired ho).bounds h

theorem examineOrder_naming {s : State} (n : Nat) (h : s.book.Naming) : (s.examineOrder n).book.Naming := by
  unfold State.examineOrder
  split
  · exact h
  · next o ho =>
    split
    · exact h
    · split
      · exact (enqueueCall_queues _ _ s).naming h
      · exact (removeOrders_one_keeps .expired ho).naming h

theorem examineAll_law (ns : List Nat) {s : State} (hns : ns.Nodup) (hin : ∀ n ∈ ns, n ∈ s.book.shelf) (h : s.book.Law) :
    (ns.foldl State.examineOrder s).book.Law := by
  induction ns generalizing s with
  | nil => exact h
  | cons n ns ih =>
    obtain ⟨hn, hrest⟩ := List.nodup_cons.1 hns
    have first := examineOrder_law (hin n (by simp)) h
    exact ih hrest (fun m hm => first.2 m (hin m (by simp [hm])) fun he => hn (he ▸ hm)) first.1

theorem foldl_keeps {α : Type} {P : State → Prop} {f : State → α → State} (hf : ∀ {s : State} (a : α), P s → P (f s a)) (l : List α)
    {s : State} (h : P s) : P (l.foldl f s) := by
  induction l generalizing s with
  | nil => exact h
  | cons a l ih => exact ih (hf a h)

theorem examineShelf_keeps (s : State) : s.book.Keeps s.examineShelf.book where
  bounds := by
    unfold State.examineShelf
    exact fun h => foldl_keeps (P := fun s => s.book.Bounds 0) (fun n => examineOrder_bounds n) _ h
  law := fun h => examineAll_law _ h.shelved (fun _ hn => hn) h
  naming := by
    unfold State.examineShelf
    exact fun h => foldl_keeps (P := fun s => s.book.Naming) (fun n => examineOrder_naming n) _ h

theorem advanceNight_keeps (s : State) : s.book.Keeps s.advanceNight.book := by
  unfold State.advanceNight
  split
  · refine .trans ?_ (startAll_calls _).keeps
    refine .trans (.of_eq ?_) (examineShelf_keeps _)
    rfl
  · exact .refl _

/-! ### Kitchen release -/

/-- Orders of the book that no queue and no shelf holds. -/
def Book.Waits (b : Book) (n : Nat) : Prop := ∃ p ∈ b.places, p.number = n ∧ p.stage ≠ .queued ∧ p.stage ≠ .ready

/-- An order to be released finds room, or is release pending (R163). -/
theorem releaseOne_book (s : State) (o : Order) : (s.releaseOne o).book =
    if s.book.kitchen.length < 48 then s.book.join o.number else s.book.setStage o.number .pending := by
  unfold State.releaseOne
  have hfill : s.orders.fill = s.book.kitchen.length := rfl
  rw [hfill]
  split
  · exact joinKitchen_book o.number s
  · exact book_setStage o.number (.held true) s

theorem Book.Waits.setStage {b : Book} {m n : Nat} (h : b.Waits m) (hne : m ≠ n) (st : Stage) : (b.setStage n st).Waits m := by
  obtain ⟨p, hp, rfl, hst⟩ := h
  exact ⟨p, Book.mem_setStage.2 ⟨p, hp, by simp [hne]⟩, rfl, hst⟩

theorem releaseOne_law {s : State} {o : Order} (ho : s.book.Waits o.number) (h : s.book.Law) : (s.releaseOne o).book.Law := by
  obtain ⟨p, hp, hn, hqueued, hready⟩ := ho
  rw [releaseOne_book, ← hn]
  split
  · exact h.join hp hqueued hready
  · have hk := h.not_mem_kitchen hp hqueued
    have hs := h.not_mem_shelf hp hready
    refine h.restage (kitchen := s.book.kitchen) (shelf := s.book.shelf) hp hready h.once h.shelved (fun m => ?_) fun m => ?_
    · split
      · next hm => exact hm ▸ iff_of_false hk (by simp)
      · rfl
    · split
      · next hm => exact hm ▸ iff_of_false hs (by simp)
      · rfl

theorem releaseOne_bounds {s : State} (o : Order) (h : s.book.Bounds 0) : (s.releaseOne o).book.Bounds 0 := by
  rw [releaseOne_book]
  split
  · next hroom => exact h.join_room hroom o.number
  · next hfull =>
    have := h.room
    exact ⟨h.room, h.high, fun _ => by simp only [Book.setStage]; omega, h.call⟩

theorem releaseOne_naming {s : State} (o : Order) (h : s.book.Naming) : (s.releaseOne o).book.Naming := by
  rw [releaseOne_book]
  split
  · exact h.join o.number
  · exact h.setStage o.number .pending

theorem releaseAll_law (os : List Order) {s : State} (hnodup : (os.map (·.number)).Nodup) (hos : ∀ o ∈ os, s.book.Waits o.number)
    (h : s.book.Law) : (os.foldl State.releaseOne s).book.Law := by
  induction os generalizing s with
  | nil => exact h
  | cons o os ih =>
    obtain ⟨ho, hrest⟩ := List.nodup_cons.1 hnodup
    refine ih hrest (fun r hr => ?_) (releaseOne_law (hos o (by simp)) h)
    have hne : r.number ≠ o.number := fun he => ho (List.mem_map.2 ⟨r, hr, he⟩)
    rw [releaseOne_book]
    split <;> exact (hos r (by simp [hr])).setStage hne _

theorem kitchenRelease_keeps (i : ScreenId) (s : State) : s.book.Keeps (s.kitchenRelease i).book := by
  unfold State.kitchenRelease
  split
  · exact .refl _
  · dsimp only
    refine .trans ?_ (.of_eq (postCrossings_book _ _))
    refine .trans (.of_eq (b' := (s.modOrders fun u => { u with released := upd u.released i fun _ => true }).book) rfl) ?_
    have moved : ((s.orders.heldList i).filter fun o => !o.isPending).Sublist s.orders.table := List.filter_sublist.trans List.filter_sublist
    generalize hu : (s.modOrders fun u => { u with released := upd u.released i fun _ => true }) = u
    have hplaces : u.book.places = s.orders.table.map Order.place := hu ▸ rfl
    refine ⟨fun h => ?_, fun h => ?_, fun h => ?_⟩
    · exact foldl_keeps (P := fun s => s.book.Bounds 0) releaseOne_bounds _ h
    · refine releaseAll_law _ ?_ (fun o ho => ?_) h
      · have hn := h.numbers
        rw [hplaces, List.map_map] at hn
        exact hn.sublist (moved.map _)
      · have hheld : o.isHeld = true := by
          have := (List.mem_filter.1 (List.mem_filter.1 ho).1).2
          simp only [Bool.and_eq_true] at this
          exact this.1
        refine ⟨o.place, hplaces ▸ List.mem_map_of_mem (moved.subset ho), rfl, ?_⟩
        unfold Order.isHeld at hheld
        split at hheld
        · next p hp => cases p <;> simp [Order.place, hp, OrderState.stage]
        · cases hheld
    · exact foldl_keeps (P := fun s => s.book.Naming) releaseOne_naming _ h

end Sys2Proof.Machine

/-! Orders placed, taken and readied, tickets that leave, and every step of the part over the order book. -/

namespace Sys2Proof.Machine

/-! ### The number of a new order -/

theorem numberAfter_injOn (seq : Nat) {j k : Nat} (hj : j < 999) (hk : k < 999) (h : numberAfter seq j = numberAfter seq k) : j = k := by
  unfold numberAfter at h
  omega

/-- With fewer than 256 orders the number issued is that of no live order (R157). -/
theorem nextOrderNumber_fresh {s : State} (h : s.orders.table.length < 256) : ∀ o ∈ s.orders.table, o.number ≠ s.nextOrderNumber := by
  unfold State.nextOrderNumber
  cases hfind : ((List.range 999).map (numberAfter s.orders.seq)).find? fun n => (s.order? n).isNone && !s.numberPlaying n with
  | some n =>
    have hfree := List.find?_some hfind
    simp only [Bool.and_eq_true, Option.isNone_iff_eq_none] at hfree
    intro o ho he
    exact absurd (List.find?_eq_none.1 hfree.1 o ho) (by simpa using he)
  | none =>
    have playing (n : Nat) (hp : s.numberPlaying n = true) :
        n ∈ s.calls.toList.filterMap fun c => c.slot.bind fun p => match p.entry with | .orderCall m => some m | .announce _ => none := by
      obtain ⟨c, hc, hslot⟩ := List.any_eq_true.1 hp
      cases hs : c.slot with
      | none => simp [hs] at hslot
      | some p =>
        have hentry : p.entry = .orderCall n := by simpa [hs] using hslot
        exact List.mem_filterMap.2 ⟨c, hc, by simp [hs, hentry]⟩
    have taken : (List.range 999).map (numberAfter s.orders.seq) ⊆ s.orders.table.map (·.number) ++
        s.calls.toList.filterMap fun c => c.slot.bind fun p => match p.entry with | .orderCall m => some m | .announce _ => none := by
      intro n hn
      have hbusy := List.find?_eq_none.1 hfind n hn
      simp only [Bool.and_eq_true, Bool.not_eq_true', not_and, Bool.not_eq_false] at hbusy
      rw [List.mem_append]
      cases ho : s.order? n with
      | some o => exact .inl (List.mem_map.2 ⟨o, List.mem_of_find?_eq_some ho, by simpa using List.find?_some ho⟩)
      | none => exact .inr (playing n (hbusy (by simp [ho])))
    have distinct : ((List.range 999).map (numberAfter s.orders.seq)).Nodup :=
      (List.nodup_map_iff_inj_on List.nodup_range).2 fun j hj k hk =>
        numberAfter_injOn _ (List.mem_range.1 hj) (List.mem_range.1 hk)
    have hle := (List.Nodup.subperm distinct taken).length_le
    have hslots : (s.calls.toList.filterMap fun c => c.slot.bind fun p =>
        match p.entry with | .orderCall m => some m | .announce _ => none).length ≤ 4 :=
      Nat.le_trans (List.length_filterMap_le _ _) (by simp)
    simp only [List.length_map, List.length_range, List.length_append] at hle
    omega

/-! ### PLACE_ORDER -/

/-- A new order enters the book, at the tail of the kitchen queue when it is QUEUED. -/
def Book.enter (p : OrderPlace) (totals : OrderTotals) (queued : Bool) (b : Book) : Book :=
  { b with
    places := b.places ++ [p], totals, kitchen := if queued then b.kitchen ++ [p.number] else b.kitchen
    tickets := b.tickets.map fun t => if t.number = p.ticket then { t with openOrders := t.openOrders + 1 } else t }

theorem placeOrder_book (o : Order) (s : State) :
    (s.placeOrder o).book = s.book.enter o.place (s.orders.totals.countPlaced o.pickup) o.state.isQueued := by
  simp only [State.placeOrder]
  rw [postCrossings_book]
  have htickets : (s.tickets.map fun t => if t.number = o.ticket then { t with openOrders := t.openOrders + 1 } else t).map Ticket.place =
      s.book.tickets.map fun t => if t.number = o.ticket then { t with openOrders := t.openOrders + 1 } else t := by
    simp only [State.book, List.map_map]
    refine List.map_congr_left fun t _ => ?_
    simp only [Function.comp_apply]
    by_cases h : t.number = o.ticket
    · simp [Ticket.place, h]
    · simp [Ticket.place, h]
  simp only [State.book, Book.enter, State.modTicket, State.modTickets, State.modOrders, OrderUnit.place, htickets, List.map_append,
    List.map_cons, List.map_nil]
  rfl

theorem OrderTotals.law_countPlaced {t : OrderTotals} (h : t.law) (pickup : Pickup) : (t.countPlaced pickup).law := by
  obtain ⟨h1, h2, h3, h4, h5, h6, h7, h8⟩ := h
  have held (n : Nat) : inc16 n ≤ 65535 := Nat.min_le_left _ _
  cases pickup <;> simp only [OrderTotals.countPlaced, OrderTotals.law] <;> simp [*]

theorem Book.Law.enter {b : Book} (h : b.Law) {p : OrderPlace} {queued : Bool} {totals : OrderTotals} (hfresh : ∀ q ∈ b.places, q.number ≠ p.number)
    (hqueued : queued = true ↔ p.stage = .queued) (hready : p.stage ≠ .ready) (htotals : totals.law) : (b.enter p totals queued).Law := by
  have hk : p.number ∉ b.kitchen := fun hm => by
    obtain ⟨q, hq, hn, -⟩ := (h.kitchen _).1 hm
    exact hfresh q hq hn
  refine ⟨?_, ?_, h.shelved, fun n => ?_, fun n => ?_, fun i n hn => ?_, htotals⟩
  · simp only [Book.enter, List.map_append, List.map_cons, List.map_nil]
    refine List.nodup_append.2 ⟨h.numbers, by simp, fun a ha c hc => ?_⟩
    obtain ⟨q, hq, rfl⟩ := List.mem_map.1 ha
    rw [List.mem_singleton.1 hc]
    exact hfresh q hq
  · simp only [Book.enter]
    split
    · refine List.nodup_append.2 ⟨h.once, by simp, fun a ha c hc => ?_⟩
      rw [List.mem_singleton.1 hc]
      rintro rfl
      exact hk ha
    · exact h.once
  · have hold := h.kitchen n
    simp only [Book.enter, List.mem_append, List.mem_singleton, or_and_right, exists_or, exists_eq_left]
    cases queued with
    | true => simp [hold, hqueued.1 rfl, eq_comm]
    | false =>
      have hst : p.stage ≠ .queued := fun hst => by simpa using hqueued.2 hst
      simp [hold, hst]
  · have hold := h.shelf n
    simp only [Book.enter, List.mem_append, List.mem_singleton, or_and_right, exists_or, exists_eq_left, hold]
    simp [hready]
  · obtain ⟨q, hq, hqn⟩ := h.calls i n hn
    exact ⟨q, List.mem_append_left _ hq, hqn⟩

theorem Book.Naming.enter {b : Book} (h : b.Naming) {p : OrderPlace} {queued : Bool} {totals : OrderTotals}
    (hfresh : ∀ q ∈ b.places, q.number ≠ p.number) (hlength : b.places.length < 256)
    (hticket : ∃ t ∈ b.tickets, t.number = p.ticket ∧ t.screen = p.screen ∧ t.openOrders < 4) : (b.enter p totals queued).Naming where
  numbers := by
    simp only [Book.enter, List.map_append, List.map_cons, List.map_nil]
    refine List.nodup_append.2 ⟨h.numbers, by simp, fun a ha c hc => ?_⟩
    obtain ⟨q, hq, rfl⟩ := List.mem_map.1 ha
    rw [List.mem_singleton.1 hc]
    exact hfresh q hq
  length := by
    simp only [Book.enter, List.length_append, List.length_singleton]
    omega
  named := by
    have kept (q : OrderPlace) (hq : ∃ t ∈ b.tickets, t.number = q.ticket ∧ t.screen = q.screen) :
        ∃ t ∈ (b.enter p totals queued).tickets, t.number = q.ticket ∧ t.screen = q.screen := by
      obtain ⟨t, ht, hn, hs⟩ := hq
      refine ⟨_, List.mem_map_of_mem ht, ?_, ?_⟩ <;> split <;> assumption
    intro q hq
    rcases List.mem_append.1 hq with hq | hq
    · exact kept q (h.named q hq)
    · obtain ⟨t, ht, hn, hs, -⟩ := hticket
      rw [List.mem_singleton.1 hq]
      exact kept p ⟨t, ht, hn, hs⟩
  counted := by
    intro t ht
    obtain ⟨r, hr, rfl⟩ := List.mem_map.1 ht
    obtain ⟨hcount, hfour⟩ := h.counted r hr
    obtain ⟨t, ht, hn, -, hroom⟩ := hticket
    have hcount' := (h.counted t ht).1
    simp only [Book.enter, List.countP_append, List.countP_singleton]
    by_cases hrn : r.number = p.ticket
    · simp only [hrn, if_true, beq_self_eq_true] at hcount ⊢
      rw [hn] at hcount'
      omega
    · simp only [hrn, if_false]
      rw [if_neg (by simpa using Ne.symm hrn)]
      exact ⟨hcount, hfour⟩

/-- The table of R161 for BREAK. -/
theorem firstState_atBreak (i : ScreenId) (s : State) : s.firstState .atBreak i = .held false ∨
    (s.orders.fill < 48 ∧ s.firstState .atBreak i = .queued) ∨ (48 ≤ s.orders.fill ∧ s.firstState .atBreak i = .held true) := by
  simp only [State.firstState]
  by_cases hflag : s.orders.released[i] = true
  · by_cases hfill : s.orders.fill < 48
    · simp [-Fin.getElem_fin, hflag, hfill]
    · simp [-Fin.getElem_fin, hflag, hfill, Nat.le_of_not_lt hfill]
  · simp [-Fin.getElem_fin, hflag]

theorem firstState_stage (pickup : Pickup) (i : ScreenId) (s : State) : (s.firstState pickup i).stage ≠ .ready ∧
    ((s.firstState pickup i).isQueued = true ↔ (s.firstState pickup i).stage = .queued) := by
  cases pickup with
  | now => simp [State.firstState, OrderState.stage, OrderState.isQueued]
  | atBreak =>
    obtain h | ⟨-, h⟩ | ⟨-, h⟩ := firstState_atBreak i s <;> rw [h] <;> simp [OrderState.stage, OrderState.isQueued]

/-- The checks of R160 passed. -/
theorem placeCheck_passed {pickup : Pickup} {t : Ticket} {s : State} (h : s.placeCheck pickup t = none) :
    t.openOrders < 4 ∧ s.pickupCheck pickup t.screen = none ∧ s.orders.table.length < 256 := by
  simp only [State.placeCheck, Option.or_eq_none_iff] at h
  obtain ⟨hopen, hpickup, htable⟩ := h
  refine ⟨?_, hpickup, ?_⟩
  · by_contra hn
    simp [hn] at hopen
  · by_contra hn
    simp [hn] at htable

/-- A new order finds room in the kitchen queue when it is QUEUED, and is release pending only when there is none (R161). -/
theorem Book.Bounds.enter {s : State} (h : s.book.Bounds 0) {pickup : Pickup} {i : ScreenId} (hcheck : s.pickupCheck pickup i = none)
    {p : OrderPlace} (hp : p.stage = (s.firstState pickup i).stage) (totals : OrderTotals) :
    (s.book.enter p totals (s.firstState pickup i).isQueued).Bounds 0 := by
  have hroom := h.room
  have hhigh := h.high
  have hfull := h.full
  have hfill : s.orders.fill = s.book.kitchen.length := rfl
  have low : (s.firstState pickup i).isQueued = true → s.book.kitchen.length < 48 := by
    cases pickup with
    | now =>
      intro _
      have hnot : s.orders.isHigh = false := by
        simp only [State.pickupCheck] at hcheck
        by_contra hc
        simp [hc] at hcheck
      simp only [OrderUnit.isHigh, decide_eq_false_iff_not, hfill] at hnot
      change ¬s.book.high ≤ s.book.kitchen.length at hnot
      omega
    | atBreak =>
      obtain hst | ⟨hlt, -⟩ | ⟨-, hst⟩ := firstState_atBreak i s
      · simp [hst, OrderState.isQueued]
      · exact fun _ => hfill ▸ hlt
      · simp [hst, OrderState.isQueued]
  have pending : p.stage = .pending → s.book.kitchen.length = 48 ∧ (s.firstState pickup i).isQueued = false := by
    rw [hp]
    cases pickup with
    | now => simp [State.firstState, OrderState.stage]
    | atBreak =>
      obtain hst | ⟨-, hst⟩ | ⟨hle, hst⟩ := firstState_atBreak i s
      · simp [hst, OrderState.stage]
      · simp [hst, OrderState.stage]
      · rw [hfill] at hle
        exact fun _ => ⟨by omega, by rw [hst]; rfl⟩
  refine ⟨?_, hhigh, ?_, h.call⟩
  · simp only [Book.enter]
    split
    · next hq =>
      have := low hq
      simp only [List.length_append, List.length_singleton]
      omega
    · exact hroom
  · rintro ⟨q, hq, hqp⟩
    simp only [Book.enter]
    rcases List.mem_append.1 hq with hq | hq
    · have hf := hfull ⟨q, hq, hqp⟩
      rw [if_neg fun hqueued => ?_]
      · exact hf
      · have := low hqueued
        omega
    · rw [List.mem_singleton.1 hq] at hqp
      obtain ⟨hl, hn⟩ := pending hqp
      simpa [hn] using hl

theorem placeOrderBody_keeps (p : PortId) (a : PlaceOrderArgs) (s : State) : s.book.Keeps (s.placeOrderBody p a).1.book := by
  unfold State.placeOrderBody
  split
  · exact .refl _
  · next t ht =>
    split
    · exact .refl _
    · next hcheck =>
      obtain ⟨hopen, hpickup, hlength⟩ := placeCheck_passed hcheck
      obtain ⟨hready, hqueued⟩ := firstState_stage a.pickup t.screen s
      dsimp only
      rw [placeOrder_book]
      have fresh : ∀ q ∈ s.book.places, q.number ≠ s.nextOrderNumber := by
        intro q hq
        obtain ⟨o, ho, rfl⟩ := List.mem_map.1 hq
        exact nextOrderNumber_fresh hlength o ho
      generalize s.nextOrderNumber = number at fresh
      have length : s.book.places.length < 256 := by simpa only [State.book, List.length_map] using hlength
      have named : t.place ∈ s.book.tickets := List.mem_map_of_mem (List.mem_of_find?_eq_some ht)
      exact ⟨fun h => h.enter hpickup rfl _, fun h => h.enter fresh hqueued hready (OrderTotals.law_countPlaced h.totals _),
        fun h => h.enter fresh length ⟨t.place, named, rfl, rfl, hopen⟩⟩

/-! ### TAKE_ORDER and MARK_READY -/

theorem takeOrderBody_keeps (b : List Byte) (s : State) : s.book.Keeps (s.takeOrderBody b).1.book := by
  unfold State.takeOrderBody
  split
  · exact .refl _
  · next n rest hk =>
    split
    · next o ho =>
      obtain ⟨hmem, rfl⟩ := place_of_order ho
      simp only [State.takeOrder]
      rw [postCrossings_book]
      have hkitchen : s.book.kitchen = o.number :: rest := hk
      generalize hu : ((s.modOrders fun u => { u with kitchen := u.kitchen.tail }).modOrder o.number fun o => { o with state := .cooking }) = u
      have taken : u.book = { s.book.setStage o.number .cooking with kitchen := rest } := by
        rw [← hu, book_setStage]
        simp only [State.book, State.modOrders, Book.setStage, hk, List.tail_cons]
        rfl
      refine ⟨fun h => Book.Bounds.serviceStep (k := 0) ?_, fun h => Book.Law.serviceStep ?_, fun h => Book.Naming.serviceStep ?_⟩
      · have hroom := h.room
        have hfull := h.full
        rw [hkitchen, List.length_cons] at hroom hfull
        rw [taken]
        refine ⟨?_, h.high, ?_, h.call⟩
        · dsimp only
          omega
        · rintro ⟨p, hp, hpend⟩
          obtain ⟨q, hq, rfl⟩ := Book.mem_setStage.1 hp
          have := hfull ⟨q, hq, by split at hpend <;> [cases hpend; exact hpend]⟩
          dsimp only
          omega
      · obtain ⟨p, hp, hn, hst⟩ := (h.kitchen o.number).1 (by simp [hkitchen])
        have hone := h.once
        rw [hkitchen, List.nodup_cons] at hone
        have hs := h.not_mem_shelf hp (by simp [hst])
        rw [taken, ← hn]
        rw [hn] at hs
        refine h.restage (shelf := s.book.shelf) hp (by simp [hst]) hone.2 h.shelved (fun m => ?_) fun m => ?_
        · rw [hn, hkitchen, List.mem_cons]
          split
          · next hm => exact hm ▸ iff_of_false hone.1 (by simp)
          · next hm => simp [hm]
        · rw [hn]
          split
          · next hm => exact hm ▸ iff_of_false hs (by simp)
          · rfl
      · rw [taken]
        exact (h.setStage o.number .cooking).of_queues rfl rfl
    · exact .refl _

theorem markReadyBody_keeps (n : Nat) (s : State) : s.book.Keeps (s.markReadyBody n).1.book := by
  unfold State.markReadyBody
  split
  · exact .refl _
  · next o ho =>
    split
    · next hcooking =>
      obtain ⟨hmem, -⟩ := place_of_order ho
      have hst : o.place.stage = .cooking := by
        unfold Order.isCooking at hcooking
        split at hcooking
        · next h => simp [Order.place, h, OrderState.stage]
        · cases hcooking
      dsimp only [State.makeReady]
      refine .trans ?_ (startAll_calls _).keeps
      generalize hu : ((s.modOrder o.number fun r => { r with state := .ready s.nightClock }).modOrders fun u =>
        { u with shelf := u.shelf ++ [o.number] }) = u
      have shelved : u.book = { s.book.setStage o.number .ready with shelf := s.book.shelf ++ [o.number] } := by
        rw [← hu, show Stage.ready = (OrderState.ready s.nightClock).stage from rfl, ← book_setStage]
        rfl
      have placed : u.book.Keeps (u.enqueueCall o.screen o.number).book := by
        refine (enqueueCall_calls ⟨{ o.place with stage := .ready }, ?_, rfl, rfl, .inr rfl⟩).keeps
        rw [shelved]
        exact Book.mem_setStage.2 ⟨o.place, hmem, by simp [Order.place]⟩
      refine .trans ?_ placed
      rw [shelved]
      refine ⟨fun h => ⟨h.room, h.high, ?_, h.call⟩, fun h => ?_, fun h => (h.setStage o.number .ready).of_queues rfl rfl⟩
      · rintro ⟨p, hp, hpend⟩
        obtain ⟨q, hq, rfl⟩ := Book.mem_setStage.1 hp
        exact h.full ⟨q, hq, by split at hpend <;> [cases hpend; exact hpend]⟩
      · have hk := h.not_mem_kitchen hmem (by simp [hst])
        have hs := h.not_mem_shelf hmem (by simp [hst])
        refine h.restage (kitchen := s.book.kitchen) hmem (by simp [hst]) h.once
          (List.nodup_append.2 ⟨h.shelved, by simp, fun a ha c hc => ?_⟩) (fun m => ?_) fun m => ?_
        · rw [List.mem_singleton.1 hc]
          rintro rfl
          exact hs ha
        · split
          · next hm => exact hm ▸ iff_of_false hk (by simp)
          · rfl
        · split
          · next hm => simp [hm, Order.place]
          · next hm => simpa [Order.place] using fun h => absurd h hm
    · exact .refl _

theorem collectOrderBody_keeps (n : Nat) (s : State) : s.book.Keeps (s.collectOrderBody n).1.book := by
  unfold State.collectOrderBody
  split
  · exact .refl _
  · next o ho =>
    split
    · dsimp only
      exact (removeOrders_one_keeps .collected ho).trans (startAll_calls _).keeps
    · exact .refl _

theorem cancelOrderBody_keeps (n : Nat) (s : State) : s.book.Keeps (s.cancelOrderBody n).1.book := by
  unfold State.cancelOrderBody
  split
  · exact .refl _
  · next o ho =>
    dsimp only
    exact (removeOrders_one_keeps .request ho).trans (startAll_calls _).keeps

/-! ### Shows -/

/-- A handling that keeps the laws, after a change that the book does not see. -/
theorem keeps_after {s u : State} {b : Book} (h : u.book.Keeps b) (hu : u.book = s.book) : s.book.Keeps b := hu ▸ h

theorem endShow_keeps (i : ScreenId) (s : State) : s.book.Keeps (s.endShow i).book := by
  unfold State.endShow State.cancelHeld
  rw [post_book]
  refine .trans (.of_eq (b' := (((s.modShow i (Show.leave .ended)).closeIntake i).setMode i .muted).book) rfl) ?_
  exact removeOrders_keeps .showEnded (.of_sublist (List.filter_sublist.trans List.filter_sublist))

theorem endShowBody_keeps (i : ScreenId) (s : State) : s.book.Keeps (s.endShowBody i).1.book := by
  unfold State.endShowBody
  split
  · dsimp only
    exact (endShow_keeps i s).trans (startAll_calls _).keeps
  · exact .refl _

theorem modCues_book (i : ScreenId) (f : CueUnit → CueUnit) (s : State) : (s.modCues i f).book = s.book := rfl

theorem runAction_keeps (i : ScreenId) (a : CueAction) (s : State) : s.book.Keeps (s.runAction i a).book := by
  unfold State.runAction
  cases a with
  | test src m f => cases f <;> exact .refl _
  | hold => dsimp only; split <;> exact .refl _
  | endShow =>
    dsimp only
    split
    · exact endShow_keeps i s
    · exact .refl _
  | kitchenRelease => exact kitchenRelease_keeps i s
  | callsOpen => exact (openCalls_calls i s).keeps
  | callsClose | ordersOpen | ordersClose => exact .of_eq (book_modCalls_queue rfl)
  | entryOpen | entryClose | mark | lamp => exact .refl _

theorem passOver_keeps (n : Nat) (i : ScreenId) (p : Pos) (s : State) : s.book.Keeps (State.passOver n i p s).book := by
  induction n generalizing s with
  | zero => exact .refl _
  | succ n ih =>
    unfold State.passOver
    split
    · split
      · exact keeps_after (ih _) rfl
      · exact .refl _
    · exact .refl _

theorem passFor_keeps (n : Nat) (i : ScreenId) (p : Pos) (s : State) : s.book.Keeps (State.passFor n i p s).book := by
  induction n generalizing s with
  | zero => exact .refl _
  | succ n ih =>
    unfold State.passFor
    dsimp only
    split
    · exact .refl _
    · next c _ =>
      have acted (k : Nat) : s.book.Keeps (((s.passCursor i).runAction i c.action).setOutcome i k .executed).book :=
        (runAction_keeps i c.action (s.passCursor i)).trans (.of_eq rfl)
      split
      · split
        · split
          · exact (acted _).trans (passOver_keeps n i p _)
          · exact (acted _).trans (ih _)
        · exact keeps_after (ih _) rfl
      · exact .refl _

theorem advanceClock_keeps (i : ScreenId) (s : State) : s.book.Keeps (s.advanceClock i).book := by
  unfold State.advanceClock
  split
  · unfold State.clockLimit
    split <;> exact .refl _
  · exact keeps_after (passFor_keeps _ i _ _) rfl

theorem acceptedPulse_keeps (i : ScreenId) (s : State) : s.book.Keeps (s.acceptedPulse i).book := by
  simp only [State.acceptedPulse]
  split
  · exact .refl _
  · exact .refl _
  · split
    · exact keeps_after (passFor_keeps _ i _ _) rfl
    · exact .refl _
  · exact keeps_after (advanceClock_keeps i _) rfl
  · split <;> exact keeps_after (advanceClock_keeps i _) rfl
  · exact keeps_after (advanceClock_keeps i _) rfl

theorem framePulse_keeps (i : ScreenId) (us : Nat) (s : State) : s.book.Keeps (s.framePulse i us).book := by
  simp only [State.framePulse]
  split
  · exact .refl _
  · exact keeps_after (acceptedPulse_keeps i _) rfl

/-! ### Tickets that leave, and passages -/

/-- A book without a ticket. -/
def Book.dropTicket (n : Nat) (b : Book) : Book := { b with tickets := b.tickets.filter fun t => t.number != n }

theorem dropTicket_book (t : Ticket) (s : State) : (s.dropTicket t).book = s.book.dropTicket t.number := by
  have htickets : (s.tickets.filter fun r => r.number != t.number).map Ticket.place = s.book.tickets.filter fun r => r.number != t.number := by
    simp only [State.book, List.filter_map]
    rfl
  have dropped : (s.modTickets (·.filter fun r => r.number != t.number)).book = s.book.dropTicket t.number := by
    unfold Book.dropTicket
    rw [← htickets]
    rfl
  simp only [State.dropTicket]
  split <;> exact dropped

/-- A ticket that no order names may leave the book. -/
theorem Book.Naming.dropTicket {b : Book} (h : b.Naming) {n : Nat} (hn : ∀ p ∈ b.places, p.ticket ≠ n) : (b.dropTicket n).Naming where
  numbers := h.numbers
  length := h.length
  named := by
    intro p hp
    obtain ⟨t, ht, hnum, hs⟩ := h.named p hp
    exact ⟨t, List.mem_filter.2 ⟨ht, by simpa [hnum] using hn p hp⟩, hnum, hs⟩
  counted := fun t ht => h.counted t (List.mem_of_mem_filter ht)

theorem serviceSteps_names (k : Nat) (s : State) :
    (State.serviceSteps k s).book.places.map (fun p => (p.number, p.ticket)) = s.book.places.map fun p => (p.number, p.ticket) := by
  induction k generalizing s with
  | zero => rfl
  | succ k ih =>
    refine (ih _).trans ?_
    rcases serviceStep_cases s with ⟨he, -⟩ | ⟨o, -, -, he⟩ <;> rw [he]
    exact Book.setStage_map (fun p => (p.number, p.ticket)) (fun _ _ => rfl) _ _ _

theorem removeAll_names (out : OrderOutcome) (os : List Order) (s : State) :
    ∀ p ∈ (os.foldl (State.removeOne out) s).book.places, p ∈ s.book.places ∧ ∀ o ∈ os, p.number ≠ o.number := by
  induction os generalizing s with
  | nil => exact fun p hp => ⟨hp, by simp⟩
  | cons o os ih =>
    intro p hp
    obtain ⟨hmem, hrest⟩ := ih _ p hp
    rw [removeOne_book] at hmem
    obtain ⟨hs, hne⟩ := List.mem_filter.1 hmem
    exact ⟨hs, List.forall_mem_cons.2 ⟨bne_iff_ne.1 hne, hrest⟩⟩

/-- What a removal leaves are orders that were there and were not to be removed. -/
theorem removeOrders_names (out : OrderOutcome) (os : List Order) (s : State) :
    ∀ p ∈ (s.removeOrders out os).book.places, ∃ q ∈ s.book.places, q.ticket = p.ticket ∧ ∀ o ∈ os, q.number ≠ o.number := by
  intro p hp
  rw [(removeOrders_served out os s).same] at hp
  have hnames := List.mem_map_of_mem (f := fun p : OrderPlace => (p.number, p.ticket)) hp
  rw [serviceSteps_names] at hnames
  obtain ⟨q, hq, hqp⟩ := List.mem_map.1 hnames
  obtain ⟨hmem, hne⟩ := removeAll_names out os s q hq
  exact ⟨q, hmem, congrArg Prod.snd hqp, hne⟩

theorem removeOrdersOf_names (out : OrderOutcome) (n : Nat) (s : State) :
    ∀ p ∈ (s.removeOrders out (s.ordersOf n)).book.places, p.ticket ≠ n := by
  intro p hp hn
  obtain ⟨q, hq, hqt, hne⟩ := removeOrders_names out _ s p hp
  obtain ⟨o, ho, rfl⟩ := List.mem_map.1 hq
  exact hne o (List.mem_filter.2 ⟨ho, beq_iff_eq.2 (hqt.trans hn)⟩) rfl

/-- The orders of a ticket removed, and then the ticket. -/
theorem ticketGone_keeps (out : OrderOutcome) (t : Ticket) (s : State) :
    s.book.Keeps ((s.removeOrders out (s.ordersOf t.number)).dropTicket t).book := by
  have removed : s.book.Keeps (s.removeOrders out (s.ordersOf t.number)).book := removeOrders_keeps out (.of_sublist List.filter_sublist)
  refine removed.trans ?_
  rw [dropTicket_book]
  exact ⟨fun h => ⟨h.room, h.high, h.full, h.call⟩, fun h => ⟨h.numbers, h.once, h.shelved, h.kitchen, h.shelf, h.calls, h.totals⟩,
    fun h => h.dropTicket (removeOrdersOf_names out t.number s)⟩

theorem ticket_number {s : State} {n : Nat} {t : Ticket} (h : s.ticket? n = some t) : t ∈ s.tickets ∧ t.number = n :=
  ⟨List.mem_of_find?_eq_some h, by simpa using List.find?_some h⟩

theorem void_keeps (n : Nat) (s : State) : s.book.Keeps (s.void n).book := by
  unfold State.void
  split
  · exact .refl _
  · next t ht =>
    obtain ⟨-, rfl⟩ := ticket_number ht
    exact ticketGone_keeps .voided t s

theorem departBody_keeps (n : Nat) (s : State) : s.book.Keeps (s.departBody n).1.book := by
  unfold State.departBody
  split
  · exact .refl _
  · next t _ =>
    split
    · exact .refl _
    · dsimp only
      refine .trans ?_ (startAll_calls _).keeps
      exact ticketGone_keeps .departed t s

theorem cancelAdmitBody_keeps (n : Nat) (s : State) : s.book.Keeps (s.cancelAdmitBody n).1.book := by
  unfold State.cancelAdmitBody
  split
  · exact .refl _
  · split
    · exact .refl _
    · split
      · dsimp only
        refine .trans ?_ (startAll_calls _).keeps
        exact void_keeps n s
      · exact .refl _

theorem commit_book (n : Nat) (cls : VehicleClass) (s : State) : (s.commit n cls).book = s.book := by
  unfold State.commit
  split
  · rfl
  · exact book_modTicket (f := fun t => { t with state := .present cls s.nightClock }) (fun _ => rfl) n s

theorem commitAdmission_book (n : LaneId) (cls : VehicleClass) (s : State) : (s.commitAdmission n cls).book = s.book := by
  unfold State.commitAdmission
  split
  · rfl
  · exact commit_book _ cls s

theorem laneResetBody_keeps (a : LaneName) (s : State) : s.book.Keeps (s.laneResetBody a).1.book := by
  cases a with
  | entry n =>
    simp only [State.laneResetBody, State.resetEntry]
    refine .trans ?_ (startAll_calls _).keeps
    split
    · exact void_keeps _ s
    · exact .of_eq (commitAdmission_book n .unmeasured s)
    · exact .refl _
  | exit n => exact .refl _

theorem passWindowExpiry_keeps (n : LaneId) (s : State) : s.book.Keeps (s.passWindowExpiry n).book := by
  simp only [State.passWindowExpiry]
  split
  · rw [post_book]
    split
    · exact void_keeps _ s
    · exact .refl _
  · exact .refl _

theorem tailgateReport_book (n : Nat) (s : State) : (s.tailgateReport n).book = s.book :=
  book_modTicket (f := fun t => { t with tailgate := true }) (fun _ => rfl) n s

theorem entryRise_book (n : LaneId) (s : State) : (s.entryRise n).book = s.book := by
  simp only [State.entryRise]
  split
  · rfl
  · split
    · rfl
    · split
      · exact tailgateReport_book _ _
      · rfl
    all_goals rfl

theorem endPassage_book (n : LaneId) (s : State) : (s.endPassage n).book = s.book := by
  simp only [State.endPassage]
  split <;> exact commitAdmission_book n _ s

theorem entryFall_book (n : LaneId) (us : Nat) (s : State) : (s.entryFall n us).book = s.book := by
  simp only [State.entryFall]
  split
  · rfl
  · split
    · split
      · exact endPassage_book n _
      · rfl
    all_goals rfl

theorem entryStuckExpiry_book (n : LaneId) (s : State) : (s.entryStuckExpiry n).book = s.book := by
  simp only [State.entryStuckExpiry]
  split
  · rw [post_book]
    split
    · exact commitAdmission_book n .unmeasured s
    · rfl
  · rfl

/-! ### The end of the night, and the settings -/

theorem OrderTotals.law_zero : OrderTotals.zero.law := by simp [OrderTotals.law, OrderTotals.zero]

/-- A book with nothing in it keeps the laws. -/
theorem Book.Keeps.of_empty {b b' : Book} (hp : b'.places = []) (hk : b'.kitchen = []) (hs : b'.shelf = []) (ht : b'.tickets = [])
    (hq : ∀ i, b'.queue i = []) (htotals : b'.totals = .zero) (hhigh : b.high ≤ 48 → b'.high ≤ 48) : b.Keeps b' where
  bounds := fun h => ⟨by simp [hk], hhigh h.high, by simp [hp], by simp [hq]⟩
  law := fun _ => ⟨by simp [hp], by simp [hk], by simp [hs], by simp [hp, hk], by simp [hp, hs], by simp [hq], htotals ▸ OrderTotals.law_zero⟩
  naming := fun _ => ⟨by simp [hp], by simp [hp], by simp [hp], by simp [ht]⟩

theorem closeNightBody_keeps (b : List Byte) (s : State) : s.book.Keeps (s.closeNightBody b).1.book := by
  unfold State.closeNightBody
  split
  · exact .of_empty rfl rfl rfl rfl (fun i => by simp [State.book, State.closeNight]) rfl id
  · exact .refl _

/-- New kitchen settings, their high level at most 48. -/
theorem setKitchenBody_keeps {t : KitchenSettings} (h : t.high ≤ 48) (s : State) : s.book.Keeps (s.setKitchenBody t).1.book :=
  ⟨fun hb => ⟨hb.room, h, hb.full, hb.call⟩, fun hb => ⟨hb.numbers, hb.once, hb.shelved, hb.kitchen, hb.shelf, hb.calls, hb.totals⟩,
    fun hb => ⟨hb.numbers, hb.length, hb.named, hb.counted⟩⟩

theorem modAlign_book (i : ScreenId) (f : Align → Align) (s : State) : (s.modAlign i f).book = s.book := rfl

theorem armShowBody_book (i : ScreenId) (s : State) : (s.armShowBody i).1.book = s.book := by
  unfold State.armShowBody
  split
  · simp only [State.armShow, State.openIntake]
    rw [modAlign_book, modAlign_book]
    rfl
  · rfl

theorem deviceReset_keeps (e : Vector Bool 4) (x : Vector Bool 2) (s : State) : s.book.Keeps (s.deviceReset e x).book :=
  .of_empty rfl rfl rfl rfl (fun i => by simp [State.book, State.deviceReset, State.reset, CallUnit.reset]) rfl fun _ => by
    simp [State.book, State.deviceReset, State.reset, OrderUnit.reset]

theorem endReset_keeps (e : ResetEnd) (s : State) : s.book.Keeps (s.endReset e).book := by
  have first (i : ScreenId) (u : State) : u.book.Keeps (u.firstCycle e i).book := by
    unfold State.firstCycle
    exact keeps_after (cycle_calls i _).keeps (modLink_book i _ u)
  simp only [State.endReset]
  refine .trans ?_ (first 3 _)
  refine .trans ?_ (first 2 _)
  refine .trans ?_ (first 1 _)
  exact keeps_after (first 0 _) rfl

theorem answer_book (p : PortId) (code tag : Byte) (r : Reply) (s : State) : (s.answer p code tag r).book = s.book :=
  book_of_onlyIn (answer_onlyIn (ps := [.ports]) p code tag r s (by simp)) (by simp) (by simp) (by simp)

theorem rescanDone_keeps (header : List Byte) (s : State) : s.book.Keeps (s.rescanDone header).book := by
  unfold State.rescanDone
  split
  · exact .refl _
  · dsimp only
    refine .trans (.of_eq ?_) (startAll_calls _).keeps
    exact answer_book _ _ _ _ _

theorem startupDone_keeps (header : List Byte) (s : State) : s.book.Keeps (s.startupDone header).book :=
  keeps_after (startAll_calls _).keeps rfl

/-! ### Every step -/

theorem ranged_keeps {α : Type} {args : List Byte → Option α} {body : α → State → State × Reply} {payload : List Byte}
    (hbody : ∀ a, args payload = some a → ∀ u : State, u.book.Keeps (body a u).1.book) (u : State) :
    u.book.Keeps (ranged args body payload u).1.book := by
  unfold ranged
  split
  · exact .refl _
  · next a ha => exact hbody a ha u

theorem Service.run_keeps {v : Service} {s t : State} (hbody : ∀ u : State, u.book.Keeps (v.body v.payload u).1.book)
    (h : v.run s = .next t) : s.book.Keeps t.book := by
  obtain e | ⟨q, e⟩ | ⟨q, st, e⟩ | ⟨q, e⟩ := serve_cases v.port v.code v.tag v.payload v.may v.lengthOk v.body s <;> cases e.symm.trans h
  · exact .refl _
  · exact .refl _
  · exact .of_eq (answer_book v.port v.code v.tag _ _)
  · refine .trans ?_ (.of_eq (answer_book v.port v.code v.tag _ _))
    exact keeps_after (hbody _) rfl

theorem within_eq_some {lo hi v w : Nat} (h : within lo hi v = some w) : w = v ∧ lo ≤ v ∧ v ≤ hi := by
  unfold within at h
  split at h
  · next hr =>
    cases h
    exact ⟨rfl, hr⟩
  · cases h

theorem setKitchenArgs_high {payload : List Byte} {t : KitchenSettings} (h : setKitchenArgs payload = some t) : t.high ≤ 48 := by
  unfold setKitchenArgs at h
  split at h
  · simp only [Option.bind_eq_bind, Option.bind_eq_some_iff] at h
    obtain ⟨high, hhigh, _, _, _, _, _, _, _, _, ht⟩ := h
    cases ht
    obtain ⟨rfl, -, hle⟩ := within_eq_some hhigh
    exact hle
  · cases h

/-- The parts that the book reads. -/
def bookParts : List Part := [.orders, .calls, .tickets]

theorem book_of_parts {ps : List Part} {s t : State} (h : OnlyIn ps s t) (hps : ∀ q ∈ bookParts, q ∉ ps) : t.book = s.book :=
  book_of_onlyIn h (hps _ (by simp [bookParts])) (hps _ (by simp [bookParts])) (hps _ (by simp [bookParts]))

/-- The handling of every request but ADMIT keeps the laws of the book. -/
theorem service_keeps {c : Instr} {v : Service} (hv : service? c = some v) (hadmit : ∀ p tag b, c ≠ .admitCar p tag b) (u : State) :
    u.book.Keeps (v.body v.payload u).1.book := by
  have kept (hps : ∀ q ∈ bookParts, q ∉ Part.ports :: requestParts c) : u.book.Keeps (v.body v.payload u).1.book :=
    .of_eq (book_of_parts (service_onlyIn hv u) hps)
  cases c <;> cases hv
  case admitCar p tag b => exact absurd rfl (hadmit p tag b)
  case depart => exact ranged_keeps (fun a _ => departBody_keeps a) u
  case closeNight => exact closeNightBody_keeps [] u
  case cancelAdmit => exact ranged_keeps (fun a _ => cancelAdmitBody_keeps a) u
  case laneReset => exact ranged_keeps (fun a _ => laneResetBody_keeps a) u
  case armShow => exact ranged_keeps (fun i _ u => .of_eq (armShowBody_book i u)) u
  case endShow => exact ranged_keeps (fun i _ => endShowBody_keeps i) u
  case screenReset => exact ranged_keeps (fun i _ u => (screenReset_calls i u).keeps) u
  case announce => exact ranged_keeps (fun a _ u => (announceBody_calls a u).keeps) u
  case callsOpen => exact ranged_keeps (fun i _ u => (openCalls_calls i u).keeps) u
  case setCalls =>
    refine ranged_keeps (fun a _ u => .of_eq (book_modCalls_queue ?_)) u
    unfold CallUnit.setMix
    split <;> rfl
  case callsClose => exact ranged_keeps (fun i _ u => .of_eq (book_modCalls_queue rfl)) u
  case ordersOpen => exact ranged_keeps (fun i _ u => .of_eq (book_modCalls_queue rfl)) u
  case ordersClose => exact ranged_keeps (fun i _ u => .of_eq (book_modCalls_queue rfl)) u
  case setExciter => exact ranged_keeps (fun a _ u => (setExciter_calls _ a.1 a.2 u).keeps) u
  case setKitchen => exact ranged_keeps (fun t ht => setKitchenBody_keeps (setKitchenArgs_high ht)) u
  case takeOrder => exact takeOrderBody_keeps [] u
  case markReady => exact ranged_keeps (fun n _ => markReadyBody_keeps n) u
  case collectOrder => exact ranged_keeps (fun n _ => collectOrderBody_keeps n) u
  case cancelOrder => exact ranged_keeps (fun n _ => cancelOrderBody_keeps n) u
  case placeOrder => exact ranged_keeps (fun a _ => placeOrderBody_keeps _ a) u
  all_goals exact kept (by simp [bookParts, requestParts])

theorem next_keeps {s t u : State} (h : (.next u : Host.Outcome State Fault Refusal) = .next t) (hu : s.book.Keeps u.book) :
    s.book.Keeps t.book := by
  cases h
  exact hu

/-- Every event keeps the laws of the book. -/
theorem event_keeps {c : Instr} (hc : service? c = none) {s t : State} (h : exec c s = .next t) : s.book.Keeps t.book := by
  have kept (hps : ∀ q ∈ bookParts, q ∉ eventParts c) : s.book.Keeps t.book := .of_eq (book_of_parts (event_onlyIn hc h) hps)
  have chosen {P : Prop} [Decidable P] {a b : State} (ha : s.book.Keeps a.book) (hb : s.book.Keeps b.book) :
      s.book.Keeps (if P then a else b).book := by
    split
    · exact ha
    · exact hb
  cases c <;> first | exact absurd hc (Option.some_ne_none _) | skip
  case deviceReset e x => exact next_keeps h (deviceReset_keeps e x s)
  case startupDirectoryReadDone header => exact next_keeps h (chosen (startupDone_keeps header s) (.refl _))
  case clipRescanDone header => exact next_keeps h (rescanDone_keeps header s)
  case nightClockAdvance => exact next_keeps h (advanceNight_keeps s)
  case entryLoopRise n => exact next_keeps h (.of_eq (entryRise_book n s))
  case entryLoopFall n us => exact next_keeps h (.of_eq (entryFall_book n us s))
  case passWindowExpiry n => exact next_keeps h ((passWindowExpiry_keeps n s).trans (startAll_calls _).keeps)
  case entryStuckLimitExpiry n => exact next_keeps h (.of_eq (entryStuckExpiry_book n s))
  case framePulse i us => exact next_keeps h ((framePulse_keeps i us s).trans (startAll_calls _).keeps)
  case outputInstant i us => exact next_keeps h (chosen (.refl _) (outputInstant_calls i us s).keeps)
  case clipReadComplete bytes => exact next_keeps h (.of_eq (readComplete_book bytes s))
  case exciterAck m number flags =>
    refine next_keeps h ?_
    split
    · exact chosen (keeps_after (takeAck_calls _ _ _ _).keeps (modLink_book _ _ _)) (.refl _)
    · exact .refl _
  case exciterStatus m number flags =>
    refine next_keeps h ?_
    split
    · exact chosen (keeps_after (takeStatusMessage_calls _ _ _ _).keeps (modLink_book _ _ _)) (.refl _)
    · exact .refl _
  case ackTimerExpiry i heard => exact next_keeps h (chosen (keeps_after (ackExpiry_calls i _).keeps (modLink_book _ _ _)) (.refl _))
  case refreshTimerExpiry i heard => exact next_keeps h (chosen (keeps_after (cycle_calls i _).keeps (modLink_book _ _ _)) (.refl _))
  case endOfDeviceReset e => exact next_keeps h (chosen (endReset_keeps e s) (.refl _))
  all_goals exact kept (by simp [bookParts, eventParts])

/-- Every command but ADMIT keeps the laws of the book. -/
theorem exec_keeps {c : Instr} (hadmit : ∀ p tag b, c ≠ .admitCar p tag b) {s t : State} (h : exec c s = .next t) : s.book.Keeps t.book := by
  cases hv : service? c with
  | none => exact event_keeps hv h
  | some v =>
    rw [exec_of_service hv] at h
    exact Service.run_keeps (service_keeps hv hadmit) h

theorem tick_book (s : State) : s.tick.book = s.book := rfl

/-- Every step whose command is not ADMIT keeps the laws of the book. -/
theorem step_keeps {s t : State} (hadmit : ∀ p tag b, s.pending.head? ≠ some (.admitCar p tag b)) (h : step s = .next t) :
    s.book.Keeps t.book := by
  unfold step at h
  split at h
  · cases h
    exact .of_eq (tick_book s)
  · next c rest hs =>
    refine keeps_after (exec_keeps (fun p tag b hc => hadmit p tag b ?_) h) rfl
    rw [hs, hc]
    rfl

/-- An accepted ADMIT leaves the orders and the queues. -/
theorem admit_book {p : PortId} {tag : Byte} {b : List Byte} {s t : State} (h : exec (.admitCar p tag b) s = .next t) :
    t.orders = s.orders ∧ t.calls = s.calls :=
  ⟨exec_onlyIn h .orders (by simp [touchedParts, service?, requestParts]), exec_onlyIn h .calls (by simp [touchedParts, service?, requestParts])⟩

/-- Every step keeps the bounds of the queues and the laws of the order book. -/
theorem step_queueLaws_bookLaws {s t : State} (h : step s = .next t) :
    (s.queueLaws → t.queueLaws) ∧ (s.bookLaws → t.bookLaws) := by
  by_cases hadmit : ∀ p tag b, s.pending.head? ≠ some (.admitCar p tag b)
  · have hk := step_keeps hadmit h
    rw [queueLaws_iff, queueLaws_iff, bookLaws_iff, bookLaws_iff]
    exact ⟨hk.bounds, hk.law⟩
  · simp only [ne_eq, not_forall, not_not] at hadmit
    obtain ⟨p, tag, b, hp⟩ := hadmit
    unfold step at h
    split at h
    · next hs => simp [hs] at hp
    · next c rest hs =>
      obtain rfl : c = .admitCar p tag b := by simpa [hs] using hp
      obtain ⟨ho, hc⟩ := admit_book h
      simp only [State.queueLaws, State.bookLaws, ho, hc]
      exact ⟨id, id⟩

/-- Settles O58: the rings, cue lists and cursors by the moves of the screens, the queues and the order book by the handlings that keep them. -/
theorem storeLawsAreKept : Obligations.StoreLawsAreKept := by
  unfold Obligations.StoreLawsAreKept
  intro s t h
  obtain ⟨hqueue, hbook⟩ := step_queueLaws_bookLaws h
  exact ⟨step_keeps_of_move (P := fun g => g.intake.ringLaw) (fun _ _ _ => Screen.Move.ringLaw) h,
    step_keeps_of_move (P := fun g => Machine.cueLaw g.show' g.cues) (fun _ _ _ => Screen.Move.cueLaw) h,
    fun _ hcue hcursor => step_cursorLaw h fun i => ⟨hcue i, hcursor i⟩, hqueue, hbook⟩

end Sys2Proof.Machine

/-! The register of the gate (tickets, the number sequence, the lanes' admissions, the zones, the pass maps), and its laws over every step. -/

namespace Sys2Proof.Machine

/-! ### The register and its laws -/

/-- What the laws of the gate read of a ticket. -/
structure Slot where
  number  : Nat
  screen  : ScreenId
  lane    : LaneId
  pending : Bool
  long    : Bool
  pass    : Option Nat

def Ticket.slot (t : Ticket) : Slot :=
  { number := t.number, screen := t.screen, lane := t.lane, pending := t.isPending, long := t.isLong, pass := t.pass? }

/-- What the laws of the gate read of a zone. -/
structure ZoneCounts where
  capacity : Nat
  pending  : Nat
  present  : Nat
  long     : Nat

def Zone.counts (z : Zone) : ZoneCounts := { capacity := z.capacity, pending := z.pending, present := z.present, long := z.long }

/-- The parts of the state that the laws of the gate read. -/
structure Register where
  slots     : List Slot
  next      : Option Nat
  admission : LaneId → Option Nat
  zones     : ScreenId → ZoneCounts
  permits   : PassMap
  used      : PassMap

def State.register (s : State) : Register where
  slots := s.tickets.map Ticket.slot
  next := s.nextTicket
  admission n := (s.entry[n]).admission
  zones i := (s.zones[i]).counts
  permits := s.permits
  used := s.used

/-- R5: the counts of a zone are those of its tickets, and its places do not exceed its capacity. -/
structure ZoneCounts.Law (ts : List Slot) (i : ScreenId) (z : ZoneCounts) : Prop where
  pending : z.pending = ts.countP fun t => t.screen == i && t.pending
  present : z.present = ts.countP fun t => t.screen == i && !t.pending
  long    : z.long = ts.countP fun t => t.screen == i && t.long
  room    : z.pending + z.present ≤ z.capacity

/-- The laws of R1, R2 and R5. -/
structure Register.Law (r : Register) : Prop where
  numbers  : (r.slots.map (·.number)).Nodup
  passed   : ∀ n, r.next = some n → ∀ t ∈ r.slots, t.number < n
  admitted : ∀ n k, r.admission n = some k → ∃ t ∈ r.slots, t.number = k ∧ t.lane = n ∧ t.pending = true
  zones    : ∀ i, (r.zones i).Law r.slots i
  capacity : (r.zones 0).capacity + (r.zones 1).capacity + (r.zones 2).capacity + (r.zones 3).capacity ≤ 2048

/-- The laws of R7 and R8. -/
structure Register.Passes (r : Register) : Prop where
  permits : r.permits.wf = true
  used    : r.used.wf = true
  once    : (r.slots.filterMap (·.pass)).Nodup
  marked  : ∀ n, r.used.isSet n = true ↔ n ∈ r.slots.filterMap (·.pass)

theorem zoneLaw_iff (s : State) (i : ScreenId) : s.zoneLaw i ↔ (s.zones[i]).counts.Law (s.tickets.map Ticket.slot) i := by
  have hp : (s.tickets.filter fun t => t.screen == i).countP Ticket.isPending =
      (s.tickets.map Ticket.slot).countP fun t => t.screen == i && t.pending := by
    simp [List.countP_filter, List.countP_map, Function.comp_def, Ticket.slot, Bool.and_comm]
  have hq : (s.tickets.filter fun t => t.screen == i).countP (fun t => !t.isPending) =
      (s.tickets.map Ticket.slot).countP fun t => t.screen == i && !t.pending := by
    simp [List.countP_filter, List.countP_map, Function.comp_def, Ticket.slot, Bool.and_comm]
  have hl : (s.tickets.filter fun t => t.screen == i).countP Ticket.isLong =
      (s.tickets.map Ticket.slot).countP fun t => t.screen == i && t.long := by
    simp [List.countP_filter, List.countP_map, Function.comp_def, Ticket.slot, Bool.and_comm]
  rw [State.zoneLaw, hp, hq, hl]
  exact ⟨fun ⟨a, b, c, d⟩ => ⟨a, b, c, d⟩, fun ⟨a, b, c, d⟩ => ⟨a, b, c, d⟩⟩

theorem ticketLaws_iff (s : State) : s.ticketLaws ↔ s.register.Law := by
  have numbers : s.tickets.map (·.number) = s.register.slots.map (·.number) := by simp [State.register, Ticket.slot, Function.comp_def]
  have passed : (∀ n, s.nextTicket = some n → ∀ t ∈ s.tickets, t.number < n) ↔
      ∀ n, s.register.next = some n → ∀ t ∈ s.register.slots, t.number < n := by
    simp [State.register, Ticket.slot]
  have admitted : (∀ n : LaneId, ∀ k, (s.entry[n]).admission = some k → ∃ t ∈ s.tickets, t.number = k ∧ t.lane = n ∧ t.isPending = true) ↔
      ∀ n k, s.register.admission n = some k → ∃ t ∈ s.register.slots, t.number = k ∧ t.lane = n ∧ t.pending = true := by
    simp [-Fin.getElem_fin, State.register, Ticket.slot]
  have capacity : sum4 (s.zones.map (·.capacity)) = (s.register.zones 0).capacity + (s.register.zones 1).capacity +
      (s.register.zones 2).capacity + (s.register.zones 3).capacity := by
    simp [sum4, State.register, Zone.counts]
  rw [State.ticketLaws, numbers, passed, admitted, capacity]
  simp only [zoneLaw_iff]
  exact ⟨fun ⟨a, b, c, d, e⟩ => ⟨a, b, c, d, e⟩, fun ⟨a, b, c, d, e⟩ => ⟨a, b, c, d, e⟩⟩

theorem passLaws_iff (s : State) : s.passLaws ↔ s.register.Passes := by
  have passes : s.tickets.filterMap Ticket.pass? = s.register.slots.filterMap (·.pass) := by
    simp [State.register, Ticket.slot, List.filterMap_map, Function.comp_def]
  rw [State.passLaws, passes]
  exact ⟨fun ⟨a, b, c, d⟩ => ⟨a, b, c, d⟩, fun ⟨a, b, c, d⟩ => ⟨a, b, c, d⟩⟩

/-- A handling keeps the laws of the gate; the pass marks lean on the numbers of the tickets. -/
structure Register.Keeps (r r' : Register) : Prop where
  law    : r.Law → r'.Law
  passes : r.Law → r.Passes → r'.Passes

theorem Register.Keeps.refl (r : Register) : r.Keeps r := ⟨id, fun _ => id⟩

theorem Register.Keeps.of_eq {r r' : Register} (h : r' = r) : r.Keeps r' := h ▸ .refl r

theorem Register.Keeps.trans {r r' r'' : Register} (h : r.Keeps r') (h' : r'.Keeps r'') : r.Keeps r'' :=
  ⟨fun hr => h'.law (h.law hr), fun hr hp => h'.passes (h.law hr) (h.passes hr hp)⟩

/-! ### Counting over tickets of distinct numbers -/

theorem slot_of_number {l : List Slot} (h : (l.map (·.number)).Nodup) {t u : Slot} (ht : t ∈ l) (hu : u ∈ l) (hn : t.number = u.number) :
    t = u := List.inj_on_of_nodup_map h ht hu hn

/-- Without one ticket a count is lower by what that ticket counted. -/
theorem countP_drop {l : List Slot} (h : (l.map (·.number)).Nodup) {t : Slot} (ht : t ∈ l) (P : Slot → Bool) :
    (l.filter fun u => u.number != t.number).countP P + (if P t then 1 else 0) = l.countP P := by
  induction l with
  | nil => simp at ht
  | cons u l ih =>
    obtain ⟨hu, hl⟩ := List.nodup_cons.1 h
    rcases List.mem_cons.1 ht with rfl | ht
    · have rest : l.filter (fun r => r.number != t.number) = l := List.filter_eq_self.2 fun r hr =>
        bne_iff_ne.2 fun he => hu (List.mem_map.2 ⟨r, hr, he⟩)
      rw [List.filter_cons_of_neg (by simp), rest, List.countP_cons]
    · have hne : u.number ≠ t.number := fun he => hu (List.mem_map.2 ⟨t, ht, he.symm⟩)
      rw [List.filter_cons_of_pos (by simpa using hne), List.countP_cons, List.countP_cons, ← ih hl ht]
      omega

/-- With one ticket changed a count moves by what the change makes of that ticket. -/
theorem countP_change {l : List Slot} (h : (l.map (·.number)).Nodup) {t : Slot} (ht : t ∈ l) (f : Slot → Slot) (P : Slot → Bool) :
    (l.map fun u => if u.number = t.number then f u else u).countP P + (if P t then 1 else 0) = l.countP P + if P (f t) then 1 else 0 := by
  induction l with
  | nil => simp at ht
  | cons u l ih =>
    obtain ⟨hu, hl⟩ := List.nodup_cons.1 h
    rcases List.mem_cons.1 ht with rfl | ht
    · have rest : (l.map fun u => if u.number = t.number then f u else u) = l :=
        (List.map_congr_left fun r hr => if_neg fun he => hu (List.mem_map.2 ⟨r, hr, he⟩)).trans (List.map_id l)
      rw [List.map_cons, rest, List.countP_cons, List.countP_cons, if_pos rfl]
      omega
    · have hne : u.number ≠ t.number := fun he => hu (List.mem_map.2 ⟨t, ht, he.symm⟩)
      have := ih hl ht
      rw [List.map_cons, List.countP_cons, List.countP_cons, if_neg hne]
      omega

/-! ### What a handling does to the register -/

/-- A lane holds no admission any more. -/
def Register.clear (n : LaneId) (r : Register) : Register := { r with admission := Function.update r.admission n none }

theorem Register.Law.clear {r : Register} (h : r.Law) (n : LaneId) : (r.clear n).Law where
  numbers := h.numbers
  passed := h.passed
  admitted := by
    intro m k hk
    by_cases hm : m = n
    · subst hm
      simp [Register.clear] at hk
    · simp only [Register.clear, Function.update_of_ne hm] at hk
      exact h.admitted m k hk
  zones := h.zones
  capacity := h.capacity

theorem Register.clear_keeps (n : LaneId) (r : Register) : r.Keeps (r.clear n) :=
  ⟨fun h => h.clear n, fun _ hp => ⟨hp.permits, hp.used, hp.once, hp.marked⟩⟩

/-- A pass is released from the used map. -/
def PassMap.release (pass : Option Nat) (m : PassMap) : PassMap := match pass with
  | some n => m.clearRange n n
  | none => m

/-- A ticket leaves: its slot gone, its pass released, the counts of its zone `z`. -/
def Register.drop (t : Slot) (z : ZoneCounts) (r : Register) : Register :=
  { r with
    slots := r.slots.filter fun u => u.number != t.number, zones := Function.update r.zones t.screen z, used := r.used.release t.pass }

/-- What the removal of a ticket takes from the counts of its zone. -/
def ZoneCounts.without (t : Slot) (z : ZoneCounts) : ZoneCounts :=
  { z with
    pending := z.pending - (if t.pending then 1 else 0), present := z.present - (if t.pending then 0 else 1)
    long := z.long - if t.long then 1 else 0 }

theorem Register.zone_capacity {r : Register} {zones : ScreenId → ZoneCounts} (h : r.Law) (hz : ∀ i, (zones i).capacity = (r.zones i).capacity) :
    (zones 0).capacity + (zones 1).capacity + (zones 2).capacity + (zones 3).capacity ≤ 2048 := by
  simp only [hz]
  exact h.capacity

theorem Register.Law.drop {r : Register} (h : r.Law) {t : Slot} (ht : t ∈ r.slots) (hlane : ∀ n, r.admission n ≠ some t.number) :
    (r.drop t ((r.zones t.screen).without t)).Law where
  numbers := h.numbers.sublist (List.filter_sublist.map _)
  passed := fun n hn u hu => h.passed n hn u (List.mem_of_mem_filter hu)
  admitted := by
    intro n k hk
    obtain ⟨u, hu, rfl, hl, hp⟩ := h.admitted n k hk
    exact ⟨u, List.mem_filter.2 ⟨hu, bne_iff_ne.2 fun he => hlane n (he ▸ hk)⟩, rfl, hl, hp⟩
  zones := by
    intro i
    have hz := h.zones i
    have hp := countP_drop h.numbers ht fun u => u.screen == i && u.pending
    have hq := countP_drop h.numbers ht fun u => u.screen == i && !u.pending
    have hl := countP_drop h.numbers ht fun u => u.screen == i && u.long
    have := hz.pending
    have := hz.present
    have := hz.long
    have := hz.room
    simp only [Register.drop]
    by_cases hi : i = t.screen
    · subst hi
      rw [Function.update_self]
      simp only [beq_self_eq_true, Bool.true_and] at hp hq hl
      refine ⟨?_, ?_, ?_, ?_⟩ <;> simp only [ZoneCounts.without] <;> cases hpend : t.pending <;> simp [hpend] at hp hq ⊢ <;> omega
    · rw [Function.update_of_ne hi]
      simp only [beq_eq_false_iff_ne.2 (Ne.symm hi), Bool.false_and, Bool.false_eq_true, if_false, Nat.add_zero] at hp hq hl
      exact ⟨by omega, by omega, by omega, hz.room⟩
  capacity := by
    refine Register.zone_capacity h fun i => ?_
    simp only [Register.drop, Function.update_apply]
    split
    · next hi => rw [hi]; rfl
    · rfl

theorem slot_of_pass {l : List Slot} (h : (l.filterMap (·.pass)).Nodup) {t u : Slot} (ht : t ∈ l) (hu : u ∈ l) {n : Nat}
    (htn : t.pass = some n) (hun : u.pass = some n) : t = u := by
  induction l with
  | nil => simp at ht
  | cons a l ih =>
    have member {b : Slot} (hb : b ∈ l) (hbn : b.pass = some n) : n ∈ l.filterMap (·.pass) := List.mem_filterMap.2 ⟨b, hb, hbn⟩
    cases ha : a.pass with
    | none =>
      rw [List.filterMap_cons_none ha] at h
      rcases List.mem_cons.1 ht with rfl | ht
      · simp [ha] at htn
      · rcases List.mem_cons.1 hu with rfl | hu
        · simp [ha] at hun
        · exact ih h ht hu
    | some m =>
      rw [List.filterMap_cons_some ha, List.nodup_cons] at h
      rcases List.mem_cons.1 ht with rfl | ht' <;> rcases List.mem_cons.1 hu with rfl | hu'
      · rfl
      · obtain rfl : m = n := Option.some.inj (ha.symm.trans htn)
        exact absurd (member hu' hun) h.1
      · obtain rfl : m = n := Option.some.inj (ha.symm.trans hun)
        exact absurd (member ht' htn) h.1
      · exact ih h.2 ht' hu'

/-- No two tickets carry one pass, so that without one of them its pass is free. -/
theorem Register.Passes.drop {r : Register} (hp : r.Passes) (h : r.Law) {t : Slot} (ht : t ∈ r.slots) (z : ZoneCounts) :
    (r.drop t z).Passes where
  permits := hp.permits
  used := by
    simp only [Register.drop, PassMap.release]
    split
    · exact PassMap.wf_clearRange _ _ hp.used
    · exact hp.used
  once := hp.once.sublist (List.filter_sublist.filterMap _)
  marked := by
    intro n
    have others : n ∈ (r.slots.filter fun u => u.number != t.number).filterMap (·.pass) ↔
        n ∈ r.slots.filterMap (·.pass) ∧ t.pass ≠ some n := by
      simp only [List.mem_filterMap, List.mem_filter, bne_iff_ne]
      constructor
      · rintro ⟨u, ⟨hu, hne⟩, hpass⟩
        exact ⟨⟨u, hu, hpass⟩, fun htn => hne (congrArg Slot.number (slot_of_pass hp.once hu ht hpass htn))⟩
      · rintro ⟨⟨u, hu, hpass⟩, hne⟩
        refine ⟨u, ⟨hu, fun he => ?_⟩, hpass⟩
        obtain rfl := slot_of_number h.numbers hu ht he
        exact hne hpass
    simp only [Register.drop, PassMap.release]
    rw [others, ← hp.marked n]
    split
    · next k hk =>
      rw [PassMap.isSet_clearRange, hk]
      simp only [Bool.and_eq_true, Bool.not_eq_true', decide_eq_false_iff_not, ne_eq, Option.some.injEq]
      refine and_congr_right fun _ => ?_
      omega
    · next hk => simp [hk]

theorem Register.drop_keeps {r : Register} {t : Slot} (ht : t ∈ r.slots) (hlane : ∀ n, r.admission n ≠ some t.number) :
    r.Keeps (r.drop t ((r.zones t.screen).without t)) :=
  ⟨fun h => h.drop ht hlane, fun h hp => hp.drop h ht _⟩

/-- The ticket with the number PRESENT, of class LONG or not, and the counts of its zone moved with it. -/
def Register.commit (t : Slot) (long : Bool) (r : Register) : Register :=
  { r with
    slots := r.slots.map fun u => if u.number = t.number then { u with pending := false, long } else u
    zones := Function.update r.zones t.screen <| let z := r.zones t.screen
      { z with pending := z.pending - 1, present := z.present + 1, long := z.long + if long then 1 else 0 } }

/-- What a commit leaves of the tickets. -/
theorem Register.commit_map {α : Type} (f : Slot → α) (hf : ∀ u long, f { u with pending := false, long } = f u) (t : Slot) (long : Bool)
    (r : Register) : (r.commit t long).slots.map f = r.slots.map f := by
  simp only [Register.commit, List.map_map]
  refine List.map_congr_left fun u _ => ?_
  simp only [Function.comp_apply]
  split
  · exact hf u long
  · rfl

theorem Register.Law.commit {r : Register} (h : r.Law) {t : Slot} (ht : t ∈ r.slots) (hpend : t.pending = true) (hlong : t.long = false)
    (long : Bool) (hlane : ∀ n, r.admission n ≠ some t.number) : (r.commit t long).Law where
  numbers := by
    rw [Register.commit_map _ (fun _ _ => rfl)]
    exact h.numbers
  passed := by
    intro n hn u hu
    obtain ⟨v, hv, rfl⟩ := List.mem_map.1 hu
    have := h.passed n hn v hv
    split <;> exact this
  admitted := by
    intro n k hk
    obtain ⟨u, hu, rfl, hl, hp⟩ := h.admitted n k hk
    have hne : u.number ≠ t.number := fun he => hlane n (he ▸ hk)
    exact ⟨u, List.mem_map.2 ⟨u, hu, if_neg hne⟩, rfl, hl, hp⟩
  zones := by
    intro i
    have hz := h.zones i
    have hp := countP_change h.numbers ht (fun u => { u with pending := false, long }) fun u => u.screen == i && u.pending
    have hq := countP_change h.numbers ht (fun u => { u with pending := false, long }) fun u => u.screen == i && !u.pending
    have hl := countP_change h.numbers ht (fun u => { u with pending := false, long }) fun u => u.screen == i && u.long
    have := hz.pending
    have := hz.present
    have := hz.long
    have := hz.room
    simp only [Register.commit]
    by_cases hi : i = t.screen
    · subst hi
      rw [Function.update_self]
      simp only [beq_self_eq_true, Bool.true_and, hpend, hlong, Bool.not_true, Bool.not_false, if_true, Bool.false_eq_true, if_false,
        Nat.add_zero] at hp hq hl
      refine ⟨?_, ?_, ?_, ?_⟩ <;> dsimp only <;> omega
    · rw [Function.update_of_ne hi]
      simp only [beq_eq_false_iff_ne.2 (Ne.symm hi), Bool.false_and, Bool.false_eq_true, if_false, Nat.add_zero] at hp hq hl
      exact ⟨by omega, by omega, by omega, hz.room⟩
  capacity := by
    refine Register.zone_capacity h fun i => ?_
    simp only [Register.commit, Function.update_apply]
    split
    · next hi => rw [hi]
    · rfl

theorem Register.commit_keeps {r : Register} {t : Slot} (ht : t ∈ r.slots) (hpend : t.pending = true) (hlong : t.long = false)
    (long : Bool) (hlane : ∀ n, r.admission n ≠ some t.number) : r.Keeps (r.commit t long) := by
  refine ⟨fun h => h.commit ht hpend hlong long hlane, fun _ hp => ?_⟩
  have passes : (r.commit t long).slots.filterMap (·.pass) = r.slots.filterMap (·.pass) := by
    have hmap := congrArg (List.filterMap id) (Register.commit_map Slot.pass (fun _ _ => rfl) t long r)
    simpa only [List.filterMap_map, Function.id_comp] using hmap
  exact ⟨hp.permits, hp.used, passes ▸ hp.once, passes ▸ hp.marked⟩

/-- A new PENDING ticket, its lane holding it, its pass marked, its zone place taken. -/
def Register.takeIn (t : Slot) (r : Register) : Register where
  slots := r.slots ++ [t]
  next := advanceTicket t.number
  admission := Function.update r.admission t.lane (some t.number)
  zones := Function.update r.zones t.screen { r.zones t.screen with pending := (r.zones t.screen).pending + 1 }
  permits := r.permits
  used := match t.pass with
    | some n => r.used.setRange n n
    | none => r.used

theorem Register.Law.takeIn {r : Register} (h : r.Law) {t : Slot} (hnext : r.next = some t.number) (hpend : t.pending = true)
    (hlong : t.long = false) (hroom : (r.zones t.screen).pending + (r.zones t.screen).present < (r.zones t.screen).capacity) :
    (r.takeIn t).Law where
  numbers := by
    simp only [Register.takeIn, List.map_append, List.map_cons, List.map_nil]
    refine List.nodup_append.2 ⟨h.numbers, by simp, fun a ha b hb => ?_⟩
    obtain ⟨u, hu, rfl⟩ := List.mem_map.1 ha
    rw [List.mem_singleton.1 hb]
    exact Nat.ne_of_lt (h.passed _ hnext u hu)
  passed := by
    intro n hn u hu
    simp only [Register.takeIn, advanceTicket] at hn
    split at hn
    · cases hn
      rcases List.mem_append.1 hu with hu | hu
      · exact Nat.lt_succ_of_lt (h.passed _ hnext u hu)
      · rw [List.mem_singleton.1 hu]
        exact Nat.lt_succ_self _
    · cases hn
  admitted := by
    intro n k hk
    by_cases hn : n = t.lane
    · subst hn
      simp only [Register.takeIn, Function.update_self, Option.some.injEq] at hk
      exact ⟨t, by simp [Register.takeIn], hk, rfl, hpend⟩
    · simp only [Register.takeIn, Function.update_of_ne hn] at hk
      obtain ⟨u, hu, hrest⟩ := h.admitted n k hk
      exact ⟨u, List.mem_append_left _ hu, hrest⟩
  zones := by
    intro i
    have hz := h.zones i
    have := hz.pending
    have := hz.present
    have := hz.long
    have := hz.room
    simp only [Register.takeIn]
    by_cases hi : i = t.screen
    · subst hi
      rw [Function.update_self]
      refine ⟨?_, ?_, ?_, ?_⟩ <;> simp [List.countP_append, hpend, hlong] <;> omega
    · rw [Function.update_of_ne hi]
      refine ⟨?_, ?_, ?_, hz.room⟩ <;>
        simp [List.countP_append, beq_eq_false_iff_ne.2 (Ne.symm hi)] <;> omega
  capacity := by
    refine Register.zone_capacity h fun i => ?_
    simp only [Register.takeIn, Function.update_apply]
    split
    · next hi => rw [hi]
    · rfl

/-- An admission by a pass that is permitted and not in use. -/
theorem Register.Passes.takeIn {r : Register} (h : r.Passes) {t : Slot}
    (hpass : ∀ n, t.pass = some n → r.permits.isSet n = true ∧ r.used.isSet n = false) : (r.takeIn t).Passes where
  permits := h.permits
  used := by
    simp only [Register.takeIn]
    split
    · next n hn =>
      have hperm := (hpass n hn).1
      rw [PassMap.isSet, List.contains_iff_mem] at hperm
      exact PassMap.wf_setRange (Nat.le_refl n) (((PassMap.wf_iff _).1 h.permits).1 n hperm) h.used
    · exact h.used
  once := by
    simp only [Register.takeIn, List.filterMap_append]
    refine List.nodup_append.2 ⟨h.once, ?_, fun a ha b hb => ?_⟩
    · cases hp : t.pass <;> simp [hp]
    · obtain ⟨u, hu, hub⟩ := List.mem_filterMap.1 hb
      rw [List.mem_singleton.1 hu] at hub
      rintro rfl
      have hfree := (hpass a hub).2
      rw [(h.marked a).2 ha] at hfree
      cases hfree
  marked := by
    intro n
    simp only [Register.takeIn, List.filterMap_append, List.mem_append, ← h.marked n]
    cases hp : t.pass with
    | none => simp [hp]
    | some k =>
      simp only [PassMap.isSet_setRange (Nat.le_refl k), List.filterMap_cons, hp, List.filterMap_nil, List.mem_singleton, Bool.or_eq_true,
        decide_eq_true_eq]
      constructor
      · rintro (hk | hk)
        · exact .inr (by omega)
        · exact .inl hk
      · rintro (hk | hk)
        · exact .inr hk
        · exact .inl (by omega)

/-- An empty register keeps the laws. -/
theorem Register.Keeps.of_empty {r r' : Register} (hslots : r'.slots = []) (hadm : ∀ n, r'.admission n = none) (hused : r'.used = [])
    (hpermits : r'.permits = r.permits ∨ r'.permits = [])
    (hzones : ∀ i, (r'.zones i).pending = 0 ∧ (r'.zones i).present = 0 ∧ (r'.zones i).long = 0)
    (hcapacity : ∀ i, (r'.zones i).capacity = (r.zones i).capacity ∨ (r'.zones i).capacity = 0) : r.Keeps r' where
  law := by
    intro h
    refine ⟨by simp [hslots], by simp [hslots], fun n k hk => by simp [hadm] at hk, fun i => ?_, ?_⟩
    · obtain ⟨hp, hq, hl⟩ := hzones i
      exact ⟨by simp [hp, hslots], by simp [hq, hslots], by simp [hl, hslots], by simp [hp, hq]⟩
    · have := h.capacity
      have h0 := hcapacity 0
      have h1 := hcapacity 1
      have h2 := hcapacity 2
      have h3 := hcapacity 3
      omega
  passes := by
    intro _ h
    refine ⟨?_, by rw [hused]; rfl, by simp [hslots], by simp [hused, hslots, PassMap.isSet]⟩
    rcases hpermits with hp | hp <;> rw [hp]
    · exact h.permits
    · rfl

end Sys2Proof.Machine

/-! Every step over the register of the gate. -/

namespace Sys2Proof.Machine

/-! ### The register under the updates of one record -/

def registerParts : List Part := [.tickets, .nextTicket, .entry, .zones, .permits, .used]

theorem register_of_slots {ps : List Part} {s t : State} (h : OnlyIn ps s t) (hslots : t.tickets.map Ticket.slot = s.tickets.map Ticket.slot)
    (hps : ∀ p ∈ [Part.nextTicket, .entry, .zones, .permits, .used], p ∉ ps) : t.register = s.register := by
  simp only [List.forall_mem_cons] at hps
  obtain ⟨hn, he, hz, hp, hu, -⟩ := hps
  have hnext : t.nextTicket = s.nextTicket := h .nextTicket hn
  have hentry : t.entry = s.entry := h .entry he
  have hzones : t.zones = s.zones := h .zones hz
  have hpermits : t.permits = s.permits := h .permits hp
  have hused : t.used = s.used := h .used hu
  simp only [State.register, hslots, hnext, hentry, hzones, hpermits, hused]

theorem register_of_parts {ps : List Part} {s t : State} (h : OnlyIn ps s t) (hps : ∀ q ∈ registerParts, q ∉ ps) : t.register = s.register := by
  refine register_of_slots h ?_ fun p hp => hps p (List.mem_cons_of_mem _ hp)
  rw [show t.tickets = s.tickets from h .tickets (hps _ (by simp [registerParts]))]

theorem startAll_register (s : State) : s.startAll.register = s.register :=
  register_of_parts (startAll_onlyIn (ps := [.calls, .orders, .reader]) s (by simp)) (by simp [registerParts])

theorem post_register (k : EventKind) (d : Detail) (s : State) : (s.post k d).register = s.register := rfl

theorem slots_modTicket {f : Ticket → Ticket} (hf : ∀ t, (f t).slot = t.slot) (n : Nat) (s : State) :
    (s.modTicket n f).tickets.map Ticket.slot = s.tickets.map Ticket.slot := by
  simp only [State.modTicket, State.modTickets, List.map_map]
  refine List.map_congr_left fun t _ => ?_
  simp only [Function.comp_apply]
  split
  · exact hf t
  · rfl

/-- A change of a lane that leaves its admission. -/
theorem modEntry_register {f : EntryLane → EntryLane} (n : LaneId) (s : State) (hf : (f s.entry[n]).admission = (s.entry[n]).admission) :
    (s.modEntry n f).register = s.register := by
  have hadmission : (fun m : LaneId => ((s.modEntry n f).entry[m]).admission) = fun m => (s.entry[m]).admission := by
    funext m
    by_cases hm : m = n
    · subst hm
      exact (congrArg EntryLane.admission (upd_get_self _ _ _)).trans hf
    · exact congrArg EntryLane.admission (upd_get_ne _ _ _ _ (Ne.symm hm))
  simp only [State.register, hadmission]
  rfl

/-- A change of a lane that leaves it holding no admission. -/
theorem modEntry_register_clear {f : EntryLane → EntryLane} (n : LaneId) (s : State) (hf : (f s.entry[n]).admission = none) :
    (s.modEntry n f).register = s.register.clear n := by
  have hadmission : (fun m : LaneId => ((s.modEntry n f).entry[m]).admission) =
      Function.update (fun m => (s.entry[m]).admission) n none := by
    funext m
    by_cases hm : m = n
    · subst hm
      rw [Function.update_self]
      exact (congrArg EntryLane.admission (upd_get_self _ _ _)).trans hf
    · rw [Function.update_of_ne hm]
      exact congrArg EntryLane.admission (upd_get_ne _ _ _ _ (Ne.symm hm))
  simp only [State.register, Register.clear, hadmission]
  rfl

/-- A change of a zone that makes its counts `z`. -/
theorem modZone_register {f : Zone → Zone} (i : ScreenId) (s : State) :
    (s.modZone i f).register = { s.register with zones := Function.update s.register.zones i (f s.zones[i]).counts } := by
  have hzones : (fun j : ScreenId => ((s.modZone i f).zones[j]).counts) =
      Function.update (fun j => (s.zones[j]).counts) i (f s.zones[i]).counts := by
    funext j
    by_cases hj : j = i
    · subst hj
      rw [Function.update_self]
      exact congrArg Zone.counts (upd_get_self _ _ _)
    · rw [Function.update_of_ne hj]
      exact congrArg Zone.counts (upd_get_ne _ _ _ _ (Ne.symm hj))
  simp only [State.register, hzones]
  rfl

theorem modTotals_register (f : NightTotals → NightTotals) (s : State) : (s.modTotals f).register = s.register := rfl

theorem setEntry_register (i : ScreenId) (b : Bool) (s : State) : (s.setEntry i b).register = s.register := by
  have hsame : Function.update s.register.zones i ({ s.zones[i] with isOpen := b } : Zone).counts = s.register.zones :=
    Function.update_eq_self i s.register.zones
  rw [State.setEntry, modZone_register, hsame]

/-! ### Order handlings -/

theorem serviceSteps_tickets (k : Nat) (s : State) : (State.serviceSteps k s).tickets = s.tickets := by
  induction k generalizing s with
  | zero => rfl
  | succ k ih => exact (ih _).trans (serviceStep_onlyIn s .tickets (by simp))

theorem fillIfShrunk_tickets (i : ScreenId) (n : Nat) (s : State) : (s.fillIfShrunk i n).tickets = s.tickets := by
  unfold State.fillIfShrunk
  split
  · exact onlyIn_of_clearCalls (owedFill_frame i s) .tickets (by simp)
  · rfl

theorem postCrossings_tickets (n : Nat) (s : State) : (s.postCrossings n).tickets = s.tickets :=
  (postCrossings_onlyIn (ps := [.ports]) n s (by simp)) .tickets (by simp)

theorem kitchenRelease_tickets (i : ScreenId) (s : State) : (s.kitchenRelease i).tickets = s.tickets := by
  unfold State.kitchenRelease
  split
  · rfl
  · dsimp only
    rw [postCrossings_tickets]
    refine foldl_keeps (P := fun u => u.tickets = s.tickets) (fun o h => Eq.trans ?_ h) _ rfl
    unfold State.releaseOne
    split <;> rfl

theorem removeOrders_slots (out : OrderOutcome) (os : List Order) (s : State) :
    (s.removeOrders out os).tickets.map Ticket.slot = s.tickets.map Ticket.slot := by
  have one (o : Order) (u : State) : (u.removeOne out o).tickets.map Ticket.slot = u.tickets.map Ticket.slot := by
    simp only [State.removeOne]
    have posted (v : State) : (v.postRemoval out o.number).tickets = v.tickets := by cases out <;> rfl
    rw [posted]
    exact slots_modTicket (f := fun t => { t with openOrders := t.openOrders - 1 }) (fun _ => rfl) _ _
  have all (u : State) : (os.foldl (State.removeOne out) u).tickets.map Ticket.slot = u.tickets.map Ticket.slot := by
    induction os generalizing u with
    | nil => rfl
    | cons o os ih => exact (ih _).trans (one o u)
  simp only [State.removeOrders]
  rw [fillIfShrunk_tickets, fillIfShrunk_tickets, fillIfShrunk_tickets, fillIfShrunk_tickets, postCrossings_tickets, serviceSteps_tickets]
  exact all s

theorem removeOrders_register (out : OrderOutcome) (os : List Order) (s : State) : (s.removeOrders out os).register = s.register :=
  register_of_slots (onlyIn_of_clearOrders (removeOrders_frame out os s)) (removeOrders_slots out os s) (by simp)

theorem examineOrder_register (s : State) (n : Nat) : (s.examineOrder n).register = s.register := by
  unfold State.examineOrder
  split
  · rfl
  · split
    · rfl
    · split
      · exact register_of_parts (onlyIn_of_clearCalls (enqueueCall_frame _ _ s)) (by simp [registerParts])
      · exact removeOrders_register _ _ s

theorem advanceNight_register (s : State) : s.advanceNight.register = s.register := by
  unfold State.advanceNight
  split
  · rw [startAll_register]
    exact foldl_keeps (P := fun u => u.register = s.register) (fun n h => (examineOrder_register _ n).trans h) _ rfl
  · rfl

theorem endShow_register (i : ScreenId) (s : State) : (s.endShow i).register = s.register := by
  unfold State.endShow State.cancelHeld
  rw [post_register, removeOrders_register]
  rfl

theorem runAction_register (i : ScreenId) (a : CueAction) (s : State) : (s.runAction i a).register = s.register := by
  unfold State.runAction
  cases a with
  | test src m f => cases f <;> rfl
  | hold => dsimp only; split <;> rfl
  | endShow =>
    dsimp only
    split
    · exact endShow_register i s
    · rfl
  | kitchenRelease =>
    exact register_of_slots (onlyIn_of_clearOrders (kitchenRelease_frame i s)) (congrArg (List.map Ticket.slot) (kitchenRelease_tickets i s))
      (by simp)
  | callsOpen => exact register_of_parts (onlyIn_of_clearCalls (openCalls_frame i s)) (by simp [registerParts])
  | entryOpen | entryClose => exact setEntry_register i _ s
  | callsClose | ordersOpen | ordersClose | mark | lamp => rfl

theorem passOver_register (n : Nat) (i : ScreenId) (p : Pos) (s : State) : (State.passOver n i p s).register = s.register := by
  induction n generalizing s with
  | zero => rfl
  | succ n ih =>
    unfold State.passOver
    split
    · split
      · exact (ih _).trans rfl
      · rfl
    · rfl

theorem passFor_register (n : Nat) (i : ScreenId) (p : Pos) (s : State) : (State.passFor n i p s).register = s.register := by
  induction n generalizing s with
  | zero => rfl
  | succ n ih =>
    unfold State.passFor
    dsimp only
    split
    · rfl
    · next c _ =>
      have acted : ((s.passCursor i).runAction i c.action).register = s.register := runAction_register i c.action (s.passCursor i)
      split
      · split
        · split
          · exact (passOver_register n i p _).trans acted
          · exact (ih _).trans acted
        · exact (ih _).trans rfl
      · rfl

theorem advanceClock_register (i : ScreenId) (s : State) : (s.advanceClock i).register = s.register := by
  unfold State.advanceClock
  split
  · unfold State.clockLimit
    split <;> rfl
  · exact passFor_register _ i _ _

theorem framePulse_register (i : ScreenId) (us : Nat) (s : State) : (s.framePulse i us).register = s.register := by
  have accepted (u : State) : (u.acceptedPulse i).register = u.register := by
    simp only [State.acceptedPulse]
    split
    · rfl
    · rfl
    · split
      · exact passFor_register _ i _ _
      · rfl
    · exact advanceClock_register i _
    · split <;> exact advanceClock_register i _
    · exact advanceClock_register i _
  simp only [State.framePulse]
  split
  · rfl
  · exact (accepted _).trans rfl

/-! ### Tickets that leave -/

theorem dropTicket_register (t : Ticket) (s : State) : (s.dropTicket t).register = s.register.drop t.slot (s.register.zones t.screen) := by
  have hslots : (s.tickets.filter fun r => r.number != t.number).map Ticket.slot = s.register.slots.filter fun u => u.number != t.number := by
    simp only [State.register, List.filter_map]
    rfl
  have hzones : Function.update s.register.zones t.screen (s.register.zones t.screen) = s.register.zones := Function.update_eq_self _ _
  unfold Register.drop
  simp only [Ticket.slot, hzones, ← hslots]
  unfold State.dropTicket Ticket.pass? PassMap.release
  cases t.payment <;> rfl

theorem Register.drop_zone (t : Slot) (z z' : ZoneCounts) (r : Register) :
    { r.drop t z with zones := Function.update (r.drop t z).zones t.screen z' } = r.drop t z' := by
  simp [Register.drop]

/-- The ticket of a void or a departure gone, its zone's counts with it. -/
theorem gone_register {f : Zone → Zone} {t : Ticket} {s u : State} (hu : u.register = s.register)
    (hf : ∀ z : Zone, (f z).counts = z.counts.without t.slot) (g : NightTotals → NightTotals) :
    (((u.dropTicket t).modZone t.screen f).modTotals g).register =
      s.register.drop t.slot ((s.register.zones t.screen).without t.slot) := by
  have hzone : (u.dropTicket t).register.zones t.screen = s.register.zones t.screen := by
    rw [dropTicket_register, hu]
    simp [Register.drop, Ticket.slot]
  rw [modTotals_register, modZone_register, hf]
  change { (u.dropTicket t).register with
    zones := Function.update (u.dropTicket t).register.zones t.screen (((u.dropTicket t).register.zones t.screen).without t.slot) } = _
  rw [hzone, dropTicket_register, hu]
  exact Register.drop_zone t.slot _ _ _

theorem Ticket.long_of_pending {t : Ticket} (h : t.isPending = true) : t.isLong = false := by
  unfold Ticket.isPending at h
  unfold Ticket.isLong
  split at h
  · next hs => simp [hs]
  · cases h

theorem void_register {n : Nat} {t : Ticket} {s : State} (ht : s.ticket? n = some t) (hpend : t.isPending = true) :
    (s.void n).register = s.register.drop t.slot ((s.register.zones t.screen).without t.slot) := by
  have hlong := Ticket.long_of_pending hpend
  unfold State.void
  simp only [ht]
  exact gone_register (removeOrders_register _ _ s) (fun z => by simp [Zone.counts, ZoneCounts.without, Ticket.slot, hpend, hlong]) _

theorem departTicket_register {t : Ticket} {cls : VehicleClass} {at' : Nat} (s : State) (hst : t.state = .present cls at') :
    (s.departTicket t cls).register = s.register.drop t.slot ((s.register.zones t.screen).without t.slot) := by
  unfold State.departTicket
  refine gone_register (removeOrders_register _ _ s) (fun z => ?_) _
  have hpend : t.isPending = false := by simp [Ticket.isPending, hst]
  have hlong : t.isLong = true ↔ cls = .long := by
    cases cls <;> simp [Ticket.isLong, hst]
  by_cases hcls : cls = .long
  · simp [Zone.counts, ZoneCounts.without, Ticket.slot, hpend, hlong.2 hcls, hcls]
  · have : t.isLong = false := by simpa [hcls] using hlong
    simp [Zone.counts, ZoneCounts.without, Ticket.slot, hpend, this, hcls]

theorem Register.Keeps.of_law {r r' : Register} (h : r.Law → r.Keeps r') : r.Keeps r' := ⟨fun hr => (h hr).law hr, fun hr => (h hr).passes hr⟩

/-- No lane but its own holds a PENDING ticket, and with that lane cleared none does. -/
theorem Register.Law.unheld {r : Register} (h : r.Law) {t : Slot} (ht : t ∈ r.slots) : ∀ m, (r.clear t.lane).admission m ≠ some t.number := by
  intro m hm
  by_cases hl : m = t.lane
  · subst hl
    simp [Register.clear] at hm
  · simp only [Register.clear, Function.update_of_ne hl] at hm
    obtain ⟨u, hu, hn, hlane, -⟩ := h.admitted m _ hm
    obtain rfl := slot_of_number h.numbers hu ht hn
    exact hl hlane.symm

/-- No lane holds a PRESENT ticket. -/
theorem Register.Law.unheld_present {r : Register} (h : r.Law) {t : Slot} (ht : t ∈ r.slots) (hpend : t.pending = false) :
    ∀ m, r.admission m ≠ some t.number := by
  intro m hm
  obtain ⟨u, hu, hn, -, hp⟩ := h.admitted m _ hm
  obtain rfl := slot_of_number h.numbers hu ht hn
  simp [hpend] at hp

/-- A ticket voided and its lane cleared. -/
theorem Register.void_keeps {r : Register} {t : Slot} (ht : t ∈ r.slots) :
    r.Keeps ((r.drop t ((r.zones t.screen).without t)).clear t.lane) :=
  .of_law fun h => (Register.clear_keeps t.lane r).trans (Register.drop_keeps (r := r.clear t.lane) ht (h.unheld ht))

theorem slot_of_ticket {s : State} {n : Nat} {t : Ticket} (h : s.ticket? n = some t) : t.slot ∈ s.register.slots ∧ t.number = n :=
  ⟨List.mem_map_of_mem (ticket_number h).1, (ticket_number h).2⟩

/-- What an admission names, by the laws. -/
theorem Register.Law.ticket_of_admission {s : State} (h : s.register.Law) {n : LaneId} {k : Nat} (hk : (s.entry[n]).admission = some k) :
    ∃ t, s.ticket? k = some t ∧ t.lane = n ∧ t.isPending = true := by
  obtain ⟨u, hu, rfl, hl, hp⟩ := h.admitted n k hk
  obtain ⟨r, hr, hru⟩ := List.mem_map.1 hu
  have hfound : (s.ticket? u.number).isSome = true := by
    rw [State.ticket?, List.find?_isSome]
    exact ⟨r, hr, by simp [← hru, Ticket.slot]⟩
  obtain ⟨t, ht⟩ := Option.isSome_iff_exists.1 hfound
  obtain ⟨hmem, hnum⟩ := slot_of_ticket ht
  have hsame : t.slot = u := slot_of_number h.numbers hmem hu hnum
  exact ⟨t, ht, (congrArg Slot.lane hsame).trans hl, (congrArg Slot.pending hsame).trans hp⟩

/-- The void of a lane's admission, the lane then holding none. -/
theorem voidAdmission_keeps {n : LaneId} {k : Nat} {s : State} (hk : (s.entry[n]).admission = some k) {f : EntryLane → EntryLane}
    (hf : ∀ l, (f l).admission = none) : s.register.Keeps ((s.void k).modEntry n f).register := by
  refine .of_law fun h => ?_
  obtain ⟨t, ht, rfl, hp⟩ := h.ticket_of_admission hk
  rw [modEntry_register_clear _ _ (hf _), void_register ht hp]
  exact Register.void_keeps (slot_of_ticket ht).1

theorem cancelAdmitBody_register (n : Nat) (s : State) : s.register.Keeps (s.cancelAdmitBody n).1.register := by
  unfold State.cancelAdmitBody
  split
  · exact .refl _
  · next t ht =>
    split
    · exact .refl _
    · next hst =>
      split
      · dsimp only
        have hp : t.isPending = true := by simp [Ticket.isPending, hst]
        rw [startAll_register, modEntry_register_clear _ _ rfl, void_register ht hp]
        exact Register.void_keeps (slot_of_ticket ht).1
      · exact .refl _

theorem departBody_register (n : Nat) (s : State) : s.register.Keeps (s.departBody n).1.register := by
  unfold State.departBody
  split
  · exact .refl _
  · next t ht =>
    split
    · exact .refl _
    · next cls at' hst =>
      dsimp only
      rw [startAll_register, departTicket_register s hst]
      have hmem := (slot_of_ticket ht).1
      have hpend : t.slot.pending = false := by simp [Ticket.slot, Ticket.isPending, hst]
      exact .of_law fun h => Register.drop_keeps hmem (h.unheld_present hmem hpend)

theorem passWindowExpiry_register (n : LaneId) (s : State) : s.register.Keeps (s.passWindowExpiry n).startAll.register := by
  rw [startAll_register]
  simp only [State.passWindowExpiry]
  split
  · rw [post_register]
    split
    · next k hk => exact voidAdmission_keeps hk fun _ => rfl
    · rw [modEntry_register_clear _ _ rfl]
      exact Register.clear_keeps n _
  · exact .refl _

/-! ### Commits -/

theorem commit_register {k : Nat} {t : Ticket} {s : State} (ht : s.ticket? k = some t) (cls : VehicleClass) :
    (s.commit k cls).register = s.register.commit t.slot (decide (cls = .long)) := by
  have hnum := (slot_of_ticket ht).2
  have hslots : (s.modTicket k fun t => { t with state := .present cls s.nightClock }).tickets.map Ticket.slot =
      s.register.slots.map fun u => if u.number = t.number then { u with pending := false, long := decide (cls = .long) } else u := by
    simp only [State.register, State.modTicket, State.modTickets, List.map_map, hnum]
    refine List.map_congr_left fun r _ => ?_
    simp only [Function.comp_apply]
    by_cases hr : r.number = k
    · simp only [hr, Ticket.slot, Ticket.isPending, Ticket.isLong, Ticket.pass?, if_true]
      cases cls <;> rfl
    · simp [hr, Ticket.slot]
  have moved : (s.modTicket k fun t => { t with state := .present cls s.nightClock }).register = { s.register with
      slots := s.register.slots.map fun u => if u.number = t.number then { u with pending := false, long := decide (cls = .long) } else u } := by
    rw [← hslots]
    rfl
  unfold State.commit
  simp only [ht]
  rw [modTotals_register, modZone_register, moved]
  cases cls <;> rfl

/-- A lane's admission committed, the lane then holding none. -/
theorem commitAdmission_keeps {n : LaneId} (cls : VehicleClass) {s : State} {f : EntryLane → EntryLane}
    (hf : ∀ l, (f l).admission = none) : s.register.Keeps ((s.commitAdmission n cls).modEntry n f).register := by
  refine .of_law fun h => ?_
  rw [modEntry_register_clear _ _ (hf _)]
  unfold State.commitAdmission
  split
  · exact Register.clear_keeps n _
  · next k hk =>
    obtain ⟨t, ht, rfl, hp⟩ := h.ticket_of_admission hk
    have hmem := (slot_of_ticket ht).1
    have counted : ((s.commit k cls).modEntry t.lane (·.count fun c => { c with commits := inc16 c.commits })).register =
        s.register.commit t.slot (decide (cls = .long)) := (modEntry_register _ _ rfl).trans (commit_register ht cls)
    rw [counted]
    refine (Register.clear_keeps t.lane s.register).trans ?_
    exact Register.commit_keeps (r := s.register.clear t.lane) hmem hp (Ticket.long_of_pending hp) _ (h.unheld hmem)

theorem laneResetBody_register (a : LaneName) (s : State) : s.register.Keeps (s.laneResetBody a).1.register := by
  cases a with
  | entry n =>
    simp only [State.laneResetBody, State.resetEntry]
    rw [startAll_register]
    split
    · next k hst hk =>
      have hadm : (s.entry[n]).admission = some k := by simpa [-Fin.getElem_fin, EntryLane.resetTicket, hst] using hk
      exact voidAdmission_keeps hadm fun _ => rfl
    · exact commitAdmission_keeps .unmeasured fun _ => rfl
    · rw [modEntry_register_clear _ _ rfl]
      exact Register.clear_keeps n _
  | exit n => exact .refl _

theorem endPassage_register (n : LaneId) (s : State) : s.register.Keeps (s.endPassage n).register := by
  have settled : s.register.Keeps ((s.commitAdmission n (s.entry[n]).classify).modEntry n
      fun l => { l.settle with lastCommit := l.admission, admission := none }).register := commitAdmission_keeps _ fun _ => rfl
  simp only [State.endPassage]
  split
  · refine settled.trans (.of_eq ?_)
    unfold State.longCommit
    rw [post_register, modEntry_register _ _ rfl]
  · exact settled

/-- A handling that keeps the laws of the gate, after a change that the register does not see. -/
theorem register_keeps_after {s u : State} {r : Register} (h : u.register.Keeps r) (hu : u.register = s.register) : s.register.Keeps r := hu ▸ h

theorem elapse_admission (us : Nat) (l : EntryLane) : (l.elapse us).admission = l.admission := by
  unfold EntryLane.elapse
  split <;> rfl

theorem entryFall_register (n : LaneId) (us : Nat) (s : State) : s.register.Keeps (s.entryFall n us).register := by
  have fallen : (s.modEntry n fun l => { l.elapse us with loop := .clear }).register = s.register :=
    modEntry_register n s (elapse_admission us _)
  simp only [State.entryFall]
  split
  · exact .refl _
  · split
    · split
      · exact register_keeps_after (endPassage_register n _) fallen
      · rw [modEntry_register n _ rfl, fallen]
        exact .refl _
    · rw [modEntry_register_clear n _ rfl, fallen]
      exact Register.clear_keeps n _
    all_goals exact .of_eq fallen

theorem tailgateReport_register (k : Nat) (s : State) : (s.tailgateReport k).register = s.register :=
  register_of_slots (ps := [.tickets]) (fun q hq => by cases q <;> first | (exfalso; apply hq; simp; done) | rfl)
    (slots_modTicket (f := fun t => { t with tailgate := true }) (fun _ => rfl) k s) (by simp)

theorem entryRise_register (n : LaneId) (s : State) : s.register.Keeps (s.entryRise n).register := by
  have risen : (s.modEntry n fun l => { l with loop := .occupied }).register = s.register := modEntry_register n s rfl
  simp only [State.entryRise]
  split
  · exact .refl _
  · split
    · rw [modEntry_register n _ rfl, risen]
      exact .refl _
    · split
      · rw [tailgateReport_register, post_register, modEntry_register_clear n _ rfl, risen]
        exact Register.clear_keeps n _
      · rw [post_register, modEntry_register_clear n _ rfl, risen]
        exact Register.clear_keeps n _
    · rw [post_register, modEntry_register n _ rfl, risen]
      exact .refl _
    · rw [post_register, modEntry_register n _ rfl, risen]
      exact .refl _
    all_goals exact .of_eq risen

theorem entryStuckExpiry_register (n : LaneId) (s : State) : s.register.Keeps (s.entryStuckExpiry n).register := by
  simp only [State.entryStuckExpiry]
  split
  · rw [post_register]
    split
    · exact commitAdmission_keeps .unmeasured fun _ => rfl
    · rw [modEntry_register_clear n _ rfl]
      exact Register.clear_keeps n _
  · exact .refl _

/-! ### Admissions, passes and zones -/

theorem postFullRise_register (b : Bool) (i : ScreenId) (s : State) : (s.postFullRise b i).register = s.register := by
  unfold State.postFullRise
  split <;> rfl

/-- A lane that takes an admission. -/
theorem armFor_register (n : LaneId) (k : Nat) (s : State) :
    (s.modEntry n (·.armFor k)).register = { s.register with admission := Function.update s.register.admission n (some k) } := by
  have hadmission : (fun m : LaneId => ((s.modEntry n (·.armFor k)).entry[m]).admission) =
      Function.update (fun m => (s.entry[m]).admission) n (some k) := by
    funext m
    by_cases hm : m = n
    · subst hm
      rw [Function.update_self]
      exact congrArg EntryLane.admission (upd_get_self _ _ _)
    · rw [Function.update_of_ne hm]
      exact congrArg EntryLane.admission (upd_get_ne _ _ _ _ (Ne.symm hm))
  simp only [State.register, hadmission]
  rfl

theorem markUsed_register (p : Payment) (s : State) : (s.markUsed p).register = { s.register with
    used := match p with | .pass n => s.used.setRange n n | .paid | .comp => s.used } := by
  cases p <;> rfl

theorem admitTicket_register (number : Nat) (a : AdmitArgs) (s : State) :
    (s.admitTicket number a).register = s.register.takeIn (a.ticket number).slot := by
  simp only [State.admitTicket]
  rw [postFullRise_register, armFor_register, modTotals_register, markUsed_register, modZone_register]
  unfold Register.takeIn
  simp only [State.register, AdmitArgs.ticket, Ticket.slot, Ticket.pass?, State.modTickets, List.map_append]
  cases a.payment <;> rfl

/-- The checks of R9 passed. -/
theorem admitCheck_passed {a : AdmitArgs} {s : State} (h : s.admitCheck a = none) :
    (s.zones[a.screen]).occupancy < (s.zones[a.screen]).capacity ∧ s.passCheck a.payment = none := by
  simp only [State.admitCheck, Option.or_eq_none_iff] at h
  obtain ⟨-, -, hroom, hpass, -, -⟩ := h
  refine ⟨?_, hpass⟩
  by_contra hn
  simp [-Fin.getElem_fin, hn] at hroom

theorem admitBody_register (a : AdmitArgs) (s : State) : s.register.Keeps (s.admitBody a).1.register := by
  unfold State.admitBody
  split
  · exact .refl _
  · next number hcheck hnext =>
    obtain ⟨hroom, hpass⟩ := admitCheck_passed hcheck
    dsimp only
    rw [admitTicket_register]
    refine ⟨fun h => h.takeIn hnext rfl rfl hroom, fun _ h => h.takeIn fun n hn => ?_⟩
    have hpay : a.payment = .pass n := by
      have hn' : (a.ticket number).pass? = some n := hn
      unfold Ticket.pass? at hn'
      split at hn'
      · next k hk =>
        cases hn'
        exact hk
      all_goals cases hn'
    rw [hpay] at hpass
    simp only [State.passCheck] at hpass
    change s.permits.isSet n = true ∧ s.used.isSet n = false
    cases hperm : s.permits.isSet n <;> cases hused : s.used.isSet n <;> simp [hperm, hused] at hpass ⊢
  · exact .refl _

theorem passSetArgs_range {payload : List Byte} {a : Nat × Nat × Bool} (h : passSetArgs payload = some a) : a.1 ≤ a.2.1 ∧ a.2.1 ≤ 4095 := by
  unfold passSetArgs at h
  split at h
  · simp only [Option.bind_eq_bind, Option.bind_eq_some_iff] at h
    obtain ⟨first, _, last, hlast, _, _, ha⟩ := h
    cases ha
    obtain ⟨rfl, hle⟩ := within_eq_some hlast
    exact hle
  · cases h

theorem passSetBody_register {a : Nat × Nat × Bool} (ha : a.1 ≤ a.2.1 ∧ a.2.1 ≤ 4095) (s : State) :
    s.register.Keeps (s.passSetBody a).1.register where
  law := fun h => ⟨h.numbers, h.passed, h.admitted, h.zones, h.capacity⟩
  passes := by
    intro _ h
    refine ⟨?_, h.used, h.once, h.marked⟩
    have hwf : s.permits.wf = true := h.permits
    change (if a.2.2 then s.permits.setRange a.1 a.2.1 else s.permits.clearRange a.1 a.2.1).wf = true
    split
    · exact PassMap.wf_setRange ha.1 (by omega) hwf
    · exact PassMap.wf_clearRange _ _ hwf

/-- A capacity set to no less than the occupancy, the four capacities within 2048. -/
theorem setZoneBody_register (a : ScreenId × Nat) (s : State) : s.register.Keeps (s.setZoneBody a).1.register := by
  simp only [State.setZoneBody]
  split
  · exact .refl _
  · next hroom =>
    split
    · exact .refl _
    · next hsum =>
      rw [postFullRise_register, modZone_register]
      refine ⟨fun h => ⟨h.numbers, h.passed, h.admitted, fun i => ?_, ?_⟩, fun _ h => ⟨h.permits, h.used, h.once, h.marked⟩⟩
      · have hz := h.zones i
        dsimp only
        by_cases hi : i = a.1
        · subst hi
          rw [Function.update_self]
          refine ⟨hz.pending, hz.present, hz.long, ?_⟩
          simpa [-Fin.getElem_fin, Zone.counts, Zone.occupancy] using Nat.le_of_not_lt hroom
        · rw [Function.update_of_ne hi]
          exact hz
      · have hcap : (Function.update s.register.zones a.1 ({ s.zones[a.1] with capacity := a.2 } : Zone).counts 0).capacity +
            (Function.update s.register.zones a.1 ({ s.zones[a.1] with capacity := a.2 } : Zone).counts 1).capacity +
            (Function.update s.register.zones a.1 ({ s.zones[a.1] with capacity := a.2 } : Zone).counts 2).capacity +
            (Function.update s.register.zones a.1 ({ s.zones[a.1] with capacity := a.2 } : Zone).counts 3).capacity =
              s.capacityWith a.1 a.2 := by
          obtain ⟨i, c⟩ := a
          dsimp only
          fin_cases i <;> simp [State.capacityWith, sum4, upd, State.register, Zone.counts, Function.update]
        rw [hcap]
        omega

/-- CLOSE_NIGHT, accepted only while no lane holds an admission. -/
theorem closeNightBody_register (b : List Byte) {s : State} (hlanes : s.laneLaws) : s.register.Keeps (s.closeNightBody b).1.register := by
  unfold State.closeNightBody
  split
  · next hquiet =>
    dsimp only
    refine .of_empty rfl (fun n => ?_) rfl (.inl rfl) (fun i => ?_) fun i => .inl ?_
    · have hadm : s.closeNight.register.admission n = (s.entry[n]).admission := by simp [State.register, State.closeNight]
      rw [hadm]
      have hstate : (s.entry[n]).state = .closed ∨ (s.entry[n]).state = .idle := by
        simp only [State.nightQuiet, Bool.and_eq_true, List.all_eq_true] at hquiet
        have := hquiet.2 s.entry[n] (by simp)
        simpa [-Fin.getElem_fin] using this
      have hlaw := (hlanes n).2
      unfold EntryLane.admissionLaw at hlaw
      rw [← Option.not_isSome_iff_eq_none, hlaw]
      rcases hstate with hs | hs <;> simp [-Fin.getElem_fin, hs]
    · simp [State.register, State.closeNight, Zone.closeNight, Zone.reset, Zone.counts]
    · simp [State.register, State.closeNight, Zone.closeNight, Zone.counts]
  · exact .refl _

theorem deviceReset_register (e : Vector Bool 4) (x : Vector Bool 2) (s : State) : s.register.Keeps (s.deviceReset e x).register :=
  .of_empty rfl (fun n => by simp [State.register, State.deviceReset, EntryLane.reset]) rfl (.inr rfl)
    (fun i => by simp [State.register, State.deviceReset, State.reset, Zone.reset, Zone.counts])
    fun i => .inr (by simp [State.register, State.deviceReset, State.reset, Zone.reset, Zone.counts])

theorem setLaneBody_register (a : LaneName × LaneSettings) (s : State) : (s.setLaneBody a).1.register = s.register := by
  unfold State.setLaneBody
  split
  · split
    · exact modEntry_register _ s rfl
    · rfl
  · split <;> rfl

theorem laneOpenBody_register (a : LaneName) (s : State) : (s.laneOpenBody a).1.register = s.register := by
  cases a with
  | entry n =>
    refine modEntry_register n s ?_
    unfold EntryLane.openUp
    split <;> rfl
  | exit n => rfl

theorem laneCloseBody_register (a : LaneName) (s : State) : (s.laneCloseBody a).1.register = s.register := by
  unfold State.laneCloseBody
  split
  · rfl
  · cases a with
    | entry n => exact modEntry_register n s rfl
    | exit n => rfl

theorem placeOrderBody_register (p : PortId) (a : PlaceOrderArgs) (s : State) : (s.placeOrderBody p a).1.register = s.register := by
  refine register_of_slots (placeOrderBody_onlyIn p a s) ?_ (by simp)
  unfold State.placeOrderBody
  split
  · rfl
  · split
    · rfl
    · simp only [State.placeOrder]
      rw [postCrossings_tickets]
      exact slots_modTicket (f := fun t => { t with openOrders := t.openOrders + 1 }) (fun _ => rfl) _ _

theorem endShowBody_register (i : ScreenId) (s : State) : (s.endShowBody i).1.register = s.register := by
  unfold State.endShowBody
  split
  · dsimp only
    rw [startAll_register, endShow_register]
  · rfl

theorem collectOrderBody_register (n : Nat) (s : State) : (s.collectOrderBody n).1.register = s.register := by
  unfold State.collectOrderBody
  split
  · rfl
  · split
    · dsimp only
      rw [startAll_register, removeOrders_register]
    · rfl

theorem cancelOrderBody_register (n : Nat) (s : State) : (s.cancelOrderBody n).1.register = s.register := by
  unfold State.cancelOrderBody
  split
  · rfl
  · dsimp only
    rw [startAll_register, removeOrders_register]

/-! ### Every step -/

theorem ranged_register {α : Type} {args : List Byte → Option α} {body : α → State → State × Reply} {payload : List Byte} {u : State}
    (hbody : ∀ a, args payload = some a → u.register.Keeps (body a u).1.register) : u.register.Keeps (ranged args body payload u).1.register := by
  unfold ranged
  split
  · exact .refl _
  · next a ha => exact hbody a ha

theorem answer_register (p : PortId) (code tag : Byte) (r : Reply) (s : State) : (s.answer p code tag r).register = s.register := by
  cases r <;> rfl

theorem Service.run_register {v : Service} {s t : State}
    (hbody : ∀ u : State, u.entry = s.entry → u.register.Keeps (v.body v.payload u).1.register) (h : v.run s = .next t) :
    s.register.Keeps t.register := by
  obtain e | ⟨q, e⟩ | ⟨q, st, e⟩ | ⟨q, e⟩ := serve_cases v.port v.code v.tag v.payload v.may v.lengthOk v.body s <;> cases e.symm.trans h
  · exact .refl _
  · exact .refl _
  · exact .of_eq (answer_register v.port v.code v.tag _ _)
  · refine .trans ?_ (.of_eq (answer_register v.port v.code v.tag _ _))
    exact register_keeps_after (hbody _ rfl) rfl

theorem service_register {c : Instr} {v : Service} (hv : service? c = some v) {u : State} (hlanes : u.laneLaws) :
    u.register.Keeps (v.body v.payload u).1.register := by
  have kept (hps : ∀ q ∈ registerParts, q ∉ Part.ports :: requestParts c) : u.register.Keeps (v.body v.payload u).1.register :=
    .of_eq (register_of_parts (service_onlyIn hv u) hps)
  cases c <;> cases hv
  case admitCar => exact ranged_register fun a _ => admitBody_register a u
  case depart => exact ranged_register fun a _ => departBody_register a u
  case passSet => exact ranged_register fun a ha => passSetBody_register (passSetArgs_range ha) u
  case setZone => exact ranged_register fun a _ => setZoneBody_register a u
  case entryOpen => exact ranged_register fun i _ => .of_eq (setEntry_register i true u)
  case entryClose => exact ranged_register fun i _ => .of_eq (setEntry_register i false u)
  case closeNight => exact closeNightBody_register [] hlanes
  case setLane => exact ranged_register fun a _ => .of_eq (setLaneBody_register a u)
  case laneOpen => exact ranged_register fun a _ => .of_eq (laneOpenBody_register a u)
  case laneClose => exact ranged_register fun a _ => .of_eq (laneCloseBody_register a u)
  case cancelAdmit => exact ranged_register fun a _ => cancelAdmitBody_register a u
  case laneReset => exact ranged_register fun a _ => laneResetBody_register a u
  case endShow => exact ranged_register fun i _ => .of_eq (endShowBody_register i u)
  case collectOrder => exact ranged_register fun n _ => .of_eq (collectOrderBody_register n u)
  case cancelOrder => exact ranged_register fun n _ => .of_eq (cancelOrderBody_register n u)
  case placeOrder => exact ranged_register fun a _ => .of_eq (placeOrderBody_register _ a u)
  all_goals exact kept (by simp [registerParts, requestParts, linkParts])

theorem next_register {s t u : State} (h : (.next u : Host.Outcome State Fault Refusal) = .next t) (hu : s.register.Keeps u.register) :
    s.register.Keeps t.register := by
  cases h
  exact hu

theorem event_register {c : Instr} (hc : service? c = none) {s t : State} (h : exec c s = .next t) : s.register.Keeps t.register := by
  have kept (hps : ∀ q ∈ registerParts, q ∉ eventParts c) : s.register.Keeps t.register := .of_eq (register_of_parts (event_onlyIn hc h) hps)
  cases c <;> first | exact absurd hc (Option.some_ne_none _) | skip
  case deviceReset e x => exact next_register h (deviceReset_register e x s)
  case nightClockAdvance => exact next_register h (.of_eq (advanceNight_register s))
  case entryLoopRise n => exact next_register h (entryRise_register n s)
  case entryLoopFall n us => exact next_register h (entryFall_register n us s)
  case entryStuckLimitExpiry n => exact next_register h (entryStuckExpiry_register n s)
  case passWindowExpiry n => exact next_register h (passWindowExpiry_register n s)
  case gapWindowExpiry n =>
    refine next_register h ?_
    simp only [State.gapWindowExpiry]
    split
    · rw [modEntry_register_clear n _ rfl]
      exact Register.clear_keeps n _
    · exact .refl _
  case longLampTimerExpiry n => exact next_register h (.of_eq (modEntry_register n s rfl))
  case framePulse i us => exact next_register h (.of_eq ((startAll_register _).trans (framePulse_register i us s)))
  all_goals exact kept (by simp [registerParts, eventParts, linkParts])

theorem exec_register {c : Instr} {s t : State} (hlanes : s.laneLaws) (h : exec c s = .next t) : s.register.Keeps t.register := by
  cases hv : service? c with
  | none => exact event_register hv h
  | some v =>
    rw [exec_of_service hv] at h
    refine Service.run_register (fun u hu => service_register hv ?_) h
    unfold State.laneLaws
    rw [hu]
    exact hlanes

theorem tick_register (s : State) : s.tick.register = s.register := by
  have hadmission : (fun n : LaneId => (s.tick.entry[n]).admission) = fun n => (s.entry[n]).admission := by
    funext n
    have hn : s.tick.entry[n] = (s.entry[n]).elapse 1 := by simp [State.tick]
    rw [hn, elapse_admission]
  simp only [State.register, hadmission]
  rfl

theorem step_register {s t : State} (hlanes : s.laneLaws) (h : step s = .next t) : s.register.Keeps t.register := by
  unfold step at h
  split at h
  · cases h
    exact .of_eq (tick_register s)
  · next c rest _ => exact register_keeps_after (exec_register (s := { s with pending := rest }) hlanes h) rfl

/-! ### The orders at an admission -/

/-- A new ticket, which no order names yet. -/
theorem Book.Naming.takeIn {b : Book} (h : b.Naming) {t : TicketPlace} (hfresh : ∀ u ∈ b.tickets, u.number ≠ t.number) (hopen : t.openOrders = 0) :
    ({ b with tickets := b.tickets ++ [t] } : Book).Naming where
  numbers := h.numbers
  length := h.length
  named := by
    intro p hp
    obtain ⟨u, hu, hrest⟩ := h.named p hp
    exact ⟨u, List.mem_append_left _ hu, hrest⟩
  counted := by
    intro u hu
    rcases List.mem_append.1 hu with hu | hu
    · exact h.counted u hu
    · rw [List.mem_singleton.1 hu, hopen]
      refine ⟨(List.countP_eq_zero.2 fun p hp he => ?_).symm, by omega⟩
      obtain ⟨v, hv, hn, -⟩ := h.named p hp
      exact hfresh v hv (hn.trans (beq_iff_eq.1 he))

theorem admitTicket_book (number : Nat) (a : AdmitArgs) (s : State) :
    (s.admitTicket number a).book = { s.book with tickets := s.book.tickets ++ [(a.ticket number).place] } := by
  have full (b : Bool) (i : ScreenId) (u : State) : (u.postFullRise b i).book = u.book := by
    unfold State.postFullRise
    split <;> rfl
  simp only [State.admitTicket]
  rw [full]
  simp only [State.book]
  cases hp : a.payment <;> simp [State.markUsed, State.modTickets, State.modZone, State.modTotals, State.modEntry]

theorem admitBody_naming (a : AdmitArgs) {s : State} (hlaw : s.register.Law) (h : s.book.Naming) : (s.admitBody a).1.book.Naming := by
  unfold State.admitBody
  split
  · exact h
  · next number _ hnext =>
    dsimp only
    rw [admitTicket_book]
    refine h.takeIn (fun u hu => ?_) rfl
    obtain ⟨t, ht, rfl⟩ := List.mem_map.1 hu
    exact Nat.ne_of_lt (hlaw.passed number hnext t.slot (List.mem_map_of_mem ht))
  · exact h

theorem exec_admit_naming {p : PortId} {tag : Byte} {b : List Byte} {s t : State} (hlaw : s.register.Law) (h : s.book.Naming)
    (he : exec (.admitCar p tag b) s = .next t) : t.book.Naming := by
  obtain e | ⟨q, e⟩ | ⟨q, st, e⟩ | ⟨q, e⟩ := serve_cases p 0x01 tag b rolesG admitLength (ranged admitArgs State.admitBody) s <;>
    cases e.symm.trans he
  · exact h
  · exact h
  · rw [State.refuseAtPort, answer_book]
    exact h
  · rw [answer_book]
    unfold ranged
    split
    · exact h
    · exact admitBody_naming _ (s := s.modPort p fun _ => q) hlaw h

/-- Settles O60: the register of the gate keeps its laws by every handling, and the book its naming, at an admission because its number is
new. -/
theorem gateLawsAreKept : Obligations.GateLawsAreKept := by
  unfold Obligations.GateLawsAreKept
  intro s t hlanes htickets h
  rw [ticketLaws_iff] at htickets
  have hregister := step_register hlanes h
  refine ⟨(ticketLaws_iff t).2 (hregister.law htickets), fun horders => ?_, fun hpasses => ?_⟩
  · rw [orderLaws_iff] at horders ⊢
    by_cases hadmit : ∀ p tag b, s.pending.head? ≠ some (.admitCar p tag b)
    · exact (step_keeps hadmit h).naming horders
    · simp only [ne_eq, not_forall, not_not] at hadmit
      obtain ⟨p, tag, b, hp⟩ := hadmit
      unfold step at h
      split at h
      · next hs => simp [hs] at hp
      · next c rest hs =>
        obtain rfl : c = .admitCar p tag b := by simpa [hs] using hp
        exact exec_admit_naming (s := { s with pending := rest }) htickets horders h
  · rw [passLaws_iff] at hpasses ⊢
    exact hregister.passes htickets hpasses

end Sys2Proof.Machine

/-! Posts: which events a handling can post, and what else it leaves of the ports. -/

namespace Sys2Proof.Machine

/-! ### Posts of given kinds -/

/-- The ports after a post (R180). -/
def postPorts (k : EventKind) (d : Detail) (v : Vector Port 3) : Vector Port 3 := #v[v[0].post k d, v[1].post k d, v[2].post k d]

/-- The ports change by posts of the kinds listed and by nothing else. -/
inductive PortPosts (ks : List EventKind) (v : Vector Port 3) : Vector Port 3 → Prop
  | refl : PortPosts ks v v
  | post {w : Vector Port 3} {k : EventKind} (d : Detail) (h : PortPosts ks v w) (hk : k ∈ ks) : PortPosts ks v (postPorts k d w)

/-- Between two states the ports change by posts of the kinds listed. -/
def Posts (ks : List EventKind) (s t : State) : Prop := PortPosts ks s.ports t.ports

theorem Posts.refl (ks : List EventKind) (s : State) : Posts ks s s := PortPosts.refl

theorem Posts.of_ports {ks : List EventKind} {s t : State} (h : t.ports = s.ports) : Posts ks s t := by
  rw [Posts, h]
  exact .refl

theorem PortPosts.trans {ks : List EventKind} {u v w : Vector Port 3} (h : PortPosts ks u v) (h' : PortPosts ks v w) : PortPosts ks u w := by
  induction h' with
  | refl => exact h
  | post d _ hk ih => exact .post d ih hk

theorem Posts.trans {ks : List EventKind} {s t u : State} (h : Posts ks s t) (h' : Posts ks t u) : Posts ks s u := PortPosts.trans h h'

theorem PortPosts.mono {ks ls : List EventKind} {v w : Vector Port 3} (h : PortPosts ks v w) (hsub : ks ⊆ ls) : PortPosts ls v w := by
  induction h with
  | refl => exact .refl
  | post d _ hk ih => exact .post d ih (hsub hk)

theorem Posts.mono {ks ls : List EventKind} {s t : State} (h : Posts ks s t) (hsub : ks ⊆ ls) : Posts ls s t := PortPosts.mono h hsub

/-- Posts that follow a change of other parts. -/
theorem Posts.after {ks : List EventKind} {s t u : State} (h : Posts ks u t) (hu : u.ports = s.ports) : Posts ks s t :=
  (Posts.of_ports hu).trans h

/-- A post at the end. -/
theorem Posts.thenPost {ks : List EventKind} {s t : State} (h : Posts ks s t) {k : EventKind} (d : Detail) (hk : k ∈ ks) :
    Posts ks s (t.post k d) := PortPosts.post d h hk

theorem post_posts {ks : List EventKind} {k : EventKind} (d : Detail) (s : State) (hk : k ∈ ks) : Posts ks s (s.post k d) :=
  (Posts.refl ks s).thenPost d hk

/-- Posts that follow a post. -/
theorem Posts.afterPost {ks : List EventKind} {s t u : State} {k : EventKind} {d : Detail} (h : Posts ks (u.post k d) t)
    (hu : u.ports = s.ports) (hk : k ∈ ks) : Posts ks s t := .after (.trans (post_posts d u hk) h) hu

theorem Posts.of_onlyIn {ks : List EventKind} {ps : List Part} {s t : State} (h : OnlyIn ps s t) (hp : Part.ports ∉ ps) :
    Posts ks s t := .of_ports (h .ports hp)

theorem posts_ite {ks : List EventKind} {c : Prop} [Decidable c] {s t u : State} (ht : c → Posts ks s t) (hu : ¬c → Posts ks s u) :
    Posts ks s (if c then t else u) := by
  split
  · next h => exact ht h
  · next h => exact hu h

theorem PortPosts.get {ks : List EventKind} {P : Port → Prop} {v w : Vector Port 3} (h : PortPosts ks v w) (p : PortId)
    (hpost : ∀ k ∈ ks, ∀ d (q : Port), P q → P (q.post k d)) (hv : P v[p]) : P w[p] := by
  induction h with
  | refl => exact hv
  | @post w k d _ hk ih =>
    have hget : (postPorts k d w)[p] = w[p].post k d := by
      fin_cases p <;> rfl
    rw [hget]
    exact hpost k hk d _ ih

/-- Posts change of a port only its flags and its attention line. -/
theorem Posts.port {ks : List EventKind} {s t : State} (h : Posts ks s t) (p : PortId) :
    ∃ flags attention, t.ports[p] = { s.ports[p] with flags, attention } :=
  PortPosts.get (P := fun q => ∃ flags attention, q = { s.ports[p] with flags, attention }) h p
    (fun k _ d q ⟨flags, attention, hq⟩ => ⟨upd q.flags k.index (Flag.post d), (q.post k d).attention, by
      rw [hq]
      rfl⟩) ⟨_, _, rfl⟩

/-- Posts leave the flags of every other kind. -/
theorem Posts.flag {ks : List EventKind} {s t : State} (h : Posts ks s t) {j : EventKind} (hj : j ∉ ks) (p : PortId) :
    (t.ports[p]).flag j = (s.ports[p]).flag j :=
  PortPosts.get (P := fun q => q.flag j = (s.ports[p]).flag j) h p
    (fun k hk d q hq => (upd_get_ne _ _ _ _ fun he => hj ((EventKind.index_inj he : k = j) ▸ hk)).trans hq) rfl

/-! ### Orders -/

theorem startAll_posts {ks : List EventKind} (s : State) : Posts ks s s.startAll := .of_onlyIn (startAll_onlyIn (ps := [.calls, .orders, .reader]) s (by simp)) (by simp)

theorem clearCalls_posts {ks : List EventKind} {s t : State} (h : t.clearCalls = s.clearCalls) : Posts ks s t := .of_onlyIn (onlyIn_of_clearCalls h) (by simp)

/-- The kinds of the crossings (R162). -/
def crossingKinds : List EventKind := [.kitchenHigh, .kitchenLow, .kitchenWork]

theorem postCrossings_posts (n : Nat) (s : State) : Posts crossingKinds s (s.postCrossings n) := by
  have crossed (u : State) (c : Prop) [Decidable c] (k : EventKind) (d : Detail) (hk : k ∈ crossingKinds) :
      Posts crossingKinds u (if c then u.post k d else u) := posts_ite (fun _ => post_posts d u hk) fun _ => .refl _ u
  simp only [State.postCrossings]
  exact (crossed s _ _ _ (by simp [crossingKinds])).trans <| (crossed _ _ _ _ (by simp [crossingKinds])).trans
    (crossed _ _ _ _ (by simp [crossingKinds]))

/-- A handling that has not raised the fill of the kitchen queue can post KITCHEN_LOW alone. -/
theorem postCrossings_posts_low {n : Nat} {s : State} (h : s.orders.fill ≤ n) : Posts [.kitchenLow] s (s.postCrossings n) := by
  have hhigh : ¬(n < s.orders.settings.high ∧ s.orders.settings.high ≤ s.orders.fill) := by omega
  have hwork : ¬(n = 0 ∧ 0 < s.orders.fill) := by omega
  simp only [State.postCrossings, if_neg hhigh]
  rw [if_neg (by simpa using hwork)]
  exact posts_ite (fun _ => post_posts _ s (by simp)) fun _ => .refl _ s

/-- The kinds that a removal with an outcome posts (R169 to R172). -/
def removalKinds : OrderOutcome → List EventKind
  | .collected => []
  | .expired => [.orderExpired]
  | .voided | .departed | .showEnded | .request => [.orderCancelled]

theorem removeOne_posts (out : OrderOutcome) (s : State) (o : Order) : Posts (removalKinds out) s (s.removeOne out o) := by
  simp only [State.removeOne]
  cases out <;> first | exact .of_ports rfl | exact PortPosts.post _ PortPosts.refl (by simp [removalKinds])

theorem serviceStep_ports (s : State) : s.serviceStep.ports = s.ports := by
  simp only [State.serviceStep]
  split
  · rfl
  · split <;> rfl

theorem serviceSteps_ports (k : Nat) (s : State) : (State.serviceSteps k s).ports = s.ports := by
  induction k generalizing s with
  | zero => rfl
  | succ k ih => exact (ih _).trans (serviceStep_ports s)

/-- A service step brings in one order at the most. -/
theorem serviceSteps_fill (k : Nat) (s : State) : (State.serviceSteps k s).orders.fill ≤ s.orders.fill + k := by
  induction k generalizing s with
  | zero => exact Nat.le_refl _
  | succ k ih =>
    have step : s.serviceStep.orders.fill ≤ s.orders.fill + 1 := by
      have hfill (u : State) : u.orders.fill = u.book.kitchen.length := rfl
      rcases serviceStep_cases s with ⟨he, -⟩ | ⟨o, -, -, he⟩
      · rw [he]
        omega
      · rw [hfill, hfill, he]
        simp [Book.join]
    have := ih s.serviceStep
    simp only [State.serviceSteps]
    omega

/-- The removal of orders posts what its outcome gives, and of the crossings KITCHEN_LOW alone. -/
theorem removeOrders_posts (out : OrderOutcome) (os : List Order) (s : State) :
    Posts (.kitchenLow :: removalKinds out) s (s.removeOrders out os) := by
  have removed (os : List Order) (u : State) : Posts (removalKinds out) u (os.foldl (State.removeOne out) u) := by
    induction os generalizing u with
    | nil => exact .refl _ u
    | cons o os ih => exact (removeOne_posts out u o).trans (ih _)
  have filled (i : ScreenId) (n : Nat) (u : State) : Posts (.kitchenLow :: removalKinds out) u (u.fillIfShrunk i n) :=
    posts_ite (fun _ => clearCalls_posts (owedFill_frame i u)) fun _ => .refl _ u
  simp only [State.removeOrders]
  refine Posts.trans ?_ (filled 3 _ _)
  refine Posts.trans ?_ (filled 2 _ _)
  refine Posts.trans ?_ (filled 1 _ _)
  refine Posts.trans ?_ (filled 0 _ _)
  refine Posts.trans ?_ ((postCrossings_posts_low ?_).mono (by simp))
  · refine ((removed os s).mono (by simp)).trans (.of_ports (serviceSteps_ports _ _))
  · have hle := serviceSteps_fill (s.orders.fill - (os.foldl (State.removeOne out) s).orders.fill) (os.foldl (State.removeOne out) s)
    have hshrunk : (os.foldl (State.removeOne out) s).orders.fill ≤ s.orders.fill := (removeAll_shrinks out os s).kitchen
    omega

theorem kitchenRelease_posts (i : ScreenId) (s : State) : Posts crossingKinds s (s.kitchenRelease i) := by
  unfold State.kitchenRelease
  split
  · exact .refl _ s
  · dsimp only
    refine Posts.after (postCrossings_posts _ _) ?_
    refine foldl_keeps (P := fun u => u.ports = s.ports) (fun o h => Eq.trans ?_ h) _ rfl
    unfold State.releaseOne
    split <;> rfl

theorem examineShelf_posts (s : State) : Posts [.kitchenLow, .orderExpired] s s.examineShelf := by
  refine foldl_keeps (P := fun u => Posts [.kitchenLow, .orderExpired] s u) (fun n h => h.trans ?_) _ (.refl _ s)
  unfold State.examineOrder
  split
  · exact .refl _ _
  · split
    · exact .refl _ _
    · split
      · exact clearCalls_posts (enqueueCall_frame _ _ _)
      · exact removeOrders_posts .expired _ _

theorem placeOrder_posts (o : Order) (s : State) : Posts crossingKinds s (s.placeOrder o) :=
  Posts.after (postCrossings_posts _ _) rfl

theorem takeOrder_posts (n : Nat) (s : State) : Posts crossingKinds s (s.takeOrder n) :=
  Posts.after (postCrossings_posts _ _) (serviceStep_ports _)

/-! ### Admissions and lanes -/

theorem dropTicket_ports (t : Ticket) (s : State) : (s.dropTicket t).ports = s.ports := by
  simp only [State.dropTicket]
  split <;> rfl

theorem void_posts (n : Nat) (s : State) : Posts [.kitchenLow, .orderCancelled] s (s.void n) := by
  unfold State.void
  split
  · exact .refl _ s
  · exact (removeOrders_posts .voided _ s).trans (.of_ports (dropTicket_ports _ _))

theorem departTicket_posts (t : Ticket) (cls : VehicleClass) (s : State) : Posts [.kitchenLow, .orderCancelled] s (s.departTicket t cls) :=
  (removeOrders_posts .departed _ s).trans (.of_ports (dropTicket_ports _ _))

theorem commitAdmission_ports (n : LaneId) (cls : VehicleClass) (s : State) : (s.commitAdmission n cls).ports = s.ports := by
  unfold State.commitAdmission
  split
  · rfl
  · exact commit_onlyIn _ cls s .ports (by simp)

theorem postFullRise_posts (b : Bool) (i : ScreenId) (s : State) : Posts [.zoneFull] s (s.postFullRise b i) :=
  posts_ite (fun _ => post_posts _ s (by simp)) fun _ => .refl _ s

theorem markUsed_ports (p : Payment) (s : State) : (s.markUsed p).ports = s.ports := by cases p <;> rfl

theorem admitTicket_posts (number : Nat) (a : AdmitArgs) (s : State) : Posts [.zoneFull] s (s.admitTicket number a) :=
  Posts.after (postFullRise_posts _ _ _) (markUsed_ports a.payment _)

theorem entryRise_posts (n : LaneId) (s : State) : Posts [.tailgate, .unadmittedPass] s (s.entryRise n) := by
  simp only [State.entryRise]
  split
  · exact .refl _ s
  · split
    · exact .of_ports rfl
    · split <;> exact PortPosts.post _ PortPosts.refl (by simp)
    · exact PortPosts.post _ PortPosts.refl (by simp)
    · exact PortPosts.post _ PortPosts.refl (by simp)
    · exact .of_ports rfl
    · exact .of_ports rfl

theorem endPassage_posts (n : LaneId) (s : State) : Posts [.longVehicle] s (s.endPassage n) := by
  simp only [State.endPassage]
  split
  · exact Posts.thenPost (.of_ports (commitAdmission_ports n _ s)) _ (by simp)
  · exact .of_ports (commitAdmission_ports n _ s)

theorem entryFall_posts (n : LaneId) (us : Nat) (s : State) : Posts [.longVehicle] s (s.entryFall n us) := by
  simp only [State.entryFall]
  split
  · exact .refl _ s
  · split
    · split
      · exact Posts.after (endPassage_posts n _) rfl
      · exact .of_ports rfl
    all_goals exact .of_ports rfl

theorem passWindowExpiry_posts (n : LaneId) (s : State) : Posts [.kitchenLow, .orderCancelled, .admitTimeout] s (s.passWindowExpiry n) := by
  simp only [State.passWindowExpiry]
  split
  · refine Posts.thenPost ?_ _ (by simp)
    split
    · exact (void_posts _ s).mono (by simp)
    · exact .of_ports rfl
  · exact .refl _ s

theorem entryStuckExpiry_posts (n : LaneId) (s : State) : Posts [.loopStuck] s (s.entryStuckExpiry n) := by
  simp only [State.entryStuckExpiry]
  split
  · refine Posts.thenPost ?_ _ (by simp)
    split
    · exact .of_ports (commitAdmission_ports n _ s)
    · exact .of_ports rfl
  · exact .refl _ s

theorem exitStuckExpiry_posts (n : ExitId) (s : State) : Posts [.loopStuck] s (s.exitStuckExpiry n) := by
  simp only [State.exitStuckExpiry]
  split
  · exact Posts.thenPost (.of_ports rfl) _ (by simp)
  · exact .refl _ s

/-! ### Shows -/

theorem holdShow_posts (i : ScreenId) (r : HoldReason) (s : State) : Posts [.showHeld] s (s.holdShow i r) := Posts.thenPost (.of_ports rfl) _ (by simp)

theorem endShow_posts (i : ScreenId) (s : State) : Posts [.kitchenLow, .orderCancelled, .showEnded] s (s.endShow i) := by
  unfold State.endShow State.cancelHeld
  refine Posts.thenPost ?_ _ (by simp)
  exact Posts.after ((removeOrders_posts .showEnded _ _).mono (by simp [removalKinds])) rfl

/-- The kinds that the cues of a pass can post. -/
def cueKinds : List EventKind := [.kitchenLow, .orderCancelled, .showEnded, .showHeld, .cueMark, .kitchenHigh, .kitchenWork]

theorem runAction_posts (i : ScreenId) (a : CueAction) (s : State) : Posts cueKinds s (s.runAction i a) := by
  unfold State.runAction
  cases a with
  | test src m f => cases f <;> exact .of_ports rfl
  | hold => exact posts_ite (fun _ => (holdShow_posts i .cue s).mono (by simp [cueKinds])) fun _ => .refl _ s
  | endShow => exact posts_ite (fun _ => (endShow_posts i s).mono (by simp [cueKinds])) fun _ => .refl _ s
  | kitchenRelease => exact (kitchenRelease_posts i s).mono (by simp [cueKinds, crossingKinds])
  | callsOpen => exact clearCalls_posts (openCalls_frame i s)
  | mark code => exact post_posts _ s (by simp [cueKinds])
  | entryOpen | entryClose | ordersOpen | ordersClose | callsClose | lamp => exact .of_ports rfl

theorem passOver_ports (n : Nat) (i : ScreenId) (p : Pos) (s : State) : (State.passOver n i p s).ports = s.ports := by
  induction n generalizing s with
  | zero => rfl
  | succ n ih =>
    unfold State.passOver
    split
    · split
      · exact (ih _).trans rfl
      · rfl
    · rfl

theorem passFor_posts (n : Nat) (i : ScreenId) (p : Pos) (s : State) : Posts cueKinds s (State.passFor n i p s) := by
  induction n generalizing s with
  | zero => exact .refl _ s
  | succ n ih =>
    unfold State.passFor
    dsimp only
    split
    · exact .refl _ s
    · next c _ =>
      have acted (k : Nat) : Posts cueKinds s (((s.passCursor i).runAction i c.action).setOutcome i k .executed) :=
        Posts.trans (t := s.passCursor i) (.of_ports rfl) ((runAction_posts i c.action _).trans (.of_ports rfl))
      split
      · split
        · split
          · exact (acted _).trans (.of_ports (passOver_ports n i p _))
          · exact (acted _).trans (ih _)
        · exact Posts.after (ih _) rfl
      · exact .refl _ s

/-- The kinds that a frame pulse can post. -/
def pulseKinds : List EventKind := .clockLimit :: .frameResumed :: cueKinds

theorem advanceClock_posts (i : ScreenId) (s : State) : Posts pulseKinds s (s.advanceClock i) := by
  unfold State.advanceClock
  split
  · unfold State.clockLimit
    split
    · exact .refl _ s
    · exact Posts.thenPost (.of_ports rfl) _ (by simp [pulseKinds])
  · exact Posts.after ((passFor_posts _ i _ _).mono (by simp [pulseKinds])) rfl

theorem acceptedPulse_posts (i : ScreenId) (s : State) : Posts pulseKinds s (s.acceptedPulse i) := by
  simp only [State.acceptedPulse]
  split
  · exact .refl _ s
  · exact .refl _ s
  · split
    · exact Posts.after ((passFor_posts _ i _ _).mono (by simp [pulseKinds])) rfl
    · exact .refl _ s
  · exact Posts.after (advanceClock_posts i _) rfl
  · split <;> exact Posts.after (advanceClock_posts i _) rfl
  · unfold State.recoverShow
    exact Posts.afterPost (advanceClock_posts i _) rfl (by simp [pulseKinds])

theorem framePulse_posts (i : ScreenId) (us : Nat) (s : State) : Posts pulseKinds s (s.framePulse i us) := by
  simp only [State.framePulse]
  split
  · exact .of_ports rfl
  · exact Posts.after (acceptedPulse_posts i _) rfl

theorem stallExpiry_posts (i : ScreenId) (s : State) : Posts [.frameLost] s (s.stallExpiry i) := by
  simp only [State.stallExpiry]
  split
  · exact .refl _ s
  · split <;> first | exact PortPosts.post _ PortPosts.refl (by simp) | exact .of_ports rfl

theorem blockArrival_posts (i : ScreenId) (b : List Byte) (s : State) : Posts [.audioOverrun] s (s.blockArrival i b) := by
  simp only [State.blockArrival]
  split
  · exact PortPosts.post _ PortPosts.refl (by simp)
  · exact .of_ports rfl

theorem outputInstant_posts (i : ScreenId) (us : Nat) (s : State) : Posts [.soundResync] s (s.outputInstant i us) := by
  unfold State.outputInstant
  refine Posts.trans ?_ (clearCalls_posts (mixInstant_frame i _ _))
  simp only [State.alignInstant]
  split
  · exact PortPosts.post _ PortPosts.refl (by simp)
  · exact .of_ports rfl

/-! ### Exciter links -/

theorem deriveSound_posts (i : ScreenId) (s : State) : Posts [.showHeld] s (s.deriveSound i) := by
  simp only [State.deriveSound]
  refine posts_ite (fun _ => ?_) fun _ => posts_ite (fun _ => ?_) fun _ => .of_ports rfl
  · refine Posts.trans ?_ (clearCalls_posts ((serveReads_frame _).trans (cutCall_frame i _)))
    unfold State.soundLossHold
    split
    · exact PortPosts.post _ PortPosts.refl (by simp)
    · exact .of_ports rfl
  · exact Posts.after (clearCalls_posts ((serveReads_frame _).trans ((startScreen_frame _ _).trans (owedFill_frame i _)))) rfl

theorem loseLink_posts (i : ScreenId) (s : State) : Posts [.soundLost, .showHeld] s (s.loseLink i) :=
  Posts.afterPost (ks := [.soundLost, .showHeld]) ((deriveSound_posts i _).mono (by simp)) rfl (by simp)

theorem cycle_posts (i : ScreenId) (s : State) : Posts [.soundLost, .showHeld] s (s.cycle i) := by
  simp only [State.cycle]
  split
  · exact (loseLink_posts i s).trans (.of_ports rfl)
  · exact .of_ports rfl

theorem ackExpiry_posts (i : ScreenId) (s : State) : Posts [.soundLost, .showHeld] s (s.ackExpiry i) := by
  simp only [State.ackExpiry]
  split
  · exact .refl _ s
  · split
    · split
      · exact .of_ports rfl
      · exact Posts.after (loseLink_posts i _) rfl
    · exact .of_ports rfl

/-- The kinds that a message of the exciter can post. -/
def soundKinds : List EventKind := [.soundLost, .soundRestored, .showHeld]

theorem takeStatus_posts (i : ScreenId) (t : ExciterStatus) (s : State) : Posts soundKinds s (s.takeStatus i t) := by
  simp only [State.takeStatus]
  split
  · refine Posts.trans ?_ ((deriveSound_posts i _).mono (by simp [soundKinds]))
    unfold State.postStatusChange
    split
    · exact PortPosts.post _ PortPosts.refl (by simp [soundKinds])
    · split
      · exact PortPosts.post _ PortPosts.refl (by simp [soundKinds])
      · exact .of_ports rfl
  · exact .of_ports rfl

theorem takeAck_posts (i : ScreenId) (n : Byte) (t : ExciterStatus) (s : State) : Posts soundKinds s (s.takeAck i n t) := by
  unfold State.takeAck
  split
  · simp only [State.validAck]
    split
    · exact Posts.after (takeStatus_posts i t _) rfl
    · exact Posts.after ((deriveSound_posts i _).mono (by simp [soundKinds])) rfl
    · exact Posts.afterPost (ks := soundKinds) ((deriveSound_posts i _).mono (by simp [soundKinds])) rfl (by simp [soundKinds])
  · exact .of_ports rfl

theorem takeStatusMessage_posts (i : ScreenId) (n : Byte) (t : ExciterStatus) (s : State) : Posts soundKinds s (s.takeStatusMessage i n t) :=
  Posts.after (takeStatus_posts i t _) rfl

/-! ### The handling of requests -/

theorem mem_eventKinds (k : EventKind) : k ∈ eventKinds := by
  cases k <;> decide

theorem Posts.any {ks : List EventKind} {s t : State} (h : Posts ks s t) : Posts eventKinds s t := h.mono fun k _ => mem_eventKinds k

theorem Posts.thenPorts {ks : List EventKind} {s t u : State} (h : Posts ks s t) (hu : u.ports = t.ports) : Posts ks s u :=
  h.trans (.of_ports hu)

theorem Posts.startAll {ks : List EventKind} {s t : State} (h : Posts ks s t) : Posts ks s t.startAll := h.trans (startAll_posts t)

theorem ranged_posts {α : Type} {args : List Byte → Option α} {body : α → State → State × Reply}
    (hbody : ∀ a u, Posts eventKinds u (body a u).1) (payload : List Byte) (u : State) :
    Posts eventKinds u (ranged args body payload u).1 := by
  unfold ranged
  split
  · exact .refl _ u
  · exact hbody _ u

theorem admitBody_posts (a : AdmitArgs) (s : State) : Posts eventKinds s (s.admitBody a).1 := by
  unfold State.admitBody
  split
  · exact .refl _ s
  · exact (admitTicket_posts _ a s).any
  · exact .refl _ s

theorem departBody_posts (n : Nat) (s : State) : Posts eventKinds s (s.departBody n).1 := by
  unfold State.departBody
  split
  · exact .refl _ s
  · split
    · exact .refl _ s
    · dsimp only
      exact Posts.startAll (departTicket_posts _ _ s).any

theorem setZoneBody_posts (a : ScreenId × Nat) (s : State) : Posts eventKinds s (s.setZoneBody a).1 := by
  simp only [State.setZoneBody]
  split
  · exact .refl _ s
  · split
    · exact .refl _ s
    · exact .after (postFullRise_posts _ _ _).any rfl

theorem resetEntry_posts (n : LaneId) (s : State) : Posts [.kitchenLow, .orderCancelled] s (s.resetEntry n) := by
  simp only [State.resetEntry]
  split
  · exact (void_posts _ s).trans (.of_ports rfl)
  · exact .of_ports (commitAdmission_ports n _ s)
  · exact .of_ports rfl

theorem laneResetBody_posts (a : LaneName) (s : State) : Posts eventKinds s (s.laneResetBody a).1 := by
  cases a with
  | entry n =>
    dsimp only [State.laneResetBody]
    exact Posts.startAll (resetEntry_posts n s).any
  | exit n => exact .of_ports rfl

theorem cancelAdmitBody_posts (n : Nat) (s : State) : Posts eventKinds s (s.cancelAdmitBody n).1 := by
  unfold State.cancelAdmitBody
  split
  · exact .refl _ s
  · split
    · exact .refl _ s
    · split
      · dsimp only
        exact Posts.startAll ((void_posts n s).any.thenPorts rfl)
      · exact .refl _ s

theorem holdShowBody_posts (i : ScreenId) (s : State) : Posts eventKinds s (s.holdShowBody i).1 := by
  unfold State.holdShowBody
  split
  · exact (holdShow_posts i .request s).any
  · exact (holdShow_posts i .request s).any
  all_goals exact .refl _ s

theorem endShowBody_posts (i : ScreenId) (s : State) : Posts eventKinds s (s.endShowBody i).1 := by
  unfold State.endShowBody
  split
  · dsimp only
    exact Posts.startAll (endShow_posts i s).any
  · exact .refl _ s

theorem setExciter_posts (heard : List LineInput) (i : ScreenId) (t : ExciterSettings) (s : State) :
    Posts [.soundLost, .showHeld] s (s.setExciter heard i t) := by
  unfold State.setExciter
  refine posts_ite (fun _ => .refl _ s) fun _ => ?_
  exact Posts.after (cycle_posts i _) rfl

theorem placeOrderBody_posts (p : PortId) (a : PlaceOrderArgs) (s : State) : Posts eventKinds s (s.placeOrderBody p a).1 := by
  unfold State.placeOrderBody
  split
  · exact .refl _ s
  · split
    · exact .refl _ s
    · exact (placeOrder_posts _ s).any

theorem takeOrderBody_posts (b : List Byte) (s : State) : Posts eventKinds s (s.takeOrderBody b).1 := by
  unfold State.takeOrderBody
  split
  · exact .refl _ s
  · split
    · exact (takeOrder_posts _ s).any
    · exact .refl _ s

theorem collectOrderBody_posts (n : Nat) (s : State) : Posts eventKinds s (s.collectOrderBody n).1 := by
  unfold State.collectOrderBody
  split
  · exact .refl _ s
  · split
    · dsimp only
      exact Posts.startAll (removeOrders_posts _ _ s).any
    · exact .refl _ s

theorem cancelOrderBody_posts (n : Nat) (s : State) : Posts eventKinds s (s.cancelOrderBody n).1 := by
  unfold State.cancelOrderBody
  split
  · exact .refl _ s
  · dsimp only
    exact Posts.startAll (removeOrders_posts _ _ s).any

/-- The requests whose handling changes the flags or the mask of their port by itself (R181 to R183). -/
def Service.atFlags (v : Service) : Prop := v.code = 0x36#8 ∨ v.code = 0x37#8 ∨ v.code = 0x38#8

/-- Every other request changes the ports by posts alone. -/
theorem service_posts {c : Instr} {v : Service} (hv : service? c = some v) (hf : ¬v.atFlags) (u : State) :
    Posts eventKinds u (v.body v.payload u).1 := by
  cases c <;> cases hv
  case admitCar => exact ranged_posts admitBody_posts _ u
  case depart => exact ranged_posts departBody_posts _ u
  case setZone => exact ranged_posts setZoneBody_posts _ u
  case closeNight => exact .of_onlyIn (closeNightBody_onlyIn [] u) (by simp)
  case setLane => exact ranged_posts (fun a u => .of_onlyIn (setLaneBody_onlyIn a u) (by simp)) _ u
  case laneOpen => exact ranged_posts (fun a u => .of_onlyIn (laneOpenBody_onlyIn a u) (by simp)) _ u
  case laneClose => exact ranged_posts (fun a u => .of_onlyIn (laneCloseBody_onlyIn a u) (by simp)) _ u
  case cancelAdmit => exact ranged_posts cancelAdmitBody_posts _ u
  case laneReset => exact ranged_posts laneResetBody_posts _ u
  case setScreen => exact ranged_posts (fun a u => .of_onlyIn (setScreenBody_onlyIn a u) (by simp)) _ u
  case armShow => exact ranged_posts (fun a u => .of_onlyIn (armShowBody_onlyIn a u) (by simp)) _ u
  case startShow => exact ranged_posts (fun a u => .of_onlyIn (startShowBody_onlyIn a u) (by simp)) _ u
  case holdShow => exact ranged_posts holdShowBody_posts _ u
  case resumeShow => exact ranged_posts (fun a u => .of_onlyIn (resumeShowBody_onlyIn a u) (by simp)) _ u
  case endShow => exact ranged_posts endShowBody_posts _ u
  case screenReset => exact ranged_posts (fun a u => .of_onlyIn (screenReset_onlyIn a u) (by simp)) _ u
  case loadCue => exact ranged_posts (fun a u => .of_onlyIn (loadCueBody_onlyIn a u) (by simp)) _ u
  case deleteCue => exact ranged_posts (fun a u => .of_onlyIn (deleteCueBody_onlyIn a u) (by simp)) _ u
  case clearCues => exact ranged_posts (fun a u => .of_onlyIn (clearCuesBody_onlyIn a u) (by simp)) _ u
  case clipRescan => exact .of_onlyIn (clipRescanBody_onlyIn _ _ [] u) (by simp)
  case announce => exact ranged_posts (fun a u => .of_onlyIn (announceBody_onlyIn a u) (by simp)) _ u
  case callsOpen => exact ranged_posts (fun a u => clearCalls_posts (openCalls_frame a u)) _ u
  case setExciter => exact ranged_posts (fun a u => (setExciter_posts _ a.1 a.2 u).any) _ u
  case takeOrder => exact takeOrderBody_posts [] u
  case markReady => exact ranged_posts (fun a u => .of_onlyIn (markReadyBody_onlyIn a u) (by simp)) _ u
  case collectOrder => exact ranged_posts collectOrderBody_posts _ u
  case cancelOrder => exact ranged_posts cancelOrderBody_posts _ u
  case placeOrder => exact ranged_posts (placeOrderBody_posts _) _ u
  case clearEvents | setAttention | readEvents => exact absurd hf (by simp [Service.atFlags])
  case ticketQuery =>
    refine ranged_posts (fun a u => ?_) _ u
    unfold State.ticketQueryBody
    split <;> exact .refl _ u
  case orderQuery =>
    refine ranged_posts (fun a u => ?_) _ u
    unfold State.orderQueryBody
    split <;> exact .refl _ u
  case zoneReport | nightReport | gateReport | clipQuery | kitchenReport | lampQuery => exact .refl _ u
  case passSet | entryOpen | entryClose | setSound | setCalls | callsClose | ordersOpen | ordersClose | setKitchen | setLamp =>
    exact ranged_posts (fun a u => .of_ports rfl) _ u
  case passQuery | screenQuery | cueQuery | intakeQuery | alignQuery | callQuery | exciterQuery | portQuery =>
    exact ranged_posts (fun a u => .refl _ u) _ u

end Sys2Proof.Machine

/-! The laws of the signals: the ports with their flags, lines and FIFOs, and SOUND_UP (O59). -/

namespace Sys2Proof.Machine

/-! ### Flags and attention -/

theorem EventKind.index_surjective (n : Fin 21) : ∃ k : EventKind, k.index = n :=
  ⟨eventKinds[n]'(by simp [eventKinds]), by fin_cases n <;> rfl⟩

/-- The law of a port's flags and of its attention line (R179, R184). -/
def Port.Noted (q : Port) : Prop := q.attentionLaw ∧ ∀ n : Fin 21, (q.flags[n]).law

theorem Port.noted_iff (q : Port) : q.Noted ↔ q.attentionLaw ∧ ∀ k : EventKind, (q.flag k).law :=
  and_congr_right fun _ => ⟨fun h k => h k.index, fun h n => by
    obtain ⟨k, rfl⟩ := EventKind.index_surjective n
    exact h k⟩

theorem Port.wantsAttention_iff (q : Port) : q.wantsAttention = true ↔ ∃ k : EventKind, q.mask[k.cls] = true ∧ (q.flag k).state ≠ .clear := by
  simp [Port.wantsAttention, mem_eventKinds]

/-- An examined line agrees with its flags (R184). -/
theorem Port.examine_noted {q : Port} (h : ∀ n : Fin 21, (q.flags[n]).law) : q.examine.Noted := ⟨q.wantsAttention_iff, h⟩

theorem Flag.none_law : Flag.none.law := by simp [Flag.law, Flag.none]

theorem Flag.law_post (d : Detail) (f : Flag) : (f.post d).law := by
  simp [Flag.law, Flag.post, satAdd]

theorem Flag.law_read {f : Flag} (h : f.law) : f.read.law := by
  unfold Flag.read
  split
  · next hp => simpa [Flag.law, hp] using h
  · exact h

theorem Flag.read_state_clear (f : Flag) : f.read.state = .clear ↔ f.state = .clear := by
  unfold Flag.read
  split
  · next hp => simp [hp]
  · exact Iff.rfl

theorem Flag.law_clear {f : Flag} (h : f.law) : f.clear.law := by
  unfold Flag.clear
  split
  · exact Flag.none_law
  · exact h

/-! ### One port -/

/-- A handling keeps the laws of one port. -/
structure Port.Keeps (q r : Port) : Prop where
  noted : q.Noted → r.Noted
  fifo : q.fifoLaw → r.fifoLaw

theorem Port.Keeps.refl (q : Port) : q.Keeps q := ⟨id, id⟩

theorem Port.Keeps.trans {q r w : Port} (h : q.Keeps r) (h' : r.Keeps w) : q.Keeps w := ⟨h'.noted ∘ h.noted, h'.fifo ∘ h.fifo⟩

theorem Port.noted_of_same {q r : Port} (hf : r.flags = q.flags) (hm : r.mask = q.mask) (ha : r.attention = q.attention) (h : q.Noted) :
    r.Noted := by
  simpa only [Port.Noted, Port.attentionLaw, Port.flag, hf, hm, ha] using h

/-- What the law of a port's flags and line reads. -/
def Port.notes (q : Port) : Vector Flag 21 × Vector Bool 4 × Bool := (q.flags, q.mask, q.attention)

/-- A handling that leaves flags, mask and line as they are keeps their law. -/
theorem Port.Keeps.of_fifo {q r : Port} (hn : r.notes = q.notes) (h : q.fifoLaw → r.fifoLaw) : q.Keeps r := by
  simp only [Port.notes, Prod.mk.injEq] at hn
  obtain ⟨hf, hm, ha⟩ := hn
  exact ⟨noted_of_same hf hm ha, h⟩

/-- What neither a law's flags and lines nor its FIFO speaks of. -/
theorem Port.Keeps.of_same {q r : Port} (h : (r.notes, r.rx, r.holdOut) = (q.notes, q.rx, q.holdOut)) : q.Keeps r := by
  obtain ⟨hn, hx, ho⟩ := by simpa only [Prod.mk.injEq] using h
  exact .of_fifo hn (by simp only [Port.fifoLaw, Port.rxFill, hx, ho, imp_self])

theorem Port.post_keeps (k : EventKind) (d : Detail) (q : Port) : q.Keeps (q.post k d) where
  noted h := Port.examine_noted (upd_forall (P := Flag.law) h.2 fun _ => Flag.law_post d _)
  fifo h := h

theorem Port.readFlags_keeps (q : Port) : q.Keeps q.readFlags where
  noted h := by
    have hread (n : Fin 21) : (q.readFlags).flags[n] = (q.flags[n]).read := by simp [Port.readFlags]
    refine ⟨?_, fun n => hread n ▸ Flag.law_read (h.2 n)⟩
    have hflag (k : EventKind) : ((q.readFlags).flag k).state = .clear ↔ (q.flag k).state = .clear := by
      rw [Port.flag, hread, Flag.read_state_clear]
      rfl
    simp only [Port.attentionLaw, ne_eq, hflag]
    exact h.1
  fifo h := h

theorem Port.clearFlags_keeps (kinds : List EventKind) (q : Port) : q.Keeps (q.clearFlags kinds) where
  noted h := by
    refine Port.examine_noted ?_
    exact List.foldlRecOn (motive := fun v : Vector Flag 21 => ∀ n : Fin 21, v[n].law) kinds _ h.2
      fun _ hv _ _ => upd_forall hv Flag.law_clear
  fifo h := h

theorem Port.setMask_keeps (m : Vector Bool 4) (q : Port) : q.Keeps { q with mask := m }.examine where
  noted h := Port.examine_noted (q := { q with mask := m }) h.2
  fifo h := h

theorem Port.reset_keeps (holdIn : Bool) (q : Port) : q.Keeps (Port.reset holdIn) where
  noted _ := by
    have hnone (n : Fin 21) : ((Port.reset holdIn).flags)[n] = Flag.none := by simp [Port.reset]
    refine ⟨?_, fun n => (hnone n).symm ▸ Flag.none_law⟩
    simp [Port.attentionLaw, Port.flag, hnone, Flag.none]
    simp [Port.reset]
  fifo _ := by simp [Port.fifoLaw, Port.rxFill, Port.reset]

/-! ### The receive FIFO -/

theorem Port.placeMark_keeps (q : Port) : q.Keeps q.placeMark :=
  .of_fifo (by rfl) fun h => by simpa [Port.fifoLaw, Port.rxFill, Port.placeMark, RxItem.isByte] using h

theorem Port.placeByte_keeps (b : Byte) {q : Port} (hroom : q.rxFill < 256) : q.Keeps (q.placeByte b) := by
  refine .of_fifo (by rfl) fun _ => ⟨?_, fun h => ?_⟩
  · simp only [Port.rxFill, Port.placeByte, List.countP_append] at hroom ⊢
    simpa [RxItem.isByte] using hroom
  · exact (Bool.or_eq_true _ _).mpr (.inr (decide_eq_true h))

theorem Port.receive_keeps (b : Byte) (stopHigh : Bool) (q : Port) : q.Keeps (q.receive b stopHigh) := by
  have started : q.Keeps { q with gapTimer := some 5 } := .of_same (by rfl)
  unfold Port.receive
  dsimp only
  split
  · exact .trans (.of_same (by rfl)) (Port.placeMark_keeps _)
  · split
    · exact .of_same (by rfl)
    · next hroom => exact started.trans (Port.placeByte_keeps b (Nat.lt_of_not_le hroom))

theorem Port.gapExpiry_keeps (q : Port) : q.Keeps q.gapExpiry := by
  unfold Port.gapExpiry
  split
  · exact .refl q
  · split
    · exact .of_same (by rfl)
    · exact .trans (.of_same (by rfl)) (Port.placeMark_keeps _)

theorem Port.completeFrame_keeps (len : Nat) (got : List Byte) (q : Port) : q.Keeps (q.completeFrame len got) := by
  unfold Port.completeFrame
  dsimp only
  split
  · split <;> exact .of_same (by rfl)
  · exact .of_same (by rfl)

theorem Port.parseByte_keeps (b : Byte) (q : Port) : q.Keeps (q.parseByte b) := by
  unfold Port.parseByte
  split
  · split <;> exact .of_same (by rfl)
  · split <;> exact .of_same (by rfl)
  · split
    · exact Port.completeFrame_keeps _ _ q
    · exact .of_same (by rfl)

theorem Port.parseMark_keeps (q : Port) : q.Keeps q.parseMark := by
  unfold Port.parseMark
  split
  · exact .refl q
  all_goals exact .of_same (by rfl)

/-- A byte taken: hold-out is released only at a fill of 64 or less (R189). -/
theorem Port.takeByte_keeps {b : Byte} {rest : List RxItem} {q : Port} (h : q.rx = .byte b :: rest) :
    q.Keeps { q with rx := rest }.releaseHoldOut := by
  refine .of_fifo (by rfl) fun ⟨hle, hout⟩ => ?_
  simp only [Port.rxFill, h, List.countP_cons, RxItem.isByte, if_true] at hle hout
  refine ⟨?_, fun h192 => ?_⟩
  · simp only [Port.rxFill, Port.releaseHoldOut]
    omega
  · simp only [Port.rxFill, Port.releaseHoldOut] at h192
    exact (Bool.and_eq_true _ _).mpr ⟨hout (by omega), decide_eq_true (Nat.lt_of_lt_of_le (by decide) h192)⟩

theorem Port.parserTake_keeps (q : Port) : q.Keeps q.parserTake := by
  unfold Port.parserTake
  split
  · next b rest _ hx => exact (Port.takeByte_keeps hx).trans (Port.parseByte_keeps b _)
  · next rest _ hx =>
    refine .trans (.of_fifo (by rfl) fun h => ?_) (Port.parseMark_keeps _)
    simpa [Port.fifoLaw, Port.rxFill, hx, RxItem.isByte] using h
  · exact .refl q

theorem Port.endStartupHold_keeps (q : Port) : q.Keeps q.endStartupHold :=
  .of_fifo (by rfl) fun h => ⟨h.1, fun h192 => decide_eq_true h192⟩

theorem Port.byteSent_keeps (q : Port) : q.Keeps q.byteSent := by
  unfold Port.byteSent
  split
  · exact .of_same (by rfl)
  · exact .refl q

/-! ### The three ports -/

/-- A handling keeps the laws of every port. -/
def PortsKeep (s t : State) : Prop := ∀ p : PortId, (s.ports[p]).Keeps t.ports[p]

theorem PortsKeep.refl (s : State) : PortsKeep s s := fun _ => .refl _

theorem PortsKeep.trans {s t u : State} (h : PortsKeep s t) (h' : PortsKeep t u) : PortsKeep s u := fun p => (h p).trans (h' p)

theorem PortsKeep.of_ports {s t : State} (h : t.ports = s.ports) : PortsKeep s t := fun p => by
  rw [h]
  exact .refl _

theorem modPort_portsKeep (p : PortId) {f : Port → Port} {s : State} (h : (s.ports[p]).Keeps (f s.ports[p])) : PortsKeep s (s.modPort p f) := by
  intro n
  simp only [State.modPort_ports, upd_get]
  split
  · next e => exact e ▸ h
  · exact .refl _

theorem Posts.portsKeep {ks : List EventKind} {s t : State} (h : Posts ks s t) : PortsKeep s t := fun p =>
  PortPosts.get (P := fun q => (s.ports[p]).Keeps q) h p (fun k _ d _ hq => hq.trans (Port.post_keeps k d _)) (.refl _)

theorem answer_portsKeep (p : PortId) (code tag : Byte) (r : Reply) (s : State) : PortsKeep s (s.answer p code tag r) := by
  cases r with
  | ok | refuse => exact modPort_portsKeep p (.of_same (by rfl))
  | deferred => exact .refl s

theorem refuseAtPort_portsKeep (p : PortId) (code tag : Byte) (st : Status) (s : State) : PortsKeep s (s.refuseAtPort p code tag st) :=
  (modPort_portsKeep p (.of_same (by rfl))).trans (answer_portsKeep p code tag _ _)

/-! ### Requests -/

/-- `serve` with the port that the offer leaves. -/
theorem serve_offered (p : PortId) (code tag : Byte) (payload : List Byte) (may : Role → Bool) (lengthOk : List Byte → Bool)
    (body : List Byte → State → State × Reply) (s : State) :
    serve p code tag payload may lengthOk body s = .next s ∨
    (∃ q, (s.ports[p]).offer s.startup ⟨code, tag, payload⟩ = .waits q ∧
      serve p code tag payload may lengthOk body s = .next (s.modPort p fun _ => q)) ∨
    ∃ q, (s.ports[p]).offer s.startup ⟨code, tag, payload⟩ = .taken q ∧
      ((∃ st, serve p code tag payload may lengthOk body s = .next ((s.modPort p fun _ => q).refuseAtPort p code tag st)) ∨
        serve p code tag payload may lengthOk body s =
          .next ((body payload (s.modPort p fun _ => q)).1.answer p code tag (body payload (s.modPort p fun _ => q)).2)) := by
  unfold serve
  split
  · exact .inl rfl
  · next q hq => exact .inr (.inl ⟨q, hq, rfl⟩)
  · next q hq =>
    refine .inr (.inr ⟨q, hq, ?_⟩)
    split
    · exact .inl ⟨_, rfl⟩
    · split
      · exact .inl ⟨_, rfl⟩
      · exact .inr rfl

/-- The port of an offer. -/
def Offer.port? : Offer → Option Port
  | .absent => none
  | .waits q | .taken q => some q

theorem Port.offer_keeps {q r : Port} {startup : Bool} {x : Request} (h : (q.offer startup x).port? = some r) : q.Keeps r := by
  unfold Port.offer at h
  split at h
  · cases h
  · split at h
    · split at h
      · cases h
        exact .of_same (by rfl)
      · cases h
    · split at h
      · dsimp only at h
        split at h <;>
        · cases h
          exact .of_same (by rfl)
      · cases h

theorem Service.run_portsKeep {v : Service} {s t : State} (hbody : ∀ u, PortsKeep u (v.body v.payload u).1) (h : v.run s = .next t) :
    PortsKeep s t := by
  obtain e | ⟨q, hq, e⟩ | ⟨q, hq, ⟨st, e⟩ | e⟩ := serve_offered v.port v.code v.tag v.payload v.may v.lengthOk v.body s <;> cases e.symm.trans h
  · exact .refl s
  all_goals have offered : PortsKeep s (s.modPort v.port fun _ => q) :=
    modPort_portsKeep v.port (Port.offer_keeps (congrArg Offer.port? hq))
  · exact offered
  · exact offered.trans (refuseAtPort_portsKeep _ _ _ _ _)
  · exact offered.trans ((hbody _).trans (answer_portsKeep _ _ _ _ _))

theorem PortsKeep.of_onlyIn {ps : List Part} {s t : State} (h : OnlyIn ps s t) (hp : Part.ports ∉ ps) : PortsKeep s t :=
  .of_ports (h .ports hp)

theorem portsKeep_ite {c : Prop} [Decidable c] {s t u : State} (ht : PortsKeep s t) (hu : PortsKeep s u) :
    PortsKeep s (if c then t else u) := by
  split
  · exact ht
  · exact hu

theorem startAll_portsKeep {s t : State} (h : PortsKeep s t) : PortsKeep s t.startAll :=
  h.trans (.of_onlyIn (startAll_onlyIn (ps := [.calls, .orders, .reader]) t (by simp)) (by simp))

theorem PortsKeep.then {s t u : State} (h : PortsKeep s t) (hu : u.ports = t.ports) : PortsKeep s u := h.trans (.of_ports hu)

theorem PortsKeep.after {s t u : State} (h : PortsKeep t u) (hu : t.ports = s.ports) : PortsKeep s u := (PortsKeep.of_ports hu).trans h

theorem readEventsBody_portsKeep (p : PortId) (b : List Byte) (u : State) : PortsKeep u (u.readEventsBody p b).1 :=
  modPort_portsKeep p (Port.readFlags_keeps _)

theorem ranged_portsKeep {α : Type} {args : List Byte → Option α} {body : α → State → State × Reply}
    (hbody : ∀ a u, PortsKeep u (body a u).1) (payload : List Byte) (u : State) : PortsKeep u (ranged args body payload u).1 := by
  unfold ranged
  split
  · exact .refl u
  · exact hbody _ u

/-- The handling of every request keeps the laws of the ports. -/
theorem service_portsKeep {c : Instr} {v : Service} (hv : service? c = some v) (u : State) : PortsKeep u (v.body v.payload u).1 := by
  have kept (hf : ¬v.atFlags) : PortsKeep u (v.body v.payload u).1 := (service_posts hv hf u).portsKeep
  cases c <;> cases hv
  case readEvents => exact readEventsBody_portsKeep _ [] u
  case clearEvents => exact ranged_portsKeep (fun a _ => modPort_portsKeep _ (Port.clearFlags_keeps a _)) _ u
  case setAttention => exact ranged_portsKeep (fun a _ => modPort_portsKeep _ (Port.setMask_keeps a _)) _ u
  all_goals exact kept (by simp [Service.atFlags])

/-! ### Events and steps -/

theorem refuseUnknown_portsKeep (p : PortId) (code tag : Byte) (payload : List Byte) (s : State) :
    PortsKeep s (s.refuseUnknown p code tag payload) := by
  unfold State.refuseUnknown
  split
  · exact .refl s
  all_goals
    next q hq =>
      have offered : PortsKeep s (s.modPort p fun _ => q) := modPort_portsKeep p (Port.offer_keeps (congrArg Offer.port? hq))
      first
      | exact offered
      | exact offered.trans (refuseAtPort_portsKeep _ _ _ _ _)

theorem rescanDone_portsKeep (header : List Byte) (s : State) : PortsKeep s (s.rescanDone header) := by
  unfold State.rescanDone
  split
  · exact .refl s
  · exact startAll_portsKeep (.after (answer_portsKeep _ _ _ _ _) rfl)

theorem startupDone_portsKeep (header : List Byte) (s : State) : PortsKeep s (s.startupDone header) := by
  unfold State.startupDone
  refine startAll_portsKeep (.after (t := { s.modDir (·.complete header) with startup := false }) ?_ rfl)
  exact (modPort_portsKeep 0 (Port.endStartupHold_keeps _)).trans <| (modPort_portsKeep 1 (Port.endStartupHold_keeps _)).trans
    (modPort_portsKeep 2 (Port.endStartupHold_keeps _))

theorem advanceNight_posts (s : State) : Posts [.kitchenLow, .orderExpired] s s.advanceNight := by
  unfold State.advanceNight
  refine posts_ite (fun _ => Posts.trans ?_ (startAll_posts _)) fun _ => .refl _ s
  exact .after (examineShelf_posts _) rfl

theorem firstCycle_posts (e : ResetEnd) (i : ScreenId) (s : State) : Posts [.soundLost, .showHeld] s (s.firstCycle e i) := by
  unfold State.firstCycle
  exact .after (cycle_posts i _) rfl

theorem endReset_portsKeep (e : ResetEnd) (s : State) : PortsKeep s (s.endReset e) := by
  simp only [State.endReset]
  refine PortsKeep.trans ?_ ((firstCycle_posts e 0 _).trans <| (firstCycle_posts e 1 _).trans <| (firstCycle_posts e 2 _).trans
    (firstCycle_posts e 3 _)).portsKeep
  refine .after (t := { s with inReset := false, blink := some 0 }) ?_ rfl
  exact (modPort_portsKeep 0 (.of_same (by rfl))).trans <| (modPort_portsKeep 1 (.of_same (by rfl))).trans (modPort_portsKeep 2 (.of_same (by rfl)))

theorem next_portsKeep {s t u : State} (h : (.next u : Host.Outcome State Fault Refusal) = .next t) (hu : PortsKeep s u) : PortsKeep s t := by
  cases h
  exact hu

/-- The handling of every event keeps the laws of the ports. -/
theorem event_portsKeep {c : Instr} (hc : service? c = none) {s t : State} (h : exec c s = .next t) : PortsKeep s t := by
  have kept (hp : Part.ports ∉ eventParts c) : PortsKeep s t := .of_onlyIn (event_onlyIn hc h) hp
  cases c <;> first | exact absurd hc (Option.some_ne_none _) | (refine kept ?_; simp [eventParts]; done) | refine next_portsKeep h ?_
  case deviceReset =>
    intro p
    have hget : (s.deviceReset ‹_› ‹_›).ports[p] = Port.reset (s.ports[p]).holdIn := by simp [State.deviceReset]
    rw [hget]
    exact Port.reset_keeps _ _
  case startupDirectoryReadDone header => exact portsKeep_ite (startupDone_portsKeep header s) (.refl s)
  case clipRescanDone header => exact rescanDone_portsKeep header s
  case unknownRequest p code tag payload => exact portsKeep_ite (.refl s) (refuseUnknown_portsKeep p code tag payload s)
  case nightClockAdvance => exact (advanceNight_posts s).portsKeep
  case entryLoopRise n => exact (entryRise_posts n s).portsKeep
  case entryLoopFall n us => exact (entryFall_posts n us s).portsKeep
  case exitLoopRise | exitLoopFall => exact .of_ports rfl
  case passWindowExpiry n => exact startAll_portsKeep (passWindowExpiry_posts n s).portsKeep
  case entryStuckLimitExpiry n => exact (entryStuckExpiry_posts n s).portsKeep
  case exitStuckTimerExpiry n => exact (exitStuckExpiry_posts n s).portsKeep
  case framePulse i us => exact startAll_portsKeep (framePulse_posts i us s).portsKeep
  case stallTimerExpiry i => exact (stallExpiry_posts i s).portsKeep
  case audioBlockArrival i bytes => exact (blockArrival_posts i bytes s).portsKeep
  case outputInstant i us => exact portsKeep_ite (.refl s) (outputInstant_posts i us s).portsKeep
  case exciterAck m number flags =>
    split
    · exact portsKeep_ite (.after (takeAck_posts _ _ _ _).portsKeep rfl) (.refl s)
    · exact .refl s
  case exciterStatus m number flags =>
    split
    · exact portsKeep_ite (.after (takeStatusMessage_posts _ _ _ _).portsKeep rfl) (.refl s)
    · exact .refl s
  case ackTimerExpiry i heard => exact portsKeep_ite (.after (ackExpiry_posts i _).portsKeep rfl) (.refl s)
  case refreshTimerExpiry i heard => exact portsKeep_ite (.after (cycle_posts i _).portsKeep rfl) (.refl s)
  case portByteReceived p b st => exact modPort_portsKeep p (Port.receive_keeps b st _)
  case gapTimerExpiry p => exact modPort_portsKeep p (Port.gapExpiry_keeps _)
  case parserTake p => exact portsKeep_ite (.refl s) (modPort_portsKeep p (Port.parserTake_keeps _))
  case replyByteSent p => exact modPort_portsKeep p (Port.byteSent_keeps _)
  case holdInChange p b => exact modPort_portsKeep p (.of_same (by rfl))
  case endOfDeviceReset e => exact portsKeep_ite (endReset_portsKeep e s) (.refl s)

theorem step_portsKeep {s t : State} (h : step s = .next t) : PortsKeep s t := by
  unfold step at h
  split at h
  · cases h
    exact .of_ports rfl
  · next c rest _ =>
    refine PortsKeep.after (t := { s with pending := rest }) ?_ rfl
    cases hv : service? c with
    | none => exact event_portsKeep hv h
    | some v =>
      rw [exec_of_service hv] at h
      exact Service.run_portsKeep (service_portsKeep hv) h

/-! ### SOUND_UP -/

theorem Link.soundLaw_iff (k : Link) : k.soundLaw ↔ k.soundUp = k.deriveSound := by
  unfold Link.soundLaw Link.deriveSound
  cases k.last <;> cases k.soundUp <;> simp

/-- The law of SOUND_UP at every link but one. -/
def State.SoundBut (i : ScreenId) (s : State) : Prop := ∀ j, j ≠ i → (s.links[j]).soundLaw

theorem State.SoundBut.of_links {i : ScreenId} {s t : State} (h : s.SoundBut i) (ht : t.links = s.links) : t.SoundBut i := by
  simpa only [State.SoundBut, ht] using h

theorem State.SoundBut.modLink {i : ScreenId} {s : State} (h : s.SoundBut i) (f : Link → Link) : (s.modLink i f).SoundBut i := by
  intro j hj
  simp only [State.modLink_links]
  rw [upd_get_ne _ _ _ _ hj.symm]
  exact h j hj

theorem State.SoundBut.post {i : ScreenId} {s : State} (h : s.SoundBut i) (k : EventKind) (d : Detail) : (s.post k d).SoundBut i := h

theorem State.soundLaws.but {s : State} (h : s.soundLaws) (i : ScreenId) : s.SoundBut i := fun j _ => h j

theorem State.soundLaws.of_links {s t : State} (h : s.soundLaws) (ht : t.links = s.links) : t.soundLaws := by
  simpa only [State.soundLaws, ht] using h

theorem soundLaws_modLink {i : ScreenId} {s : State} {f : Link → Link} (h : s.soundLaws)
    (hf : (s.links[i]).soundLaw → (f s.links[i]).soundLaw) : (s.modLink i f).soundLaws := by
  intro j
  simp only [State.modLink_links, upd_get]
  split
  · next e => exact e ▸ hf (h i)
  · exact h j

/-- A change of the link that its state, its last status and SOUND_UP are no part of. -/
theorem Link.soundLaw_of_same {k l : Link} (h : k.soundLaw) (hl : (l.state, l.last, l.soundUp) = (k.state, k.last, k.soundUp)) : l.soundLaw := by
  obtain ⟨hs, hl, hu⟩ := by simpa only [Prod.mk.injEq] using hl
  simpa only [Link.soundLaw, hs, hl, hu] using h

theorem soundLossHold_links (i : ScreenId) (s : State) : (s.soundLossHold i).links = s.links := by
  unfold State.soundLossHold
  split <;> rfl

theorem links_of_clearCalls {s t : State} (h : t.clearCalls = s.clearCalls) : t.links = s.links :=
  onlyIn_of_clearCalls h .links (by simp)

/-- SOUND_UP derived anew is all that changes of the links. -/
theorem deriveSound_links (i : ScreenId) (s : State) :
    (s.deriveSound i).links = upd s.links i fun k => { k with soundUp := (s.links[i]).deriveSound } := by
  simp only [State.deriveSound]
  split
  · rw [links_of_clearCalls (serveReads_frame _), links_of_clearCalls (cutCall_frame i _), soundLossHold_links]
    rfl
  · split
    · rw [links_of_clearCalls (serveReads_frame _), links_of_clearCalls (startScreen_frame i _), links_of_clearCalls (owedFill_frame i _)]
      rfl
    · rfl

theorem deriveSound_soundLaws {i : ScreenId} {s : State} (h : s.SoundBut i) : (s.deriveSound i).soundLaws := by
  intro j
  rw [deriveSound_links, upd_get]
  split
  · next e =>
    subst e
    rw [Link.soundLaw_iff]
    rfl
  · next e => exact h j (Ne.symm e)

theorem loseLink_soundLaws {i : ScreenId} {s : State} (h : s.SoundBut i) : (s.loseLink i).soundLaws := by
  unfold State.loseLink
  exact deriveSound_soundLaws ((h.modLink _).post _ _)

theorem Link.soundLaw_release {k : Link} (h : k.soundLaw) : k.release.soundLaw := by
  unfold Link.release
  split
  · exact h
  · split
    · exact h
    · exact h

theorem Link.soundLaw_badMessage (c : Collector) {k : Link} (h : k.soundLaw) : (k.badMessage c).soundLaw :=
  Link.soundLaw_of_same (k := k.received c) (Link.soundLaw_release (Link.soundLaw_of_same h (by rfl))) (by rfl)

theorem Link.soundLaw_emit (m : LineMessage) {k : Link} (h : k.soundLaw) : (k.emit m).soundLaw := by
  unfold Link.emit
  split <;> exact h

theorem Link.soundLaw_makeSend {k : Link} (h : k.soundLaw) : k.makeSend.soundLaw := by
  unfold Link.makeSend
  exact Link.soundLaw_emit _ h

theorem Link.soundLaw_settingsSendEnd {k : Link} (h : k.soundLaw) : k.settingsSendEnd.soundLaw := by
  unfold Link.settingsSendEnd
  split
  · exact Link.soundLaw_release (Link.soundLaw_of_same h (by rfl))
  · exact h

theorem Link.soundLaw_statusAckSendEnd {k : Link} (h : k.soundLaw) : k.statusAckSendEnd.soundLaw := by
  unfold Link.statusAckSendEnd
  split
  · exact Link.soundLaw_release (Link.soundLaw_of_same h (by rfl))
  · exact h

theorem cycle_soundLaws {i : ScreenId} {s : State} (h : s.soundLaws) : (s.cycle i).soundLaws := by
  simp only [State.cycle]
  refine soundLaws_modLink ?_ fun hk => Link.soundLaw_of_same (Link.soundLaw_makeSend hk) (by rfl)
  split
  · exact loseLink_soundLaws (h.but i)
  · exact h

theorem ackExpiry_soundLaws {i : ScreenId} {s : State} (h : s.soundLaws) : (s.ackExpiry i).soundLaws := by
  have hstopped : (s.modLink i fun k => { k with ackTimer := none }).soundLaws := soundLaws_modLink h fun hk => Link.soundLaw_of_same hk (by rfl)
  simp only [State.ackExpiry]
  split
  · exact h
  · split
    · split
      · exact soundLaws_modLink hstopped fun hk => Link.soundLaw_of_same (Link.soundLaw_makeSend hk) (by rfl)
      · exact loseLink_soundLaws (hstopped.but i)
    · exact hstopped

theorem postStatusChange_links (i : ScreenId) (old new : Option ExciterStatus) (was now : Bool) (s : State) :
    (s.postStatusChange i old new was now).links = s.links := by
  simp only [State.postStatusChange]
  split
  · rfl
  · split <;> rfl

/-- Outside UP a new status leaves SOUND_UP false. -/
theorem Link.soundLaw_status {k : Link} (t : ExciterStatus) (h : k.soundLaw) (hs : k.state ≠ .up) : ({ k with last := some t } : Link).soundLaw := by
  simp only [Link.soundLaw, hs, false_and, iff_false] at h ⊢
  exact h

theorem takeStatus_soundLaws {i : ScreenId} (t : ExciterStatus) {s : State} (h : s.soundLaws) : (s.takeStatus i t).soundLaws := by
  simp only [State.takeStatus, State.modLink_links, upd_get_self]
  split
  · exact deriveSound_soundLaws (((h.but i).modLink _).of_links (postStatusChange_links i _ _ _ _ _))
  · next hs => exact soundLaws_modLink h fun hk => Link.soundLaw_status t hk hs

theorem takeAck_soundLaws {i : ScreenId} (n : Byte) (t : ExciterStatus) {s : State} (h : s.soundLaws) : (s.takeAck i n t).soundLaws := by
  unfold State.takeAck
  split
  · have hanswered : (s.modLink i fun k => { k with latest := some (n, true), ackTimer := none, unanswered := 0 }.count
        fun c => { c with valid := inc16 c.valid }).soundLaws := soundLaws_modLink h fun hk => Link.soundLaw_of_same hk (by rfl)
    simp only [State.validAck]
    split
    · exact takeStatus_soundLaws t hanswered
    · exact deriveSound_soundLaws ((hanswered.but i).modLink _)
    · exact deriveSound_soundLaws (((hanswered.but i).modLink _).post _ _)
  · exact soundLaws_modLink h fun hk => Link.soundLaw_of_same hk (by rfl)

theorem takeStatusMessage_soundLaws {i : ScreenId} (n : Byte) (t : ExciterStatus) {s : State} (h : s.soundLaws) :
    (s.takeStatusMessage i n t).soundLaws :=
  takeStatus_soundLaws t (soundLaws_modLink h fun hk => Link.soundLaw_of_same (Link.soundLaw_emit _ hk) (by rfl))

theorem setExciter_soundLaws (heard : List LineInput) (i : ScreenId) (x : ExciterSettings) {s : State} (h : s.soundLaws) :
    (s.setExciter heard i x).soundLaws := by
  unfold State.setExciter
  split
  · exact h
  · exact cycle_soundLaws (soundLaws_modLink h fun hk => Link.soundLaw_of_same hk (by rfl))

theorem firstCycle_soundLaws (e : ResetEnd) (i : ScreenId) {s : State} (h : s.soundLaws) : (s.firstCycle e i).soundLaws :=
  cycle_soundLaws (soundLaws_modLink h fun hk => Link.soundLaw_of_same hk (by rfl))

/-- Every command keeps the laws of SOUND_UP. -/
theorem exec_soundLaws {c : Instr} {s t : State} (hs : s.soundLaws) (h : exec c s = .next t) : t.soundLaws := by
  have received (i : ScreenId) (x : Collector) : (s.modLink i (·.received x)).soundLaws :=
    soundLaws_modLink hs fun hk => Link.soundLaw_release (Link.soundLaw_of_same hk (by rfl))
  have heard (i : ScreenId) (l : List LineInput) : (s.modLink i (·.hear l)).soundLaws := soundLaws_modLink hs fun hk => Link.soundLaw_of_same hk (by rfl)
  have kept (hp : Part.links ∉ touchedParts c) : t.soundLaws := hs.of_links (exec_onlyIn h .links hp)
  cases c <;> first | (refine kept ?_; simp [touchedParts, service?, requestParts, eventParts, gateParts, passageParts, endParts, orderParts]; done) | skip
  case setExciter p tag pl =>
    rw [exec_of_service (v := ⟨p, 0x2A, tag, pl.bytes, rolesB, lengthIs 4, ranged setExciterArgs (State.setExciterBody pl.heard)⟩) rfl] at h
    obtain e | ⟨q, e⟩ | ⟨q, st, e⟩ | ⟨q, e⟩ := serve_cases p 0x2A tag pl.bytes rolesB (lengthIs 4)
        (ranged setExciterArgs (State.setExciterBody pl.heard)) s <;> cases e.symm.trans h
    · exact hs
    · exact hs
    · exact hs.of_links rfl
    · refine State.soundLaws.of_links ?_ ((answer_onlyIn (ps := [.ports]) p 0x2A tag _ _ (by simp)) .links (by simp))
      unfold ranged
      split
      · exact hs
      · exact setExciter_soundLaws _ _ _ (s := s.modPort p fun _ => q) hs
  all_goals cases h
  case deviceReset =>
    intro i
    simp [State.deviceReset, State.reset, Link.reset, Link.soundLaw]
  case exciterAck m number flags =>
    split
    · split
      · exact takeAck_soundLaws _ _ (received _ _)
      · exact hs
    · exact hs
  case exciterStatus m number flags =>
    split
    · split
      · exact takeStatusMessage_soundLaws _ _ (received _ _)
      · exact hs
    · exact hs
  case exciterBadMessage m =>
    split
    · exact soundLaws_modLink hs fun hk => Link.soundLaw_badMessage _ hk
    · exact hs
  case ackTimerExpiry i l =>
    split
    · exact ackExpiry_soundLaws (heard i l)
    · exact hs
  case refreshTimerExpiry i l =>
    split
    · exact cycle_soundLaws (heard i l)
    · exact hs
  case settingsSendEnd m =>
    split
    · exact soundLaws_modLink hs fun hk => Link.soundLaw_settingsSendEnd (Link.soundLaw_of_same hk (by rfl))
    · exact hs
  case statusAckSendEnd m =>
    split
    · exact soundLaws_modLink hs fun hk => Link.soundLaw_statusAckSendEnd (Link.soundLaw_of_same hk (by rfl))
    · exact hs
  case endOfDeviceReset e =>
    split
    · exact firstCycle_soundLaws e 3 (firstCycle_soundLaws e 2 (firstCycle_soundLaws e 1 (firstCycle_soundLaws e 0 (hs.of_links rfl))))
    · exact hs

theorem step_soundLaws {s t : State} (hs : s.soundLaws) (h : step s = .next t) : t.soundLaws := by
  unfold step at h
  split at h
  · cases h
    exact hs
  · next c rest _ => exact exec_soundLaws (s := { s with pending := rest }) hs h

/-- Settles O59: the laws of the ports by what each handling does to one port, those of SOUND_UP by deriving it anew at every change of the
link's state or last status. -/
theorem signalLawsAreKept : Obligations.SignalLawsAreKept := by
  unfold Obligations.SignalLawsAreKept
  intro s t h
  have hports := step_portsKeep h
  refine ⟨fun hs => step_soundLaws hs h, fun hs p => ?_, fun hs p => (hports p).fifo (hs p)⟩
  exact (Port.noted_iff _).1 ((hports p).noted ((Port.noted_iff _).2 (hs p)))

end Sys2Proof.Machine

/-! The laws right after device reset (O55). -/

namespace Sys2Proof.Machine

theorem reset_entry (n : LaneId) : State.reset.entry[n] = .reset .clear := Vector.getElem_replicate _
theorem reset_shows (i : ScreenId) : State.reset.shows[i] = .reset := Vector.getElem_replicate _
theorem reset_aligns (i : ScreenId) : State.reset.aligns[i] = .reset := Vector.getElem_replicate _
theorem reset_cues (i : ScreenId) : State.reset.cues[i] = .reset := Vector.getElem_replicate _
theorem reset_intakes (i : ScreenId) : State.reset.intakes[i] = .reset := Vector.getElem_replicate _
theorem reset_calls (i : ScreenId) : State.reset.calls[i] = .reset := Vector.getElem_replicate _
theorem reset_links (i : ScreenId) : State.reset.links[i] = .reset := Vector.getElem_replicate _
theorem reset_zones (i : ScreenId) : State.reset.zones[i] = .reset := Vector.getElem_replicate _
theorem reset_ports (p : PortId) : State.reset.ports[p] = .reset false := Vector.getElem_replicate _

theorem reset_laneLaws : State.reset.laneLaws := fun n => by
  rw [reset_entry]
  simp [EntryLane.armLaw, EntryLane.admissionLaw, EntryLane.reset]

theorem reset_showLaws : State.reset.showLaws := fun i => by
  rw [reset_shows]
  simp [Show.pauseLaw, Show.reasonLaw, Show.reset]

theorem reset_clockLaws : State.reset.clockLaws := fun i => by
  rw [reset_shows]
  unfold Show.clockLaw Show.monitorLaw
  decide

theorem reset_delayLaws : State.reset.delayLaws := fun i => by
  rw [reset_shows, reset_aligns]
  unfold delayLaw
  decide

theorem reset_ringLaws : State.reset.ringLaws := fun i => by
  rw [reset_intakes]
  simp [Intake.ringLaw, Intake.reset]

theorem reset_cueLaws : State.reset.cueLaws := fun i => by
  rw [reset_cues]
  simp [cueLaw, CueUnit.reset]

theorem reset_cursorLaws : State.reset.cursorLaws := fun i => by
  rw [reset_shows, reset_cues]
  simp [cursorLaw, Show.reset, CueUnit.reset]

theorem reset_queueLaws : State.reset.queueLaws := by
  refine ⟨by simp [OrderUnit.kitchenLaw, State.reset, OrderUnit.reset], fun i => ?_⟩
  rw [reset_calls]
  simp [CallUnit.queueLaw, CallUnit.reset]

theorem reset_soundLaws : State.reset.soundLaws := fun i => by
  rw [reset_links]
  simp [Link.soundLaw, Link.reset]

theorem reset_attentionLaws : State.reset.attentionLaws := fun p => by
  rw [reset_ports]
  have hnone (k : EventKind) : (Port.reset false).flag k = .none := Vector.getElem_replicate _
  simp [Port.attentionLaw, hnone, Flag.none_law]
  simp [Port.reset, Flag.none]

theorem reset_fifoLaws : State.reset.fifoLaws := fun p => by
  rw [reset_ports]
  simp [Port.fifoLaw, Port.rxFill, Port.reset]

theorem reset_ticketLaws : State.reset.ticketLaws := by
  refine ⟨by simp [State.reset], by simp [State.reset], fun n k h => ?_, fun i => ?_, by simp [State.reset, sum4, Zone.reset]⟩
  · rw [reset_entry] at h
    cases h
  · simp only [State.zoneLaw, reset_zones]
    simp [State.reset, Zone.reset, Zone.occupancy]

theorem reset_orderLaws : State.reset.orderLaws := by
  simp [State.orderLaws, State.reset, OrderUnit.reset]

theorem reset_bookLaws : State.reset.bookLaws := by
  refine ⟨by simp [State.reset, OrderUnit.reset], by simp [State.reset, OrderUnit.reset], by simp [State.reset, OrderUnit.reset],
    by simp [State.reset, OrderUnit.reset], by simp [State.reset, OrderUnit.reset], fun i n h => ?_,
    by simp [State.reset, OrderUnit.reset, OrderTotals.law, OrderTotals.zero]⟩
  rw [reset_calls] at h
  cases h

theorem reset_passLaws : State.reset.passLaws := by
  simp [State.passLaws, State.reset, PassMap.wf, PassMap.isSet]

/-- Settles O55, law by law: at reset every list is empty, every lane CLOSED, every screen IDLE. -/
theorem lawsAtReset : Obligations.LawsAtReset :=
  ⟨reset_laneLaws, reset_showLaws, reset_clockLaws, reset_delayLaws, reset_ringLaws, reset_cueLaws, reset_cursorLaws, reset_queueLaws,
    reset_soundLaws, reset_attentionLaws, reset_fifoLaws, reset_ticketLaws, reset_orderLaws, reset_passLaws, reset_bookLaws⟩

end Sys2Proof.Machine

/-! Requests at their ports: what waits (O4), what the port refuses (O5), and the one answer (O6). -/

namespace Sys2Proof.Machine

/-! ### A request row by what its port offers -/

theorem exec_of_request {c : Instr} {p : PortId} {r : Request} (h : c.request? = some (p, r)) (s : State) :
    (∃ v, service? c = some v ∧ v.port = p ∧ v.request = r ∧ exec c s = v.run s) ∨
      (knownCode r.code = false ∧ exec c s = .next (s.refuseUnknown p r.code r.tag r.payload)) := by
  rcases service_of_request h with ⟨v, hv, hp, hr⟩ | ⟨rfl, hk⟩
  · exact .inl ⟨v, hv, hp, hr, exec_of_service hv s⟩
  · refine .inr ⟨hk, congrArg Host.Outcome.next (if_neg ?_)⟩
    rw [hk]
    decide

theorem exec_absent {c : Instr} {p : PortId} {r : Request} {s : State} (h : c.request? = some (p, r))
    (ho : (s.ports[p]).offer s.startup r = .absent) : exec c s = .next s := by
  rcases exec_of_request h s with ⟨v, -, rfl, rfl, he⟩ | ⟨-, he⟩ <;> rw [he]
  · unfold Service.run serve
    rw [show (⟨v.code, v.tag, v.payload⟩ : Request) = v.request from rfl, ho]
  · unfold State.refuseUnknown
    rw [ho]

theorem exec_waits {c : Instr} {p : PortId} {r : Request} {s : State} {q : Port} (h : c.request? = some (p, r))
    (ho : (s.ports[p]).offer s.startup r = .waits q) : exec c s = .next (s.modPort p fun _ => q) := by
  rcases exec_of_request h s with ⟨v, -, rfl, rfl, he⟩ | ⟨-, he⟩ <;> rw [he]
  · unfold Service.run serve
    rw [show (⟨v.code, v.tag, v.payload⟩ : Request) = v.request from rfl, ho]
  · unfold State.refuseUnknown
    rw [ho]

/-! ### Waiting (R190, R191) -/

theorem canTake_eq_false_iff (q : Port) : q.canTake = false ↔ q.outstanding = true ∨ 512 < q.tx.length + 254 := by
  unfold Port.canTake
  cases q.outstanding with
  | true => simp
  | false =>
    simp
    omega

theorem offer_startup (q : Port) (r : Request) : q.offer true r = .absent := rfl

theorem offer_of_held {q : Port} {x r : Request} (hx : q.held = some x) (h : x ≠ r ∨ q.canTake = false) (startup : Bool) :
    q.offer startup r = .absent := by
  have hno : ¬(x = r ∧ q.canTake = true) := by
    rintro ⟨he, hc⟩
    rcases h with h | h
    · exact h he
    · rw [h] at hc
      cases hc
  unfold Port.offer
  rw [hx]
  simp only [if_neg hno, ite_self]

theorem offer_atRest_full {q : Port} {r : Request} (hq : q.atRest = true) (hl : r.payload.length ≤ 248) (hc : q.canTake = false) :
    q.offer false r = .waits { q with held := some r, gapTimer := some 5, lastBreak := false } := by
  have hheld : q.held = none := by
    simp only [Port.atRest, Bool.and_eq_true, Option.isNone_iff_eq_none] at hq
    exact hq.2
  unfold Port.offer
  rw [hheld]
  simp [hq, hl, hc]

theorem modPort_congr {p : PortId} {f g : Port → Port} {s : State} (h : f s.ports[p] = g s.ports[p]) : s.modPort p f = s.modPort p g := by
  simp only [State.modPort, upd, h]

/-- Settles O4, by what the port offers of the request. -/
theorem requestsWait : Obligations.RequestsWait := by
  unfold Obligations.RequestsWait
  intro c p r s hr
  refine ⟨fun hs => exec_absent hr ?_, fun x hx hne => exec_absent hr (offer_of_held hx (.inl hne) _), fun hx hfull => ?_,
    fun hs hrest hl hfull => ?_⟩
  · rw [hs]
    exact offer_startup _ r
  · exact exec_absent hr (offer_of_held hx (.inr ((canTake_eq_false_iff _).2 hfull)) _)
  · have ho : (s.ports[p]).offer s.startup r = .waits { s.ports[p] with held := some r, gapTimer := some 5, lastBreak := false } := by
      rw [hs]
      exact offer_atRest_full hrest hl ((canTake_eq_false_iff _).2 hfull)
    rw [exec_waits hr ho]
    exact congrArg Host.Outcome.next (modPort_congr rfl)

/-! ### The catalogue: roles and lengths of each request (R192, R197) -/

theorem Service.may_eq {c : Instr} {v : Service} (h : service? c = some v) (r : Role) :
    v.may r = decide (r ∈ catalogueRoles v.code.toNat) := by
  cases c <;> cases h <;> cases r <;> rfl

theorem lengthIs_iff (n : Nat) (pl : List Byte) : lengthIs n pl = true ↔ pl.length = n := beq_iff_eq

theorem byte_eq_ofNat {b : Byte} {n : Nat} (h : n < 256) : b = BitVec.ofNat 8 n ↔ b.toNat = n := by
  constructor
  · rintro rfl
    exact ofNat8_toNat h
  · rintro rfl
    simp

theorem admitLength_iff (pl : List Byte) : admitLength pl = true ↔ agreedLength 0x01 pl = some pl.length := by
  match pl with
  | [] | [_] | [_, _] => simp [admitLength, agreedLength]
  | [_, _, payment] =>
    simp only [admitLength, agreedLength]
    simp
    split <;> simp
  | _ :: _ :: payment :: _ :: rest =>
    simp only [admitLength, agreedLength, byte_eq_ofNat (b := payment) (n := 1) (by decide)]
    simp
    split <;> omega

theorem announceLength_iff (pl : List Byte) : announceLength pl = true ↔ agreedLength 0x22 pl = some pl.length := by
  match pl with
  | [] | [_] => simp [announceLength, agreedLength]
  | _ :: count :: rest =>
    simp [announceLength, agreedLength]
    omega

theorem clearEventsLength_iff (pl : List Byte) : clearEventsLength pl = true ↔ agreedLength 0x37 pl = some pl.length := by
  match pl with
  | [] => simp [clearEventsLength, agreedLength]
  | count :: rest =>
    simp [clearEventsLength, agreedLength]
    omega

theorem loadCueLength_iff (pl : List Byte) : loadCueLength pl = true ↔ agreedLength 0x1A pl = some pl.length := by
  match pl with
  | [] | [_] | [_, _] | [_, _, _] | [_, _, _, _] | [_, _, _, _, _] | [_, _, _, _, _, _] => simp [loadCueLength, agreedLength]
  | _ :: _ :: _ :: _ :: _ :: _ :: action :: rest =>
    simp only [loadCueLength, agreedLength, byte_eq_ofNat (b := action) (n := 0) (by decide),
      byte_eq_ofNat (b := action) (n := 10) (by decide), byte_eq_ofNat (b := action) (n := 11) (by decide)]
    simp
    repeat' split
    all_goals omega

theorem setLampLength_iff (pl : List Byte) : setLampLength pl = true ↔ agreedLength 0x34 pl = some pl.length := by
  match pl with
  | [] | [_] => simp [setLampLength, agreedLength]
  | [_, source] | [_, source, _] =>
    simp only [setLampLength, agreedLength]
    simp
    repeat' split
    all_goals simp
  | _ :: source :: _ :: _ :: rest =>
    simp only [setLampLength, agreedLength, byte_eq_ofNat (b := source) (n := 13) (by decide),
      byte_eq_ofNat (b := source) (n := 16) (by decide)]
    simp
    repeat' split
    all_goals omega

/-- The length check of each request is that of the agreed length (R192, R197). -/
theorem Service.lengthOk_iff {c : Instr} {v : Service} (h : service? c = some v) (pl : List Byte) :
    v.lengthOk pl = true ↔ agreedLength v.code.toNat pl = some pl.length := by
  have fixed {n : Nat} (ha : agreedLength v.code.toNat pl = some n) (hl : v.lengthOk = lengthIs n) :
      v.lengthOk pl = true ↔ agreedLength v.code.toNat pl = some pl.length := by
    rw [ha, hl, lengthIs_iff, Option.some_inj, eq_comm]
  cases c <;> cases h
  case admitCar => exact admitLength_iff pl
  case loadCue => exact loadCueLength_iff pl
  case announce => exact announceLength_iff pl
  case setLamp => exact setLampLength_iff pl
  case clearEvents => exact clearEventsLength_iff pl
  all_goals exact fixed rfl rfl

end Sys2Proof.Machine

/-! Fields out of their ranges: the arguments of every request lie in the ranges that its rule gives (O5). -/

namespace Sys2Proof.Machine

/-! ### One field -/

theorem index_lt {n : Nat} {b : Byte} {i : Fin n} (h : index? n b = some i) : b.toNat < n := by
  unfold index? at h
  split at h
  · assumption
  · cases h

theorem within_range {lo hi v w : Nat} (h : within lo hi v = some w) : lo ≤ v ∧ v ≤ hi := (within_eq_some h).2

theorem within_value {lo hi v w : Nat} (h : within lo hi v = some w) : w = v := (within_eq_some h).1

theorem named_lt {α : Type} {names : List α} {b : Byte} {x : α} (h : named names b = some x) : b.toNat < names.length :=
  (List.getElem?_eq_some_iff.1 h).1

theorem named_le {α : Type} {names : List α} {b : Byte} {x : α} {n : Nat} (h : named names b = some x) (hn : names.length = n + 1) :
    b.toNat ≤ n := by
  have hlt := named_lt h
  omega

theorem indexArg_range {n : Nat} {pl : List Byte} {i : Fin n} (h : indexArg n pl = some i) : ((pl[0]?).getD 0#8).toNat < n := by
  unfold indexArg at h
  split at h
  · exact index_lt h
  · cases h

/-! ### The fields of each request -/

theorem passArg_range {pl : List Byte} {a : Nat} (h : passArg pl = some a) : ∃ hi lo, pl = [hi, lo] ∧ word16 hi lo ≤ 4095 := by
  unfold passArg at h
  split at h
  · exact ⟨_, _, rfl, (within_range h).2⟩
  · cases h

theorem paymentArg_range {b : Byte} {rest : List Byte} {x : Payment} (h : paymentArg b rest = some x) :
    b.toNat ≤ 2 ∧ (b.toNat = 1 → ∃ hi lo, rest = [hi, lo] ∧ word16 hi lo ≤ 4095) := by
  unfold paymentArg at h
  split at h
  · next hb => simp [hb]
  · split at h
    · next hb =>
      obtain ⟨n, hn, -⟩ := Option.map_eq_some_iff.1 h
      exact ⟨by simp [hb], fun _ => passArg_range hn⟩
    · split at h
      · next hb => simp [hb]
      · cases h

theorem admitArgs_range {pl : List Byte} {a : AdmitArgs} (h : admitArgs pl = some a) : fieldsInRange 0x01 pl = true := by
  unfold admitArgs at h
  split at h
  · next lane screen payment party rest =>
    simp only [Option.bind_eq_bind, Option.bind_eq_some_iff] at h
    obtain ⟨_, hlane, _, hscreen, _, hpay, _, hparty, -⟩ := h
    have hlane := index_lt hlane
    have hscreen := index_lt hscreen
    have hparty := within_range hparty
    obtain ⟨hpay, hpass⟩ := paymentArg_range hpay
    simp [fieldsInRange]
    refine ⟨hlane, hscreen, hpay, by omega, hparty.2, not_or_of_imp fun h1 => ?_⟩
    obtain ⟨hi, lo, rfl, hle⟩ := hpass h1
    exact hle
  · cases h

/-- The ticket number of DEPART, TICKET_QUERY and CANCEL_ADMIT. -/
theorem ticketArg_range {pl : List Byte} {a : Nat} {code : Nat} (hc : code ∈ [0x02, 0x08, 0x0F]) (h : ticketArg pl = some a) :
    fieldsInRange code pl = true := by
  unfold ticketArg at h
  split at h
  · have h := within_range h
    fin_cases hc <;>
    · simp [fieldsInRange, word16] at h ⊢
      omega
  · cases h

theorem passSetArgs_fields {pl : List Byte} {a : Nat × Nat × Bool} (h : passSetArgs pl = some a) : fieldsInRange 0x03 pl = true := by
  unfold passSetArgs at h
  split at h
  · simp only [Option.bind_eq_bind, Option.bind_eq_some_iff] at h
    obtain ⟨_, hfirst, _, hlast, _, hset, -⟩ := h
    obtain ⟨rfl, hfirst⟩ := within_eq_some hfirst
    have hlast := within_range hlast
    have hset := named_lt hset
    simp [fieldsInRange, word16, setClear] at hfirst hlast hset ⊢
    omega
  · cases h

theorem setZoneArgs_range {pl : List Byte} {a : ScreenId × Nat} (h : setZoneArgs pl = some a) : fieldsInRange 0x04 pl = true := by
  unfold setZoneArgs at h
  split at h
  · simp only [Option.bind_eq_bind, Option.bind_eq_some_iff] at h
    obtain ⟨_, hscreen, _, hcapacity, -⟩ := h
    have hscreen := index_lt hscreen
    have hcapacity := within_range hcapacity
    simp [fieldsInRange, word16] at hcapacity ⊢
    omega
  · cases h

/-- The requests whose one field is a screen. -/
theorem screenArg_range {pl : List Byte} {i : ScreenId} {code : Nat}
    (hc : code ∈ [0x05, 0x06, 0x13, 0x14, 0x15, 0x16, 0x17, 0x18, 0x19, 0x1C, 0x1F, 0x20, 0x24, 0x25, 0x26, 0x27, 0x28, 0x2B])
    (h : indexArg 4 pl = some i) : fieldsInRange code pl = true := by
  have h := indexArg_range h
  fin_cases hc <;> simpa [fieldsInRange] using h

theorem passArg_fields {pl : List Byte} {a : Nat} (h : passArg pl = some a) : fieldsInRange 0x09 pl = true := by
  obtain ⟨hi, lo, rfl, hle⟩ := passArg_range h
  simpa [fieldsInRange, word16] using hle

theorem laneName_range {k n : Byte} {a : LaneName} (h : laneName? k n = some a) :
    k.toNat = 0 ∧ n.toNat < 4 ∨ k.toNat = 1 ∧ n.toNat < 2 := by
  unfold laneName? at h
  split at h
  · next hk =>
    obtain ⟨_, hn, -⟩ := Option.map_eq_some_iff.1 h
    exact .inl ⟨by simp [hk], index_lt hn⟩
  · split at h
    · next hk =>
      obtain ⟨_, hn, -⟩ := Option.map_eq_some_iff.1 h
      exact .inr ⟨by simp [hk], index_lt hn⟩
    · cases h

/-- The lane of LANE_OPEN, LANE_CLOSE and LANE_RESET. -/
theorem laneArg_range {pl : List Byte} {a : LaneName} {code : Nat} (hc : code ∈ [0x0D, 0x0E, 0x10]) (h : laneArg pl = some a) :
    fieldsInRange code pl = true := by
  unfold laneArg at h
  split at h
  · have h := laneName_range h
    fin_cases hc <;> simpa [fieldsInRange] using h
  · cases h

theorem setLaneArgs_range {pl : List Byte} {a : LaneName × LaneSettings} (h : setLaneArgs pl = some a) : fieldsInRange 0x0C pl = true := by
  unfold setLaneArgs at h
  split at h
  · simp only [Option.bind_eq_bind, Option.bind_eq_some_iff] at h
    obtain ⟨_, hlane, _, hpass, _, hgap, _, hlong, _, hstuck, -⟩ := h
    have hlane := laneName_range hlane
    have hpass := within_range hpass
    have hgap := within_range hgap
    have hlong := within_range hlong
    have hstuck := within_range hstuck
    simp only [word16] at hpass hgap hlong hstuck
    simp [fieldsInRange]
    omega
  · cases h

theorem rate_range {b : Byte} {r : Rate} (h : rate? b = some r) : b.toNat = 24 ∨ b.toNat = 25 ∨ b.toNat = 30 := by
  unfold rate? at h
  split at h
  · next hb => simp [hb]
  · split at h
    · next hb => simp [hb]
    · split at h
      · next hb => simp [hb]
      · cases h

theorem trim_range {hi lo : Byte} {z : Int} (h : withinInt (-500) 500 (signed16 hi lo) = some z) :
    hi.toNat * 256 + lo.toNat ≤ 500 ∨ 65036 ≤ hi.toNat * 256 + lo.toNat := by
  have hz : -500 ≤ signed16 hi lo ∧ signed16 hi lo ≤ 500 := by
    unfold withinInt at h
    split at h
    · assumption
    · cases h
  unfold signed16 word16 at hz
  split at hz <;> omega

theorem setScreenArgs_range {pl : List Byte} {a : ScreenId × ScreenSettings} (h : setScreenArgs pl = some a) :
    fieldsInRange 0x12 pl = true := by
  unfold setScreenArgs at h
  split at h
  · simp only [Option.bind_eq_bind, Option.bind_eq_some_iff] at h
    obtain ⟨_, hscreen, _, hrate, _, hpicture, _, hexciter, _, htrim, _, hoption, -⟩ := h
    have hscreen := index_lt hscreen
    have hrate := rate_range hrate
    have hpicture := (within_range hpicture).2
    have hexciter := (within_range hexciter).2
    have htrim := trim_range htrim
    have hoption : _ ≤ 1 := named_le hoption rfl
    simp only [word16] at hpicture hexciter
    simp [fieldsInRange]
    omega
  · cases h

theorem cueActionArg_of_beyond {action : Byte} {rest : List Byte} (h : 12 ≤ action.toNat) : cueActionArg action rest = none := by
  obtain ⟨k, hk⟩ : ∃ k, action.toNat = k + 12 := ⟨action.toNat - 12, by omega⟩
  unfold cueActionArg
  rw [hk]
  rfl

theorem cueActionArg_test {action : Byte} {rest : List Byte} {x : CueAction} (h : cueActionArg action rest = some x) (h0 : action.toNat = 0) :
    ∃ src m f, rest = [src, m, f] ∧ src.toNat ≤ 12 ∧ m.toNat ≤ 3 ∧ f.toNat ≤ 1 := by
  unfold cueActionArg at h
  rw [h0] at h
  rcases rest with _ | ⟨src, _ | ⟨m, _ | ⟨f, _ | _⟩⟩⟩
  case cons.cons.cons.nil =>
    obtain ⟨_, hsrc, h⟩ := Option.bind_eq_some_iff.1 h
    obtain ⟨_, hmode, h⟩ := Option.bind_eq_some_iff.1 h
    obtain ⟨_, htarget, -⟩ := Option.bind_eq_some_iff.1 h
    exact ⟨src, m, f, rfl, named_le hsrc rfl, named_le hmode rfl, named_le htarget rfl⟩
  all_goals cases h

theorem cueActionArg_lamp {action : Byte} {rest : List Byte} {x : CueAction} (h : cueActionArg action rest = some x) (h11 : action.toNat = 11) :
    ∃ k on, rest = [k, on] ∧ k.toNat < 4 ∧ on.toNat ≤ 1 := by
  unfold cueActionArg at h
  rw [h11] at h
  rcases rest with _ | ⟨k, _ | ⟨on, _ | _⟩⟩
  case cons.cons.nil =>
    obtain ⟨_, hk, h⟩ := Option.bind_eq_some_iff.1 h
    obtain ⟨_, hon, -⟩ := Option.bind_eq_some_iff.1 h
    exact ⟨k, on, rfl, index_lt hk, named_le hon rfl⟩
  all_goals cases h

theorem loadCueArgs_range {pl : List Byte} {a : LoadCueArgs} (h : loadCueArgs pl = some a) : fieldsInRange 0x1A pl = true := by
  unfold loadCueArgs at h
  split at h
  · simp only [Option.bind_eq_bind, Option.bind_eq_some_iff] at h
    obtain ⟨_, hscreen, _, hid, _, hguard, _, haction, -⟩ := h
    have hact : ¬12 ≤ _ := fun hle => by
      rw [cueActionArg_of_beyond hle] at haction
      cases haction
    simp [fieldsInRange]
    have hid := (within_range hid).1
    refine ⟨index_lt hscreen, by omega, named_le hguard rfl, by omega, not_or_of_imp fun h0 => ?_, not_or_of_imp fun h11 => ?_⟩
    · obtain ⟨src, m, f, rfl, hrest⟩ := cueActionArg_test haction h0
      exact hrest
    · obtain ⟨k, on, rfl, hrest⟩ := cueActionArg_lamp haction h11
      exact hrest
  · cases h

theorem deleteCueArgs_range {pl : List Byte} {a : ScreenId × Nat} (h : deleteCueArgs pl = some a) : fieldsInRange 0x1B pl = true := by
  unfold deleteCueArgs at h
  split at h
  · simp only [Option.bind_eq_bind, Option.bind_eq_some_iff] at h
    obtain ⟨_, hscreen, _, hid, -⟩ := h
    have hid := (within_range hid).1
    simp [fieldsInRange]
    exact ⟨index_lt hscreen, by omega⟩
  · cases h

theorem cueQueryArgs_range {pl : List Byte} {a : ScreenId × Nat} (h : cueQueryArgs pl = some a) : fieldsInRange 0x1D pl = true := by
  unfold cueQueryArgs at h
  split at h
  · simp only [Option.bind_eq_bind, Option.bind_eq_some_iff] at h
    obtain ⟨_, hscreen, _, hfirst, -⟩ := h
    simp [fieldsInRange]
    exact ⟨index_lt hscreen, (within_range hfirst).2⟩
  · cases h

theorem setSoundArgs_range {pl : List Byte} {a : ScreenId × SoundSettings} (h : setSoundArgs pl = some a) : fieldsInRange 0x1E pl = true := by
  unfold setSoundArgs at h
  split at h
  · simp only [Option.bind_eq_bind, Option.bind_eq_some_iff] at h
    obtain ⟨_, hscreen, _, hhigh, _, hlow, _, hhold, -⟩ := h
    obtain ⟨rfl, hhigh⟩ := within_eq_some hhigh
    have hscreen := index_lt hscreen
    have hlow := within_range hlow
    have hhold := within_range hhold
    simp [fieldsInRange, word16] at hlow hhold ⊢
    omega
  · cases h

theorem announceArgs_range {pl : List Byte} {a : ScreenId × List Nat} (h : announceArgs pl = some a) : fieldsInRange 0x22 pl = true := by
  unfold announceArgs at h
  split at h
  · simp only [Option.bind_eq_bind, Option.bind_eq_some_iff] at h
    obtain ⟨_, hscreen, _, hcount, hids⟩ := h
    split at hids
    · next hall =>
      have hcount := within_range hcount
      simp only [List.all_eq_true, decide_eq_true_eq] at hall
      simp [fieldsInRange]
      exact ⟨index_lt hscreen, by omega, hcount.2, hall⟩
    · cases hids
  · cases h

theorem setCallsArgs_range {pl : List Byte} {a : ScreenId × MixSettings} (h : setCallsArgs pl = some a) : fieldsInRange 0x23 pl = true := by
  unfold setCallsArgs at h
  split at h
  · simp only [Option.bind_eq_bind, Option.bind_eq_some_iff] at h
    obtain ⟨_, hscreen, _, hduck, _, hlevel, -⟩ := h
    have hduck := (within_range hduck).2
    have hlevel := (within_range hlevel).2
    simp only [word16] at hduck hlevel
    simp [fieldsInRange]
    exact ⟨index_lt hscreen, hduck, hlevel⟩
  · cases h

theorem setExciterArgs_range {pl : List Byte} {a : ScreenId × ExciterSettings} (h : setExciterArgs pl = some a) :
    fieldsInRange 0x2A pl = true := by
  unfold setExciterArgs at h
  split at h
  · simp only [Option.bind_eq_bind, Option.bind_eq_some_iff] at h
    obtain ⟨_, hscreen, _, hmute, _, hmode, _, hdeviation, -⟩ := h
    simp [fieldsInRange]
    exact ⟨index_lt hscreen, named_le hmute rfl, named_le hmode rfl, (within_range hdeviation).2⟩
  · cases h

theorem setKitchenArgs_range {pl : List Byte} {a : KitchenSettings} (h : setKitchenArgs pl = some a) : fieldsInRange 0x2C pl = true := by
  unfold setKitchenArgs at h
  split at h
  · simp only [Option.bind_eq_bind, Option.bind_eq_some_iff] at h
    obtain ⟨_, hhigh, _, hlow, _, hunit, _, hrecall, _, hcalls, -⟩ := h
    obtain ⟨rfl, hhigh⟩ := within_eq_some hhigh
    have hlow := within_range hlow
    have hunit := within_range hunit
    have hrecall := within_range hrecall
    have hcalls := within_range hcalls
    simp [fieldsInRange, word16] at hunit hrecall ⊢
    omega
  · cases h

/-- The order number of MARK_READY, COLLECT_ORDER, CANCEL_ORDER and ORDER_QUERY. -/
theorem orderArg_range {pl : List Byte} {a : Nat} {code : Nat} (hc : code ∈ [0x2E, 0x2F, 0x31, 0x32]) (h : orderArg pl = some a) :
    fieldsInRange code pl = true := by
  unfold orderArg at h
  split at h
  · have h := within_range h
    fin_cases hc <;> simpa [fieldsInRange, word16] using h
  · cases h

theorem placeOrderArgs_range {pl : List Byte} {a : PlaceOrderArgs} (h : placeOrderArgs pl = some a) : fieldsInRange 0x30 pl = true := by
  unfold placeOrderArgs at h
  split at h
  · simp only [Option.bind_eq_bind, Option.bind_eq_some_iff] at h
    obtain ⟨_, hticket, _, hpickup, _, hitems, _, hprep, -⟩ := h
    have hticket := (within_range hticket).1
    have hpickup : _ ≤ 1 := named_le hpickup rfl
    have hitems := within_range hitems
    have hprep := (within_range hprep).1
    simp only [word16] at hticket
    simp [fieldsInRange]
    omega
  · cases h

theorem lampSourceArg_of_beyond {source : Byte} {rest : List Byte} (h : 17 ≤ source.toNat) : lampSourceArg source rest = none := by
  obtain ⟨k, hk⟩ : ∃ k, source.toNat = k + 17 := ⟨source.toNat - 17, by omega⟩
  unfold lampSourceArg
  rw [hk]
  rfl

theorem lampSourceArg_index {source : Byte} {rest : List Byte} {x : LampSource} (h : lampSourceArg source rest = some x)
    (hn : 2 ≤ source.toNat ∧ source.toNat ≤ 12) : ∃ b, rest = [b] ∧ b.toNat < 4 := by
  obtain ⟨hlo, hhi⟩ := hn
  unfold lampSourceArg at h
  generalize source.toNat = n at h hlo hhi
  rcases rest with _ | ⟨b, _ | ⟨c, _⟩⟩
  case cons.nil =>
    refine ⟨b, rfl, ?_⟩
    interval_cases n <;>
    · obtain ⟨_, hb, -⟩ := Option.map_eq_some_iff.1 h
      exact index_lt hb
  all_goals interval_cases n <;> cases h

theorem lampSourceArg_port {source : Byte} {rest : List Byte} {x : LampSource} (h : lampSourceArg source rest = some x)
    (hn : source.toNat = 16) : ∃ b, rest = [b] ∧ b.toNat < 3 := by
  unfold lampSourceArg at h
  rw [hn] at h
  rcases rest with _ | ⟨b, _ | ⟨c, _⟩⟩
  case cons.nil =>
    obtain ⟨_, hb, -⟩ := Option.map_eq_some_iff.1 h
    exact ⟨b, rfl, index_lt hb⟩
  all_goals cases h

theorem lampSourceArg_cue {source : Byte} {rest : List Byte} {x : LampSource} (h : lampSourceArg source rest = some x)
    (hn : source.toNat = 13) : ∃ b c, rest = [b, c] ∧ b.toNat < 4 ∧ c.toNat < 4 := by
  unfold lampSourceArg at h
  rw [hn] at h
  rcases rest with _ | ⟨b, _ | ⟨c, _ | _⟩⟩
  case cons.cons.nil =>
    obtain ⟨_, hb, h⟩ := Option.bind_eq_some_iff.1 h
    obtain ⟨_, hc, -⟩ := Option.bind_eq_some_iff.1 h
    exact ⟨b, c, rfl, index_lt hb, index_lt hc⟩
  all_goals cases h

theorem setLampArgs_range {pl : List Byte} {a : Fin 12 × Lamp} (h : setLampArgs pl = some a) : fieldsInRange 0x34 pl = true := by
  unfold setLampArgs at h
  split at h
  · next lamp source invert blink rest =>
    simp only [Option.bind_eq_bind, Option.bind_eq_some_iff] at h
    obtain ⟨_, hlamp, _, hsource, _, hinvert, _, hblink, -⟩ := h
    have hle : ¬17 ≤ source.toNat := fun hle => by
      rw [lampSourceArg_of_beyond hle] at hsource
      cases hsource
    have hindex (hn : 2 ≤ source.toNat ∧ source.toNat ≤ 13) : ((rest[0]?).getD 0#8).toNat < 4 := by
      by_cases h13 : source.toNat = 13
      · obtain ⟨b, c, rfl, hb, -⟩ := lampSourceArg_cue hsource h13
        exact hb
      · obtain ⟨b, rfl, hb⟩ := lampSourceArg_index hsource ⟨hn.1, by omega⟩
        exact hb
    simp [fieldsInRange]
    refine ⟨index_lt hlamp, by omega, named_le hinvert rfl, named_le hblink rfl, by omega, not_or_of_imp fun hn => ?_, not_or_of_imp fun hn => ?_⟩
    · obtain ⟨b, c, rfl, -, hc⟩ := lampSourceArg_cue hsource hn
      exact hc
    · obtain ⟨b, rfl, hb⟩ := lampSourceArg_port hsource hn
      exact hb
  · cases h

/-- Bytes that name kinds are below 21, and distinct when the kinds are. -/
theorem mapM_named_range {bs : List Byte} {ks : List EventKind} (h : bs.mapM (named eventKinds) = some ks) :
    (∀ b ∈ bs, b.toNat < 21 ∧ ∃ k ∈ ks, named eventKinds b = some k) ∧ (ks.Nodup → bs.Nodup) := by
  induction bs generalizing ks with
  | nil => simp
  | cons b bs ih =>
    simp only [List.mapM_cons, Option.bind_eq_bind, Option.bind_eq_some_iff] at h
    obtain ⟨k, hk, ks', hks, hcons⟩ := h
    cases hcons
    obtain ⟨hbs, hnodup⟩ := ih hks
    refine ⟨List.forall_mem_cons.2 ⟨⟨named_lt hk, k, List.mem_cons_self, hk⟩, fun c hc => ?_⟩, fun hd => ?_⟩
    · obtain ⟨hlt, j, hj, he⟩ := hbs c hc
      exact ⟨hlt, j, List.mem_cons_of_mem k hj, he⟩
    · obtain ⟨hnot, hd⟩ := List.nodup_cons.1 hd
      refine List.nodup_cons.2 ⟨fun hb => ?_, hnodup hd⟩
      obtain ⟨-, j, hj, he⟩ := hbs b hb
      exact hnot (Option.some_inj.1 (he.symm.trans hk) ▸ hj)

theorem clearEventsArgs_range {pl : List Byte} {a : List EventKind} (h : clearEventsArgs pl = some a) : fieldsInRange 0x37 pl = true := by
  unfold clearEventsArgs at h
  split at h
  · simp only [Option.bind_eq_bind, Option.bind_eq_some_iff] at h
    obtain ⟨ks, hks, hd⟩ := h
    split at hd
    · next hnodup =>
      obtain ⟨hlt, hd⟩ := mapM_named_range hks
      simp [fieldsInRange]
      exact ⟨fun b hb => (hlt b hb).1, hd hnodup⟩
    · cases hd
  · cases h

theorem setAttentionArgs_range {pl : List Byte} {a : Vector Bool 4} (h : setAttentionArgs pl = some a) : fieldsInRange 0x38 pl = true := by
  unfold setAttentionArgs at h
  split at h
  · simp only [Option.bind_eq_bind, Option.bind_eq_some_iff] at h
    obtain ⟨_, ha, _, hb, _, hc, _, hd, -⟩ := h
    simp [fieldsInRange]
    exact ⟨named_le ha rfl, named_le hb rfl, named_le hc rfl, named_le hd rfl⟩
  · cases h

theorem portArg_range {pl : List Byte} {n : PortId} (h : indexArg 3 pl = some n) : fieldsInRange 0x39 pl = true := by
  simpa [fieldsInRange] using indexArg_range h

/-! ### Every request -/

theorem ranged_of_fields {α : Type} {args : List Byte → Option α} {body : α → State → State × Reply} {pl : List Byte} {code : Nat}
    (hargs : ∀ a, args pl = some a → fieldsInRange code pl = true) (h : fieldsInRange code pl = false) (u : State) :
    ranged args body pl u = (u, .refuse .range) := by
  refine ranged_none ?_ u
  cases ha : args pl with
  | none => rfl
  | some a => exact absurd (hargs a ha) (by simp [h])

/-- A request of any row with a field out of its range is refused RANGE before any other check (R192). -/
theorem Service.body_range {c : Instr} {v : Service} (hv : service? c = some v) (h : fieldsInRange v.code.toNat v.payload = false) (u : State) :
    v.body v.payload u = (u, .refuse .range) := by
  cases c <;> cases hv
  case admitCar => exact ranged_of_fields (fun _ => admitArgs_range) h u
  case depart | ticketQuery | cancelAdmit => exact ranged_of_fields (fun _ => ticketArg_range (by simp)) h u
  case passSet => exact ranged_of_fields (fun _ => passSetArgs_fields) h u
  case setZone => exact ranged_of_fields (fun _ => setZoneArgs_range) h u
  case entryOpen | entryClose | armShow | startShow | holdShow | resumeShow | endShow | screenReset | screenQuery | clearCues | intakeQuery |
      alignQuery | callsOpen | callsClose | ordersOpen | ordersClose | callQuery | exciterQuery =>
    exact ranged_of_fields (fun _ => screenArg_range (by simp)) h u
  case passQuery => exact ranged_of_fields (fun _ => passArg_fields) h u
  case setLane => exact ranged_of_fields (fun _ => setLaneArgs_range) h u
  case laneOpen | laneClose | laneReset => exact ranged_of_fields (fun _ => laneArg_range (by simp)) h u
  case setScreen => exact ranged_of_fields (fun _ => setScreenArgs_range) h u
  case loadCue => exact ranged_of_fields (fun _ => loadCueArgs_range) h u
  case deleteCue => exact ranged_of_fields (fun _ => deleteCueArgs_range) h u
  case cueQuery => exact ranged_of_fields (fun _ => cueQueryArgs_range) h u
  case setSound => exact ranged_of_fields (fun _ => setSoundArgs_range) h u
  case announce => exact ranged_of_fields (fun _ => announceArgs_range) h u
  case setCalls => exact ranged_of_fields (fun _ => setCallsArgs_range) h u
  case setExciter => exact ranged_of_fields (fun _ => setExciterArgs_range) h u
  case setKitchen => exact ranged_of_fields (fun _ => setKitchenArgs_range) h u
  case markReady | collectOrder | cancelOrder | orderQuery => exact ranged_of_fields (fun _ => orderArg_range (by simp)) h u
  case placeOrder => exact ranged_of_fields (fun _ => placeOrderArgs_range) h u
  case setLamp => exact ranged_of_fields (fun _ => setLampArgs_range) h u
  case clearEvents => exact ranged_of_fields (fun _ => clearEventsArgs_range) h u
  case setAttention => exact ranged_of_fields (fun _ => setAttentionArgs_range) h u
  case portQuery => exact ranged_of_fields (fun _ => portArg_range) h u
  case closeNight | zoneReport | nightReport | gateReport | clipRescan | clipQuery | takeOrder | kitchenReport | lampQuery | readEvents =>
    exact absurd h (by simp [fieldsInRange])

/-! ### The port's refusals (R192) -/

theorem knownCode_iff (code : Byte) : knownCode code = true ↔ 1 ≤ code.toNat ∧ code.toNat ≤ 0x39 := by
  simp [knownCode]

theorem refuseUnknown_of_takes {p : PortId} {r : Request} {s : State} (hs : s.startup = false) (h : (s.ports[p]).takes r = true) :
    s.refuseUnknown p r.code r.tag r.payload = (s.taken p).refuseAtPort p r.code r.tag .unknownRequest := by
  unfold State.refuseUnknown
  rw [hs, offer_of_takes h]
  rfl

/-- A taken request that its port does not refuse: its block's handling and the reply. -/
theorem Service.run_handled {v : Service} {s : State} (hs : s.startup = false) (h : (s.ports[v.port]).takes v.request = true)
    (hr : v.may (s.ports[v.port]).role = true) (hl : v.lengthOk v.payload = true) :
    v.run s = .next ((v.body v.payload (s.taken v.port)).1.answer v.port v.code v.tag (v.body v.payload (s.taken v.port)).2) := by
  have hrole : v.may (s.ports[v.port]).afterTake.role = true := hr
  have ho := offer_of_takes h
  unfold Service.run serve
  rw [hs, show (⟨v.code, v.tag, v.payload⟩ : Request) = v.request from rfl, ho]
  dsimp only
  rw [if_neg (by rw [hrole]; decide), if_neg (by rw [hl]; decide)]
  rfl

/-- Settles O5: the catalogue's roles and lengths are those of each row's service, and the fields that a rule bounds are checked before any
other check of its block. -/
theorem portRefusals : Obligations.PortRefusals := by
  unfold Obligations.PortRefusals
  intro c p r s hreq hs htakes
  dsimp only
  rcases exec_of_request hreq s with ⟨v, hv, rfl, rfl, he⟩ | ⟨hk, he⟩
  · have hknown : 1 ≤ v.request.code.toNat ∧ v.request.code.toNat ≤ 0x39 := (knownCode_iff _).1 (Service.knownCode_of hv)
    have hmay : v.may (s.ports[v.port]).role = true ↔ (s.ports[v.port]).role ∈ catalogueRoles v.request.code.toNat := by
      rw [Service.may_eq hv, decide_eq_true_eq]
      rfl
    refine ⟨fun hnot => absurd hknown hnot, fun _ hrole => ?_, fun _ hrole hlen => ?_, fun _ hrole hlen hfields => ?_⟩ <;> rw [he]
    · exact serve_notPermitted hs htakes (Bool.eq_false_iff.2 (mt hmay.1 hrole))
    · exact serve_badLength hs htakes (hmay.2 hrole) (Bool.eq_false_iff.2 (mt (Service.lengthOk_iff hv _).1 hlen))
    · rw [Service.run_handled hs htakes (hmay.2 hrole) ((Service.lengthOk_iff hv _).2 hlen), Service.body_range hv hfields]
      rfl
  · have hunknown : ¬(1 ≤ r.code.toNat ∧ r.code.toNat ≤ 0x39) := fun hknown => by
      rw [(knownCode_iff _).2 hknown] at hk
      cases hk
    refine ⟨fun _ => ?_, fun h => absurd h hunknown, fun h => absurd h hunknown, fun h => absurd h hunknown⟩
    rw [he, refuseUnknown_of_takes hs htakes]
    rfl

end Sys2Proof.Machine

/-! Every taken request is answered once (O6). -/

namespace Sys2Proof.Machine

/-! ### What a handling leaves of the ports -/

/-- A port that differs at most in its flags, its mask and its attention line. -/
def Port.SameButFlags (q r : Port) : Prop := ∃ flags mask attention, r = { q with flags, mask, attention }

theorem Port.SameButFlags.refl (q : Port) : q.SameButFlags q := ⟨_, _, _, rfl⟩

theorem modPort_sameButFlags {p : PortId} {f : Port → Port} {s : State} (h : (s.ports[p]).SameButFlags (f s.ports[p])) (j : PortId) :
    (s.ports[j]).SameButFlags (s.modPort p f).ports[j] := by
  simp only [State.modPort_ports, upd_get]
  split
  · next e => exact e ▸ h
  · exact .refl _

theorem ranged_sameButFlags {α : Type} {args : List Byte → Option α} {body : α → State → State × Reply} {j : PortId}
    (hbody : ∀ a (u : State), (u.ports[j]).SameButFlags (body a u).1.ports[j]) (payload : List Byte) (u : State) :
    (u.ports[j]).SameButFlags (ranged args body payload u).1.ports[j] := by
  unfold ranged
  split
  · exact .refl _
  · exact hbody _ u

/-- The handling of a request touches of the ports the flags, the masks and the lines alone. -/
theorem service_sameButFlags {c : Instr} {v : Service} (hv : service? c = some v) (u : State) (j : PortId) :
    (u.ports[j]).SameButFlags (v.body v.payload u).1.ports[j] := by
  have posted (hf : ¬v.atFlags) : (u.ports[j]).SameButFlags (v.body v.payload u).1.ports[j] := by
    obtain ⟨flags, attention, h⟩ := (service_posts hv hf u).port j
    exact ⟨flags, _, attention, h⟩
  cases c <;> cases hv
  case readEvents p tag b => exact modPort_sameButFlags (p := p) (f := Port.readFlags) ⟨_, _, _, rfl⟩ j
  case clearEvents p tag b => exact ranged_sameButFlags (fun a u => modPort_sameButFlags (p := p) (f := Port.clearFlags a) ⟨_, _, _, rfl⟩ j) _ u
  case setAttention p tag b =>
    exact ranged_sameButFlags (fun a u => modPort_sameButFlags (p := p) (f := fun q => { q with mask := a }.examine) ⟨_, _, _, rfl⟩ j) _ u
  all_goals exact posted (by simp [Service.atFlags])

/-! ### The one reply -/

/-- A handling answers OK, or refuses and changes nothing. -/
def Answered (u : State) (r : State × Reply) : Prop := (∃ payload, r.2 = .ok payload) ∨ ∃ status, r = (u, .refuse status)

theorem answered_ok (u w : State) (payload : List Byte) : Answered u (w, .ok payload) := .inl ⟨payload, rfl⟩

theorem answered_refuse (u : State) (status : Status) : Answered u (u, .refuse status) := .inr ⟨status, rfl⟩

theorem ranged_answered {α : Type} {args : List Byte → Option α} {body : α → State → State × Reply} (hbody : ∀ a u, Answered u (body a u))
    (payload : List Byte) (u : State) : Answered u (ranged args body payload u) := by
  unfold ranged
  split
  · exact answered_refuse u _
  · exact hbody _ u

theorem answered_ite {c : Prop} [Decidable c] {u : State} {x y : State × Reply} (hx : Answered u x) (hy : Answered u y) :
    Answered u (if c then x else y) := by
  split
  · exact hx
  · exact hy

theorem admitBody_answered (a : AdmitArgs) (u : State) : Answered u (u.admitBody a) := by
  unfold State.admitBody
  split
  · exact answered_refuse u _
  · exact answered_ok u _ _
  · exact answered_refuse u _

theorem departBody_answered (n : Nat) (u : State) : Answered u (u.departBody n) := by
  unfold State.departBody
  split
  · exact answered_refuse u _
  · split
    · exact answered_refuse u _
    · exact answered_ok u _ _

theorem setZoneBody_answered (a : ScreenId × Nat) (u : State) : Answered u (u.setZoneBody a) :=
  answered_ite (answered_refuse u _) (answered_ite (answered_refuse u _) (answered_ok u _ _))

theorem closeNightBody_answered (b : List Byte) (u : State) : Answered u (u.closeNightBody b) :=
  answered_ite (answered_ok u _ _) (answered_refuse u _)

theorem ticketQueryBody_answered (n : Nat) (u : State) : Answered u (u.ticketQueryBody n) := by
  unfold State.ticketQueryBody
  split
  · exact answered_ok u _ _
  · exact answered_refuse u _

theorem setLaneBody_answered (a : LaneName × LaneSettings) (u : State) : Answered u (u.setLaneBody a) := by
  unfold State.setLaneBody
  split <;> exact answered_ite (answered_ok u _ _) (answered_refuse u _)

theorem laneOpenBody_answered (a : LaneName) (u : State) : Answered u (u.laneOpenBody a) := answered_ok u _ _

theorem laneCloseBody_answered (a : LaneName) (u : State) : Answered u (u.laneCloseBody a) := by
  unfold State.laneCloseBody
  split
  · exact answered_refuse u _
  · exact answered_ok u _ _

theorem cancelAdmitBody_answered (n : Nat) (u : State) : Answered u (u.cancelAdmitBody n) := by
  unfold State.cancelAdmitBody
  split
  · exact answered_refuse u _
  · split
    · exact answered_refuse u _
    · exact answered_ite (answered_ok u _ _) (answered_refuse u _)

theorem laneResetBody_answered (a : LaneName) (u : State) : Answered u (u.laneResetBody a) := by
  cases a <;> exact answered_ok u _ _

theorem setScreenBody_answered (a : ScreenId × ScreenSettings) (u : State) : Answered u (u.setScreenBody a) := by
  unfold State.setScreenBody
  split
  · exact answered_refuse u _
  · exact answered_ok u _ _

theorem armShowBody_answered (i : ScreenId) (u : State) : Answered u (u.armShowBody i) := by
  unfold State.armShowBody
  split
  · exact answered_ok u _ _
  · exact answered_refuse u _

theorem startShowBody_answered (i : ScreenId) (u : State) : Answered u (u.startShowBody i) := by
  unfold State.startShowBody
  split
  · exact answered_ok u _ _
  · exact answered_refuse u _

theorem endShowBody_answered (i : ScreenId) (u : State) : Answered u (u.endShowBody i) := by
  unfold State.endShowBody
  split
  · exact answered_ok u _ _
  · exact answered_refuse u _

theorem holdShowBody_answered (i : ScreenId) (u : State) : Answered u (u.holdShowBody i) := by
  unfold State.holdShowBody
  split
  · exact answered_ok u _ _
  · exact answered_ok u _ _
  · exact answered_ok u _ _
  all_goals exact answered_refuse u _

theorem resumeShowBody_answered (i : ScreenId) (u : State) : Answered u (u.resumeShowBody i) := by
  unfold State.resumeShowBody
  exact answered_ite (answered_ite (answered_refuse u _) (answered_ok u _ _)) (answered_refuse u _)

theorem loadCueBody_answered (a : LoadCueArgs) (u : State) : Answered u (u.loadCueBody a) := by
  unfold State.loadCueBody
  split
  · exact answered_refuse u _
  · exact answered_ok u _ _

theorem deleteCueBody_answered (a : ScreenId × Nat) (u : State) : Answered u (u.deleteCueBody a) := by
  unfold State.deleteCueBody
  dsimp only
  split
  · exact answered_refuse u _
  · exact answered_ite (answered_refuse u _) (answered_ok u _ _)

theorem clearCuesBody_answered (i : ScreenId) (u : State) : Answered u (u.clearCuesBody i) := by
  unfold State.clearCuesBody
  split
  · exact answered_refuse u _
  · exact answered_ok u _ _

theorem announceBody_answered (a : ScreenId × List Nat) (u : State) : Answered u (u.announceBody a) := by
  unfold State.announceBody
  exact answered_ite (answered_refuse u _) (answered_ite (answered_refuse u _) (answered_ok u _ _))

theorem takeOrderBody_answered (b : List Byte) (u : State) : Answered u (u.takeOrderBody b) := by
  unfold State.takeOrderBody
  split
  · exact answered_refuse u _
  · split
    · exact answered_ok u _ _
    · exact answered_refuse u _

theorem markReadyBody_answered (n : Nat) (u : State) : Answered u (u.markReadyBody n) := by
  unfold State.markReadyBody
  split
  · exact answered_refuse u _
  · exact answered_ite (answered_ok u _ _) (answered_refuse u _)

theorem collectOrderBody_answered (n : Nat) (u : State) : Answered u (u.collectOrderBody n) := by
  unfold State.collectOrderBody
  split
  · exact answered_refuse u _
  · exact answered_ite (answered_ok u _ _) (answered_refuse u _)

theorem cancelOrderBody_answered (n : Nat) (u : State) : Answered u (u.cancelOrderBody n) := by
  unfold State.cancelOrderBody
  split
  · exact answered_refuse u _
  · exact answered_ok u _ _

theorem placeOrderBody_answered (p : PortId) (a : PlaceOrderArgs) (u : State) : Answered u (u.placeOrderBody p a) := by
  unfold State.placeOrderBody
  split
  · exact answered_refuse u _
  · split
    · exact answered_refuse u _
    · exact answered_ok u _ _

theorem orderQueryBody_answered (n : Nat) (u : State) : Answered u (u.orderQueryBody n) := by
  unfold State.orderQueryBody
  split
  · exact answered_ok u _ _
  · exact answered_refuse u _

/-- Every request but CLIP_RESCAN is answered in its own handling, and a refusal changes nothing (R193). -/
theorem service_answered {c : Instr} {v : Service} (hv : service? c = some v) (hc : v.code ≠ 0x21#8) (u : State) :
    Answered u (v.body v.payload u) := by
  cases c <;> cases hv
  case admitCar => exact ranged_answered admitBody_answered _ u
  case depart => exact ranged_answered departBody_answered _ u
  case setZone => exact ranged_answered setZoneBody_answered _ u
  case closeNight => exact closeNightBody_answered [] u
  case ticketQuery => exact ranged_answered ticketQueryBody_answered _ u
  case setLane => exact ranged_answered setLaneBody_answered _ u
  case laneOpen => exact ranged_answered laneOpenBody_answered _ u
  case laneClose => exact ranged_answered laneCloseBody_answered _ u
  case cancelAdmit => exact ranged_answered cancelAdmitBody_answered _ u
  case laneReset => exact ranged_answered laneResetBody_answered _ u
  case setScreen => exact ranged_answered setScreenBody_answered _ u
  case armShow => exact ranged_answered armShowBody_answered _ u
  case startShow => exact ranged_answered startShowBody_answered _ u
  case holdShow => exact ranged_answered holdShowBody_answered _ u
  case resumeShow => exact ranged_answered resumeShowBody_answered _ u
  case endShow => exact ranged_answered endShowBody_answered _ u
  case loadCue => exact ranged_answered loadCueBody_answered _ u
  case deleteCue => exact ranged_answered deleteCueBody_answered _ u
  case clearCues => exact ranged_answered clearCuesBody_answered _ u
  case clipRescan => exact absurd rfl hc
  case announce => exact ranged_answered announceBody_answered _ u
  case takeOrder => exact takeOrderBody_answered [] u
  case markReady => exact ranged_answered markReadyBody_answered _ u
  case collectOrder => exact ranged_answered collectOrderBody_answered _ u
  case cancelOrder => exact ranged_answered cancelOrderBody_answered _ u
  case placeOrder => exact ranged_answered (placeOrderBody_answered _) _ u
  case orderQuery => exact ranged_answered orderQueryBody_answered _ u
  case zoneReport | nightReport | gateReport | clipQuery | kitchenReport | lampQuery | readEvents => exact answered_ok u _ _
  all_goals exact ranged_answered (fun a u => answered_ok u _ _) _ u

/-! ### The port and the part after the answer -/

/-- What O6 asks of the state after a reply: `w` is the part that the reply joins, its port still owing it. -/
theorem answer_port {s w : State} {p : PortId} {code tag : Byte} {status : Status} {payload : List Byte}
    (hw : ((s.taken p).ports[p]).SameButFlags w.ports[p]) :
    let t := w.modPort p (·.reply (replyFrame code tag status.code payload))
    (t.ports[p]).tx = (s.ports[p]).tx ++ replyFrame code tag status.code payload ∧ (t.ports[p]).outstanding = false ∧
      (t.ports[p]).held = none ∧ (t.ports[p]).counts.taken = min 65535 ((s.ports[p]).counts.taken + 1) := by
  obtain ⟨flags, mask, attention, hq⟩ := hw
  simp only [State.modPort_ports, upd_get_self, hq, State.taken]
  exact ⟨rfl, rfl, rfl, rfl⟩

/-- What O6 asks of the state after a refusal: nothing but the port that took the request has changed. -/
theorem refused_only {s : State} {p : PortId} {f : Port → Port} (hf : ∀ q, (f q).flags = q.flags ∧ (f q).mask = q.mask ∧
      (f q).attention = q.attention ∧ (f q).rx = q.rx) :
    let t := (s.taken p).modPort p f
    { t with ports := s.ports } = s ∧ (∀ j : PortId, j ≠ p → t.ports[j] = s.ports[j]) ∧ (t.ports[p]).flags = (s.ports[p]).flags ∧
      (t.ports[p]).mask = (s.ports[p]).mask ∧ (t.ports[p]).attention = (s.ports[p]).attention ∧ (t.ports[p]).rx = (s.ports[p]).rx := by
  refine ⟨rfl, fun j hj => ?_, ?_⟩
  · simp only [State.modPort_ports, State.taken]
    rw [upd_get_ne _ _ _ _ hj.symm, upd_get_ne _ _ _ _ hj.symm]
  · simp only [State.modPort_ports, State.taken, upd_get_self]
    exact hf _

/-- The answer to a request that its port refuses by its own checks. -/
theorem refuseAtPort_once (s : State) (p : PortId) (code tag : Byte) (status : Status) :
    let t := (s.taken p).refuseAtPort p code tag status
    (t.ports[p]).tx = (s.ports[p]).tx ++ replyFrame code tag status.code [] ∧ (t.ports[p]).outstanding = false ∧
      (t.ports[p]).held = none ∧ (t.ports[p]).counts.taken = min 65535 ((s.ports[p]).counts.taken + 1) ∧
      { t with ports := s.ports } = s ∧ (∀ j : PortId, j ≠ p → t.ports[j] = s.ports[j]) ∧
      (t.ports[p]).flags = (s.ports[p]).flags ∧ (t.ports[p]).mask = (s.ports[p]).mask ∧
      (t.ports[p]).attention = (s.ports[p]).attention ∧ (t.ports[p]).rx = (s.ports[p]).rx := by
  have ht : (s.taken p).refuseAtPort p code tag status = (s.taken p).modPort p fun q =>
      (q.count fun c => { c with refused := inc16 c.refused }).reply (replyFrame code tag status.code []) := by
    simp only [State.refuseAtPort, State.answer, State.modPort, upd_upd]
  rw [ht]
  refine ⟨?_, ?_, ?_, ?_, refused_only fun q => ⟨rfl, rfl, rfl, rfl⟩⟩ <;>
  · simp only [State.modPort_ports, State.taken, upd_get_self]
    rfl

/-- The conclusion of O6: one reply, and after a refusal nothing but the port has changed. -/
def State.AnsweredOnce (s : State) (p : PortId) (code tag : Byte) (o : Host.Outcome State Fault Refusal) : Prop :=
  ∃ (t : State) (status : Status) (payload : List Byte), o = .next t ∧
    (t.ports[p]).tx = (s.ports[p]).tx ++ replyFrame code tag status.code payload ∧ (t.ports[p]).outstanding = false ∧
    (t.ports[p]).held = none ∧ (t.ports[p]).counts.taken = min 65535 ((s.ports[p]).counts.taken + 1) ∧
    (status ≠ .ok → payload = [] ∧ { t with ports := s.ports } = s ∧ (∀ j : PortId, j ≠ p → t.ports[j] = s.ports[j]) ∧
      (t.ports[p]).flags = (s.ports[p]).flags ∧ (t.ports[p]).mask = (s.ports[p]).mask ∧
      (t.ports[p]).attention = (s.ports[p]).attention ∧ (t.ports[p]).rx = (s.ports[p]).rx)

theorem answeredOnce_refuseAtPort (s : State) (p : PortId) (code tag : Byte) (status : Status) :
    s.AnsweredOnce p code tag (.next ((s.taken p).refuseAtPort p code tag status)) := by
  obtain ⟨htx, hout, hheld, htaken, hrest⟩ := refuseAtPort_once s p code tag status
  exact ⟨_, status, [], rfl, htx, hout, hheld, htaken, fun _ => ⟨rfl, hrest⟩⟩

/-- A taken request handled by its service. -/
theorem answeredOnce_handled {c : Instr} {v : Service} (hv : service? c = some v) (hcode : v.code ≠ 0x21#8) (s : State) :
    s.AnsweredOnce v.port v.code v.tag
      (.next ((v.body v.payload (s.taken v.port)).1.answer v.port v.code v.tag (v.body v.payload (s.taken v.port)).2)) := by
  have hports := service_sameButFlags hv (s.taken v.port) v.port
  rcases service_answered hv hcode (s.taken v.port) with ⟨payload, hok⟩ | ⟨status, hrefuse⟩
  · rw [hok]
    obtain ⟨htx, hout, hheld, htaken⟩ := answer_port (code := v.code) (tag := v.tag) (status := .ok) (payload := payload) hports
    exact ⟨_, .ok, payload, rfl, htx, hout, hheld, htaken, fun h => absurd rfl h⟩
  · rw [hrefuse]
    obtain ⟨htx, hout, hheld, htaken⟩ :=
      answer_port (s := s) (w := s.taken v.port) (code := v.code) (tag := v.tag) (status := status) (payload := []) (.refl _)
    exact ⟨_, status, [], rfl, htx, hout, hheld, htaken, fun _ => ⟨rfl, refused_only fun q => ⟨rfl, rfl, rfl, rfl⟩⟩⟩

/-- Settles O6, by the reply that the handling of each row's service gives. -/
theorem everyTakenRequestIsAnsweredOnce : Obligations.EveryTakenRequestIsAnsweredOnce := by
  unfold Obligations.EveryTakenRequestIsAnsweredOnce
  intro c p r s hreq hs htakes hcode
  change s.AnsweredOnce p r.code r.tag (exec c s)
  rcases exec_of_request hreq s with ⟨v, hv, rfl, rfl, he⟩ | ⟨hk, he⟩ <;> rw [he]
  · by_cases hrole : v.may (s.ports[v.port]).role = true
    · by_cases hlen : v.lengthOk v.payload = true
      · rw [Service.run_handled hs htakes hrole hlen]
        exact answeredOnce_handled hv hcode s
      · rw [Service.run, serve_badLength hs htakes hrole (Bool.eq_false_iff.2 hlen)]
        exact answeredOnce_refuseAtPort s v.port _ _ _
    · rw [Service.run, serve_notPermitted hs htakes (Bool.eq_false_iff.2 hrole)]
      exact answeredOnce_refuseAtPort s v.port _ _ _
  · rw [refuseUnknown_of_takes hs htakes]
    exact answeredOnce_refuseAtPort s p _ _ _

end Sys2Proof.Machine

/-! A request by the bytes of its frame is the request offered whole (O7). -/

namespace Sys2Proof.Machine

/-! ### One byte and the parser -/

/-- A byte received and taken by the parser at once (R187, R188). -/
def Port.hearByte (q : Port) (b : Byte) : Port := (q.receive b true).parserTake

/-- A port with nothing received and waiting, nothing held and hold-out released, as the bytes of a frame find it. -/
structure Port.Listening (q : Port) : Prop where
  rx : q.rx = []
  held : q.held = none
  holdOut : q.holdOut = false

theorem Port.hearByte_eq {q : Port} (h : q.Listening) (b : Byte) :
    q.hearByte b = Port.parseByte b { q with gapTimer := some 5, lastBreak := false } := by
  obtain ⟨hrx, hheld, hout⟩ := h
  simp [Port.hearByte, Port.receive, Port.rxFill, Port.placeByte, Port.parserTake, Port.releaseHoldOut, hrx, hheld, hout, RxItem.isByte]

/-- A port in the middle of a frame: its parser's state, the gap timer running, the last thing placed a byte. -/
def Port.inFrame (x : Parser) (q : Port) : Port := { q with parser := x, gapTimer := some 5, lastBreak := false }

theorem Port.Listening.inFrame {q : Port} (h : q.Listening) (x : Parser) : (q.inFrame x).Listening := ⟨h.rx, h.held, h.holdOut⟩

theorem Port.hearByte_start {q : Port} (h : q.Listening) (hq : q.parser = .hunt) : q.hearByte startByte = q.inFrame .length := by
  rw [Port.hearByte_eq h]
  simp [Port.parseByte, hq, Port.inFrame]

theorem Port.hearByte_length {q : Port} (h : q.Listening) {n : Nat} (hn : 2 ≤ n ∧ n ≤ 250) :
    (q.inFrame .length).hearByte (BitVec.ofNat 8 n) = q.inFrame (.body n []) := by
  rw [Port.hearByte_eq (h.inFrame _)]
  have hb : (BitVec.ofNat 8 n).toNat = n := ofNat8_toNat (by omega)
  simp only [Port.parseByte, Port.inFrame, hb, if_pos hn]

theorem Port.hearByte_body {q : Port} (h : q.Listening) {n : Nat} {got : List Byte} (hgot : got.length + 1 < n + 2) (b : Byte) :
    (q.inFrame (.body n got)).hearByte b = q.inFrame (.body n (got ++ [b])) := by
  rw [Port.hearByte_eq (h.inFrame _)]
  have hmore : ¬n + 2 ≤ (got ++ [b]).length := by
    simp
    omega
  simp only [Port.parseByte, Port.inFrame, if_neg hmore]

theorem Port.hearByte_last {q : Port} (h : q.Listening) {n : Nat} {got : List Byte} (hgot : got.length + 1 = n + 2) (b : Byte) :
    (q.inFrame (.body n got)).hearByte b = (q.inFrame (.body n got)).completeFrame n (got ++ [b]) := by
  rw [Port.hearByte_eq (h.inFrame _)]
  have hdone : n + 2 ≤ (got ++ [b]).length := by
    simp
    omega
  simp only [Port.parseByte, Port.inFrame, if_pos hdone]

/-- The bytes that end a frame, one after another. -/
theorem Port.hear_rest {q : Port} (h : q.Listening) {n : Nat} {got bs : List Byte} (hbs : bs ≠ []) (hlen : got.length + bs.length = n + 2) :
    bs.foldl Port.hearByte (q.inFrame (.body n got)) = (q.inFrame .hunt).completeFrame n (got ++ bs) := by
  induction bs generalizing got with
  | nil => exact absurd rfl hbs
  | cons b bs ih =>
    rw [List.foldl_cons]
    cases bs with
    | nil =>
      rw [Port.hearByte_last h hlen]
      rfl
    | cons c cs =>
      rw [Port.hearByte_body h (by simp at hlen; omega), ih (by simp) (by simp at hlen ⊢; omega)]
      simp

/-! ### The whole frame -/

theorem length_checkBytes (bs : List Byte) : (checkBytes bs).length = 2 := rfl

/-- The completion of a frame whose check agrees. -/
theorem Port.completeFrame_framed (q : Port) (r : Request) :
    q.completeFrame (r.payload.length + 2) ((r.code :: r.tag :: r.payload) ++ checkBytes (framed (r.code :: r.tag :: r.payload))) =
      { q with parser := .hunt, held := some r } := by
  have hlen : (r.code :: r.tag :: r.payload).length = r.payload.length + 2 := by simp
  obtain ⟨hi, lo, hcheck⟩ : ∃ hi lo, checkBytes (framed (r.code :: r.tag :: r.payload)) = [hi, lo] := ⟨_, _, rfl⟩
  have hagrees : checkAgrees (u8 (r.payload.length + 2) ++ r.code :: r.tag :: r.payload) hi lo = true := checkAgrees_self _ hi lo hcheck
  simp only [Port.completeFrame, hcheck, List.take_left' hlen, List.drop_left' hlen, if_pos hagrees]

/-- The bytes of a frame leave its request held at a port at rest (R188). -/
theorem Port.hear_frame {q : Port} (h : q.Listening) (hq : q.parser = .hunt) {r : Request} (hr : r.payload.length ≤ 248) :
    r.frame.foldl Port.hearByte q = { q with held := some r, gapTimer := some 5, lastBreak := false } := by
  have hframe : r.frame = startByte :: BitVec.ofNat 8 (r.payload.length + 2) ::
      ((r.code :: r.tag :: r.payload) ++ checkBytes (framed (r.code :: r.tag :: r.payload))) := by
    simp [Request.frame, Machine.frame, framed, u8]
  rw [hframe, List.foldl_cons, List.foldl_cons, Port.hearByte_start h hq, Port.hearByte_length h (by omega),
    Port.hear_rest h (by simp) (by simp [length_checkBytes]), List.nil_append, Port.completeFrame_framed]
  simp only [Port.inFrame, hq]

/-! ### The run of the wire's commands -/

theorem modPort_modPort (p : PortId) (f g : Port → Port) (s : State) : (s.modPort p f).modPort p g = s.modPort p fun q => g (f q) := by
  simp only [State.modPort, upd_upd]

theorem modPort_self (p : PortId) (s : State) : (s.modPort p fun q => q) = s := by
  simp [State.modPort, upd]

theorem startup_of_modPort {p : PortId} {f : Port → Port} {s : State} : (s.modPort p f).startup = s.startup := rfl

/-- The commands of one byte. -/
theorem run_byte {p : PortId} {b : Byte} {s : State} {cs : List Instr} (hs : s.startup = false) (k : Nat) :
    Host.Core.run core (k + 2) { s with pending := .portByteReceived p b true :: .parserTake p :: cs } =
      Host.Core.run core k { s.modPort p (·.hearByte b) with pending := cs } := by
  have htake : exec (.parserTake p) (({ s with pending := cs } : State).modPort p (·.receive b true)) =
      .next { s.modPort p (·.hearByte b) with pending := cs } := by
    refine congrArg Host.Outcome.next ((if_neg (by simp [hs])).trans ?_)
    rw [modPort_modPort]
    rfl
  exact congrArg (fun o => match o with | .next t => Host.Core.run core k t | .fault x => .fault x | .refused x => .refused x) htake

/-- The commands of a run of bytes. -/
theorem run_wire {p : PortId} (bs : List Byte) {s : State} {cs : List Instr} (hs : s.startup = false) (k : Nat) :
    Host.Core.run core ((wireCommands p bs).length + k) { s with pending := wireCommands p bs ++ cs } =
      Host.Core.run core k { s.modPort p (bs.foldl Port.hearByte) with pending := cs } := by
  induction bs generalizing s with
  | nil =>
    simp only [wireCommands, List.flatMap_nil, List.length_nil, Nat.zero_add, List.nil_append, List.foldl_nil]
    rw [modPort_self]
  | cons b bs ih =>
    have hlen : (wireCommands p (b :: bs)).length + k = ((wireCommands p bs).length + k) + 2 := by
      simp [wireCommands]
      omega
    rw [hlen]
    refine (run_byte (cs := wireCommands p bs ++ cs) hs _).trans ((ih (s := s.modPort p (·.hearByte b)) hs).trans ?_)
    rw [modPort_modPort]
    rfl

theorem coreRun_one (M : Host.Core) (s : M.State) : M.run 1 s = M.step s := by
  simp only [Host.Core.run]
  split <;> next h => exact h.symm

theorem run_one (s : State) : Host.Core.run core 1 s = step s := coreRun_one core s

/-! ### The request command -/

/-- A request row depends on its port through what the port offers alone. -/
theorem exec_of_offer {c : Instr} {p : PortId} {r : Request} {s t : State} {q : Port} (h : c.request? = some (p, r))
    (hs : (s.ports[p]).offer s.startup r = .taken q) (ht : (t.ports[p]).offer t.startup r = .taken q)
    (he : (s.modPort p fun _ => q) = t.modPort p fun _ => q) : exec c s = exec c t := by
  rcases service_of_request h with ⟨v, hv, rfl, rfl⟩ | ⟨rfl, hk⟩
  · rw [exec_of_service hv, exec_of_service hv]
    unfold Service.run serve
    rw [show (⟨v.code, v.tag, v.payload⟩ : Request) = v.request from rfl, hs, ht]
    dsimp only
    rw [he]
  · refine congrArg Host.Outcome.next ((if_neg (by simp [hk])).trans (Eq.trans ?_ (if_neg (by simp [hk])).symm))
    unfold State.refuseUnknown
    rw [hs, ht]
    dsimp only
    rw [he]

/-- A request held at a port is taken as the same request offered whole to the port at rest, or waits there (log 1). -/
theorem exec_held_eq {c : Instr} {p : PortId} {r : Request} {s : State} (h : c.request? = some (p, r)) (hs : s.startup = false)
    (hrest : (s.ports[p]).atRest = true) (hl : r.payload.length ≤ 248) :
    exec c (s.modPort p fun q => { q with held := some r, gapTimer := some 5, lastBreak := false }) = exec c s := by
  have hheld : (s.ports[p]).held = none := by
    simp only [Port.atRest, Bool.and_eq_true, Option.isNone_iff_eq_none] at hrest
    exact hrest.2
  have hget : (s.modPort p fun q => { q with held := some r, gapTimer := some 5, lastBreak := false }).ports[p] =
      { s.ports[p] with held := some r, gapTimer := some 5, lastBreak := false } := upd_get_self _ _ _
  by_cases hc : (s.ports[p]).canTake = true
  · refine exec_of_offer (q := { s.ports[p] with gapTimer := some 5, lastBreak := false, held := none }.take) h ?_ ?_ ?_
    · rw [hget]
      exact (if_neg (by simp [hs])).trans (if_pos ⟨rfl, hc⟩)
    · have htakes : (s.ports[p]).takes r = true := by
        simp [-Fin.getElem_fin, Port.takes, hc, hheld, hrest, hl]
      rw [hs, offer_of_takes htakes]
      simp [-Fin.getElem_fin, Port.afterTake, Port.take, Port.count, hheld]
    · rw [modPort_modPort]
  · rw [Bool.not_eq_true] at hc
    rw [exec_absent h, exec_waits h (q := { s.ports[p] with held := some r, gapTimer := some 5, lastBreak := false })]
    · exact congrArg Host.Outcome.next (modPort_congr rfl)
    · rw [hs]
      exact offer_atRest_full hrest hl hc
    · exact hget ▸ offer_of_held (q := { s.ports[p] with held := some r, gapTimer := some 5, lastBreak := false }) rfl (.inr hc) _

/-- Settles O7: the bytes leave the request held, and a held request is taken as the same request offered whole. -/
theorem requestByWireIsTheRequest : Obligations.RequestByWireIsTheRequest := by
  unfold Obligations.RequestByWireIsTheRequest
  intro c p r s hreq hs hrest hout hl
  have hparts : (s.ports[p]).parser = .hunt ∧ (s.ports[p]).rx = [] ∧ (s.ports[p]).held = none := by
    simpa [Port.atRest, and_assoc] using hrest
  obtain ⟨hparser, hrx, hheld⟩ := hparts
  have hheard : s.modPort p (r.frame.foldl Port.hearByte) =
      s.modPort p fun q => { q with held := some r, gapTimer := some 5, lastBreak := false } :=
    modPort_congr (Port.hear_frame ⟨hrx, hheld, hout⟩ hparser hl)
  rw [run_wire r.frame hs 1, hheard, run_one]
  exact exec_held_eq (s := { s with pending := [] }) hreq hs hrest hl

end Sys2Proof.Machine

/-! ADMIT, PASS_SET, CLOSE_NIGHT and the queries of the Admission Table and the gate (O8, O9, O11, O13, O14). -/

namespace Sys2Proof.Machine

/-! ### Requests carried to their blocks -/

/-- A request of any row with a field out of its range. -/
theorem exec_range {c : Instr} {v : Service} (hv : service? c = some v) {roles : List Role} {s : State}
    (ha : s.accepts v.port v.request roles = true) (hr : ∀ r, roles.contains r = true → v.may r = true) (hl : v.lengthOk v.payload = true)
    (hf : fieldsInRange v.code.toNat v.payload = false) : exec c s = .next ((s.taken v.port).refusedWith v.port v.code v.tag .range) := by
  rw [exec_of_service hv, Service.run, serve_handled ha hr hl, Service.body_range hv hf]
  rfl

/-- A query: nothing but the port changes, and the bytes answered may be read in another form. -/
theorem replied_bytes {p : PortId} {code tag : Byte} {b b' : List Byte} {s : State} {o : Host.Outcome State Fault Refusal}
    (h : o = .next (State.replied p code tag b s)) (hb : b = b') : o = .next (State.replied p code tag b' s) := hb ▸ h

/-- The elements of a vector, by its indices. -/
theorem toList_eq_finRange {α : Type} {n : Nat} (v : Vector α n) : v.toList = (List.finRange n).map fun i => v[i] := by
  refine List.ext_getElem (by simp) fun k h h' => ?_
  simp

theorem toList_flatMap {α β : Type} {n : Nat} (v : Vector α n) (f : α → List β) :
    v.toList.flatMap f = (List.finRange n).flatMap fun i => f v[i] := by
  rw [toList_eq_finRange, List.flatMap_map]

theorem finRange_four : List.finRange 4 = [0, 1, 2, 3] := rfl

theorem finRange_two : List.finRange 2 = [0, 1] := rfl

/-! ### ADMIT (R9, R10) -/

/-- The first state check of R9 that fails, OK when none does. -/
def State.admitStatus (a : AdmitArgs) (s : State) : Status :=
  if (s.entry[a.lane]).state = .closed ∨ (s.entry[a.lane]).state = .stuck then .laneState
  else if (s.entry[a.lane]).state ≠ .idle then .laneBusy
  else if (s.zones[a.screen]).isOpen = false then .entryClosed
  else if (s.zones[a.screen]).capacity ≤ (s.zones[a.screen]).occupancy then .zoneFull
  else if (match a.payment with | .pass n => s.permits.isSet n | .paid | .comp => true) = false then .passUnknown
  else if (match a.payment with | .pass n => s.used.isSet n | .paid | .comp => false) = true then .passInUse
  else if 2048 ≤ s.tickets.length then .tableFull
  else if s.nextTicket = none then .sequenceExhausted
  else .ok

/-- A status as a check gives it. -/
def Status.check (st : Status) : Option Status := if st = .ok then none else some st

theorem Status.check_ite {c : Prop} [Decidable c] {st rest : Status} (h : st ≠ .ok) :
    (if c then st else rest).check = (if c then some st else none).or rest.check := by
  split
  · simp [Status.check, h]
  · rfl

theorem EntryLane.admitCheck_eq (l : EntryLane) :
    l.admitCheck = (if l.state = .closed ∨ l.state = .stuck then some .laneState else none).or (if l.state ≠ .idle then some .laneBusy else none) := by
  unfold EntryLane.admitCheck
  cases l.state <;> simp

theorem State.passCheck_eq (p : Payment) (s : State) :
    s.passCheck p = (if (match p with | .pass n => s.permits.isSet n | .paid | .comp => true) = false then some .passUnknown else none).or
      (if (match p with | .pass n => s.used.isSet n | .paid | .comp => false) = true then some .passInUse else none) := by
  cases p with
  | paid | comp => rfl
  | pass n =>
    by_cases hp : s.permits.isSet n = true <;> simp [State.passCheck, hp]

theorem State.admitCheck_eq (a : AdmitArgs) (s : State) : s.admitCheck a = (s.admitStatus a).check := by
  have hopen (b : Bool) : (if b then none else some Status.entryClosed) = if b = false then some .entryClosed else none := by cases b <;> rfl
  have hnext : (if s.nextTicket.isSome then none else some Status.sequenceExhausted) =
      if s.nextTicket = none then some .sequenceExhausted else none := by cases s.nextTicket <;> rfl
  have hlt (m n : Nat) (st : Status) : (if m < n then none else some st) = if n ≤ m then some st else none := by
    by_cases h : m < n
    · rw [if_pos h, if_neg (by omega)]
    · rw [if_neg h, if_pos (by omega)]
  unfold State.admitCheck State.admitStatus
  dsimp only
  rw [Status.check_ite (by decide), Status.check_ite (by decide), Status.check_ite (by decide), Status.check_ite (by decide),
    Status.check_ite (by decide), Status.check_ite (by decide), Status.check_ite (by decide), Status.check_ite (by decide),
    EntryLane.admitCheck_eq, State.passCheck_eq, hopen, hnext, hlt, hlt]
  simp only [Option.or_assoc, Status.check, if_true, Option.or_none]

/-- Every check of R9 passes. -/
theorem State.admitStatus_ok {a : AdmitArgs} {s : State} (hidle : (s.entry[a.lane]).state = .idle) (hopen : (s.zones[a.screen]).isOpen = true)
    (hroom : (s.zones[a.screen]).occupancy < (s.zones[a.screen]).capacity)
    (hpass : ∀ n, a.payment = .pass n → s.permits.isSet n = true ∧ s.used.isSet n = false) (htable : s.tickets.length < 2048)
    (hnext : s.nextTicket ≠ none) : s.admitStatus a = .ok := by
  have hlane : ¬((s.entry[a.lane]).state = .closed ∨ (s.entry[a.lane]).state = .stuck) := by
    rw [hidle]
    decide
  unfold State.admitStatus
  rw [if_neg hlane, if_neg (not_not.2 hidle), if_neg (by rw [hopen]; decide), if_neg (Nat.not_le.2 hroom), if_neg (Nat.not_le.2 htable),
    if_neg hnext]
  cases hp : a.payment with
  | paid | comp => rfl
  | pass n =>
    obtain ⟨hset, hfree⟩ := hpass n hp
    simp [hset, hfree]

/-- A status other than OK refuses, with nothing changed. -/
theorem State.admitBody_refused {a : AdmitArgs} {s : State} (h : s.admitStatus a ≠ .ok) : s.admitBody a = (s, .refuse (s.admitStatus a)) := by
  have hcheck : s.admitCheck a = some (s.admitStatus a) := (State.admitCheck_eq a s).trans (if_neg h)
  simp only [State.admitBody, hcheck]

theorem State.admitBody_accepted {a : AdmitArgs} {s : State} {k : Nat} (h : s.admitStatus a = .ok) (hk : s.nextTicket = some k) :
    s.admitBody a = (s.admitTicket k a, .ok (u16 k)) := by
  have hcheck : s.admitCheck a = none := (State.admitCheck_eq a s).trans (if_pos h)
  simp only [State.admitBody, hcheck, hk]

theorem postIf_congr {c d : Bool} {k : EventKind} {x : Detail} {s t : State} (hc : c = d) (h : s = t) :
    State.postIf c k x s = State.postIf d k x t := by rw [hc, h]

/-- The changes of an accepted ADMIT written out (R10). -/
theorem State.admitTicket_eq (k : Nat) (a : AdmitArgs) {s : State} (hroom : (s.zones[a.screen]).occupancy < (s.zones[a.screen]).capacity) :
    s.admitTicket k a = State.postIf ((s.zones[a.screen]).occupancy + 1 = (s.zones[a.screen]).capacity) .zoneFull (.screen a.screen)
      { s with
        tickets := s.tickets ++ [a.ticket k]
        nextTicket := if k < 65535 then some (k + 1) else none
        zones := upd s.zones a.screen fun z => { z with pending := z.pending + 1 }
        used := match a.payment with | .pass n => s.used.setRange n n | .paid | .comp => s.used
        totals := { s.totals with
          admitted := upd s.totals.admitted a.screen inc16
          paid := if a.payment = .paid then inc16 s.totals.paid else s.totals.paid
          pass := if a.payment.byte = u8 1 then inc16 s.totals.pass else s.totals.pass
          comp := if a.payment = .comp then inc16 s.totals.comp else s.totals.comp }
        entry := upd s.entry a.lane fun l =>
          { l with state := .armed, admission := some k, arm := .raised, passTimer := some (l.settings.passWindow * 1000) } } := by
  simp only [State.admitTicket, State.postFullRise_eq_postIf]
  refine postIf_congr (decide_eq_decide.2 ?_) ?_
  · have hzone : (upd s.zones a.screen fun z => { z with pending := z.pending + 1 })[a.screen] =
        { s.zones[a.screen] with pending := (s.zones[a.screen]).pending + 1 } := upd_get_self _ _ _
    have hused (u : State) : (u.markUsed a.payment).zones = u.zones := by cases a.payment <;> rfl
    simp only [State.modEntry_zones, State.modTotals_zones, hused, State.modZone_zones, State.modTickets_zones, hzone, Zone.occupancy]
    simp only [Zone.occupancy] at hroom
    omega
  · cases hp : a.payment <;> simp [hp, State.markUsed, NightTotals.addAdmission, Payment.byte, State.modTickets, State.modZone, State.modTotals,
      State.modEntry, advanceTicket, u8] <;> rfl

theorem exec_admit {p : PortId} {tag : Byte} {a : AdmitArgs} {s : State}
    (ha : s.accepts p ⟨0x01, tag, u8 a.lane.val ++ u8 a.screen.val ++ a.payment.byte ++ u8 a.party ++ a.payment.passBytes⟩ [.gate, .service] = true)
    (hp : a.payment.inRange) (h : 1 ≤ a.party ∧ a.party ≤ 15) :
    exec (.admitCar p tag (u8 a.lane.val ++ u8 a.screen.val ++ a.payment.byte ++ u8 a.party ++ a.payment.passBytes)) s =
      .next (((s.taken p).admitBody a).1.answer p 0x01 tag ((s.taken p).admitBody a).2) :=
  serve_ranged ha rolesG_of_contains (admitLength_payload _ _ _ _) (admitArgs_payload _ _ hp h)

/-- Settles O8: every check of R9 passes, and the changes of R10 follow. -/
theorem admitAccepted : Obligations.AdmitAccepted := by
  unfold Obligations.AdmitAccepted
  intro p tag lane screen payment party k s
  dsimp only
  intro ha hp h1 h15 hidle hopen hroom hpass htable hnext
  have hstatus : (s.taken p).admitStatus ⟨lane, screen, payment, party⟩ = .ok :=
    State.admitStatus_ok hidle hopen hroom hpass htable (by simp [State.taken, hnext])
  rw [exec_admit (a := ⟨lane, screen, payment, party⟩) ha hp ⟨h1, h15⟩, State.admitBody_accepted hstatus hnext,
    State.admitTicket_eq (s := s.taken p) k ⟨lane, screen, payment, party⟩ hroom]
  rfl

/-- Settles O9: the fields first, then the first state check that fails. -/
theorem admitRefusals : Obligations.AdmitRefusals := by
  unfold Obligations.AdmitRefusals
  refine ⟨fun p tag lane screen payment party rest s => ?_, fun p tag lane screen payment party s => ?_⟩
  · dsimp only
    intro ha hlen hbad
    refine exec_range (v := ⟨p, 0x01, tag, _, rolesG, admitLength, ranged admitArgs State.admitBody⟩) rfl ha rolesG_of_contains ?_ ?_
    · simp [admitLength, hlen]
    · rw [Bool.eq_false_iff]
      intro hin
      simp [fieldsInRange] at hin
      obtain ⟨hlane, hscreen, hpay, hparty, hle, hpass⟩ := hin
      rcases hbad with h | h | h | h | h | ⟨hi, lo, hpay1, hrest, hhi⟩
      · omega
      · omega
      · omega
      · simp [h] at hparty
      · omega
      · subst hrest hpay1
        simp at hpass
        omega
  · dsimp only
    intro ha hp h1 h15 hstatus
    rw [exec_admit (a := ⟨lane, screen, payment, party⟩) ha hp ⟨h1, h15⟩, State.admitBody_refused (s := s.taken p) (a := ⟨lane, screen, payment, party⟩) hstatus]
    rfl

/-! ### PASS_SET (R7) -/

theorem PassMap.isSet_marked {first last : Nat} (h : first ≤ last) (set : Bool) (m : PassMap) (n : Nat) :
    (if set then m.setRange first last else m.clearRange first last).isSet n = if first ≤ n ∧ n ≤ last then set else m.isSet n := by
  cases set with
  | true =>
    rw [if_pos rfl, PassMap.isSet_setRange h]
    split <;> simp [*]
  | false =>
    rw [if_neg (by decide), PassMap.isSet_clearRange]
    split <;> simp [*]

theorem PassMap.wf_marked {first last : Nat} (h : first ≤ last) (hl : last ≤ 4095) (set : Bool) {m : PassMap} (hm : m.wf = true) :
    (if set then m.setRange first last else m.clearRange first last).wf = true := by
  split
  · exact PassMap.wf_setRange h (by omega) hm
  · exact PassMap.wf_clearRange _ _ hm

/-- Settles O11: the marks of the range, and their number by the form of a pass map. -/
theorem passSetMarksTheRange : Obligations.PassSetMarksTheRange := by
  unfold Obligations.PassSetMarksTheRange
  intro p tag first last set s
  dsimp only
  intro ha hf16 hl16
  refine ⟨fun hbad => ?_, fun hle hlast hwf => ?_⟩
  · refine exec_range (v := ⟨p, 0x03, tag, _, rolesG, lengthIs 5, ranged passSetArgs State.passSetBody⟩) rfl ha rolesG_of_contains rfl ?_
    have hfirst := u16_word first (by omega)
    have hlast := u16_word last (by omega)
    simp only [word16] at hfirst hlast
    rw [Bool.eq_false_iff]
    intro hin
    simp [fieldsInRange, u16, u8] at hin
    simp at hfirst hlast
    omega
  · have hmarked := PassMap.wf_marked hle hlast set hwf
    refine ⟨_, hmarked, PassMap.isSet_marked hle set s.permits, ?_⟩
    rw [← PassMap.length_eq_countP hmarked]
    refine (serve_ranged ha rolesG_of_contains rfl (passSetArgs_payload set ⟨hle, hlast⟩)).trans ?_
    rfl

/-! ### CLOSE_NIGHT (R22, R23) -/

theorem State.nightQuiet_iff (s : State) : s.nightQuiet = true ↔ (∀ i : ScreenId, (s.shows[i]).state = .idle ∨ (s.shows[i]).state = .ended) ∧
    ∀ n : LaneId, (s.entry[n]).state = .closed ∨ (s.entry[n]).state = .idle := by
  simp only [State.nightQuiet, toList_eq_finRange, Bool.and_eq_true, List.all_eq_true, List.forall_mem_map, List.mem_finRange, true_imp_iff,
    Bool.or_eq_true, beq_iff_eq]

theorem NightTotals.bytes_eq (t : NightTotals) : t.bytes = totalsBytes t := rfl

/-- Settles O13, by the condition of R22 and the changes of R22 and R23. -/
theorem closeNight : Obligations.CloseNight := by
  unfold Obligations.CloseNight
  intro p tag s ha
  have hexec := serve_handled (body := State.closeNightBody) (lengthOk := lengthIs 0) ha rolesG_of_contains rfl
  refine ⟨fun hbusy => hexec.trans ?_, fun hquiet => hexec.trans ?_⟩
  · have hnot : ¬(s.taken p).nightQuiet = true := fun h => hbusy ((State.nightQuiet_iff _).1 h)
    rw [State.closeNightBody, if_neg hnot]
    rfl
  · have hyes : (s.taken p).nightQuiet = true := (State.nightQuiet_iff _).2 hquiet
    rw [State.closeNightBody, if_pos hyes]
    rfl

/-! ### The queries (R20, R21, R46) -/

theorem Ticket.bytes_eq (t : Ticket) : t.bytes =
    u16 t.number ++ u8 t.screen.val ++ u8 t.lane.val ++ u8 (if t.state = .pending then 0 else 1) ++ t.payment.byte ++
      (match t.payment with | .pass n => u8 1 ++ u16 n | .paid | .comp => u8 0) ++ u8 t.party ++
      (match t.state with
        | .pending => u8 0 ++ u8 0
        | .present cls enteredAt => u8 1 ++ enumByte [.car, .long, .unmeasured] cls ++ u8 1 ++ u16 enteredAt) ++
      flagByte t.tailgate ++ u8 t.openOrders := by
  unfold Ticket.bytes Ticket.pass? Ticket.cls? Ticket.enteredAt?
  cases t.payment <;> cases t.state <;> simp [optBytes, TicketState.byte, classNames]

theorem optBytes_eq (x : Option Nat) : optBytes u16 x = match x with | some n => u8 1 ++ u16 n | none => u8 0 := by cases x <;> rfl

theorem EntryLane.bytes_eq (l : EntryLane) : l.bytes =
    enumByte [.closed, .idle, .armed, .passing, .settling, .stuck] l.state ++ u8 (if l.loop = .clear then 0 else 1) ++
      u8 (if l.arm = .lowered then 0 else 1) ++ (match l.admission with | some k => u8 1 ++ u16 k | none => u8 0) ++
      u16 l.counts.commits ++ u16 l.counts.timeouts ++ u16 l.counts.tailgates ++ u16 l.counts.unadmitted ++ u16 l.counts.long ++
      u16 l.counts.stuck := by
  unfold EntryLane.bytes
  rw [optBytes_eq]
  cases l.loop <;> cases l.arm <;> rfl

theorem ExitLane.bytes_eq (x : ExitLane) : x.bytes =
    enumByte [.closed, .isOpen, .stuck] x.state ++ u8 (if x.loop = .clear then 0 else 1) ++ u16 x.exits ++ u16 x.stuck := by
  unfold ExitLane.bytes
  cases x.loop <;> rfl

theorem Zone.bytes_eq (z : Zone) : z.bytes =
    u16 z.capacity ++ u8 (if z.isOpen then 0 else 1) ++ u16 z.pending ++ u16 z.present ++ u16 z.long ++
      flagByte (z.pending + z.present == z.capacity) := by
  unfold Zone.bytes Zone.full Zone.occupancy
  cases z.isOpen <;> rfl

theorem Ticket.pass_eq_some (t : Ticket) (n : Nat) : (t.pass? == some n) = (t.payment == .pass n) := by
  unfold Ticket.pass?
  cases t.payment <;> simp

/-- The ticket that carries a pass: where none does, the used mark is not set (R8). -/
theorem State.passQuery_ticket {s : State} (h : s.passLaws) (n : Nat) :
    (if s.used.isSet n then (s.passTicket? n).map (·.number) else none) =
      (s.tickets.find? fun t => t.payment == .pass n).map (·.number) := by
  obtain ⟨-, -, -, hused⟩ := h
  have hfind : s.passTicket? n = s.tickets.find? fun t => t.payment == .pass n :=
    congrArg (fun f => s.tickets.find? f) (funext fun t => Ticket.pass_eq_some t n)
  rw [hfind]
  split
  · rfl
  · next hnot =>
    rw [hused, List.mem_filterMap] at hnot
    have hnone : (s.tickets.find? fun t => t.payment == .pass n) = none := by
      rw [List.find?_eq_none]
      intro t ht hp
      exact hnot ⟨t, ht, by rw [← Ticket.pass_eq_some] at hp; exact beq_iff_eq.1 hp⟩
    rw [hnone]
    rfl

/-- Settles O14: each query answers its fields and changes its port alone. -/
theorem tableAndGateQueries : Obligations.TableAndGateQueries := by
  unfold Obligations.TableAndGateQueries
  intro p tag s
  refine ⟨fun t ha h1 h2 ht => ?_, fun n ha h1 h2 hn => ?_, fun n ha hn hlaws => ?_, fun ha => ?_, fun ha => ?_, fun ha => ?_⟩
  · refine (serve_ranged ha rolesAll_of_contains rfl (ticketArg_u16 ⟨h1, h2⟩)).trans ?_
    have hbody : (s.taken p).ticketQueryBody t.number = (s.taken p, .ok t.bytes) := by
      have ht' : (s.taken p).ticket? t.number = some t := ht
      rw [State.ticketQueryBody, ht']
    rw [hbody, Ticket.bytes_eq]
    rfl
  · refine (serve_ranged ha rolesAll_of_contains rfl (ticketArg_u16 ⟨h1, h2⟩)).trans ?_
    have hbody : (s.taken p).ticketQueryBody n = (s.taken p, .refuse .noSuchTicket) := by
      have hn' : (s.taken p).ticket? n = none := hn
      rw [State.ticketQueryBody, hn']
    rw [hbody]
    rfl
  · refine replied_bytes (serve_ranged ha rolesAll_of_contains rfl (passArg_u16 hn)) ?_
    rw [State.passQuery_ticket (s := s.taken p) hlaws, optBytes_eq]
    change _ ++ (match (s.tickets.find? fun t => t.payment == .pass n).map (·.number) with | some k => u8 1 ++ u16 k | none => u8 0) = _
    cases s.tickets.find? fun t => t.payment == .pass n <;> rfl
  · refine replied_bytes (serve_handled ha rolesAll_of_contains rfl) ?_
    rw [toList_flatMap, finRange_four]
    exact congrArg (fun f => List.flatMap f _) (funext fun i => Zone.bytes_eq _)
  · refine replied_bytes (serve_handled ha rolesAll_of_contains rfl) ?_
    rw [optBytes_eq]
    rfl
  · refine replied_bytes (serve_handled ha rolesAll_of_contains rfl) ?_
    rw [toList_flatMap, toList_flatMap, finRange_four, finRange_two, funext EntryLane.bytes_eq, funext ExitLane.bytes_eq]
    rfl

end Sys2Proof.Machine

/-! The lanes: settings and doors, loop edges, timers and resets (O16, O18 to O22). -/

namespace Sys2Proof.Machine

/-! ### What a request's block answers, carried to its port -/

/-- A taken request with its fields in range, answered OK by its block. -/
theorem serve_ok {α : Type} {args : List Byte → Option α} {body : α → State → State × Reply} {a : α}
    {p : PortId} {code tag : Byte} {payload : List Byte} {may : Role → Bool} {lengthOk : List Byte → Bool} {roles : List Role} {s t : State}
    {b : List Byte} (h : s.accepts p ⟨code, tag, payload⟩ roles = true) (hr : ∀ r, roles.contains r = true → may r = true)
    (hl : lengthOk payload = true) (ha : args payload = some a) (hb : body a (s.taken p) = (t, .ok b)) :
    serve p code tag payload may lengthOk (ranged args body) s = .next (State.replied p code tag b t) := by
  rw [serve_ranged h hr hl ha, hb]
  rfl

/-- A taken request with its fields in range, refused by its block. -/
theorem serve_refused {α : Type} {args : List Byte → Option α} {body : α → State → State × Reply} {a : α}
    {p : PortId} {code tag : Byte} {payload : List Byte} {may : Role → Bool} {lengthOk : List Byte → Bool} {roles : List Role} {s : State}
    {st : Status} (h : s.accepts p ⟨code, tag, payload⟩ roles = true) (hr : ∀ r, roles.contains r = true → may r = true)
    (hl : lengthOk payload = true) (ha : args payload = some a) (hb : body a (s.taken p) = (s.taken p, .refuse st)) :
    serve p code tag payload may lengthOk (ranged args body) s = .next ((s.taken p).refusedWith p code tag st) := by
  rw [serve_ranged h hr hl ha, hb]
  rfl

/-! ### Updates of one lane -/

/-- Only the value at the place matters to an update. -/
theorem upd_congr {α : Type} {n : Nat} {v : Vector α n} {i : Fin n} {f g : α → α} (h : f v[i] = g v[i]) : upd v i f = upd v i g := by
  unfold upd
  rw [h]

theorem modEntry_congr {n : LaneId} {f g : EntryLane → EntryLane} {s : State} (h : f s.entry[n] = g s.entry[n]) :
    s.modEntry n f = s.modEntry n g := congrArg (fun v => { s with entry := v }) (upd_congr h)

theorem modExit_congr {n : ExitId} {f g : ExitLane → ExitLane} {s : State} (h : f s.exits[n] = g s.exits[n]) :
    s.modExit n f = s.modExit n g := congrArg (fun v => { s with exits := v }) (upd_congr h)

theorem modEntry_modEntry (n : LaneId) (f g : EntryLane → EntryLane) (s : State) :
    (s.modEntry n f).modEntry n g = s.modEntry n fun l => g (f l) := congrArg (fun v => { s with entry := v }) (upd_upd s.entry n f g)

/-! ### SET_LANE, LANE_OPEN, LANE_CLOSE (R26, R29, R44) -/

theorem EntryLane.openUp_eq (l : EntryLane) : l.openUp = { l with state := if l.state = .closed then .idle else l.state } := by
  unfold EntryLane.openUp
  split <;> rfl

theorem ExitLane.openUp_eq (x : ExitLane) : x.openUp = { x with
    state := if x.state = .closed then .isOpen else x.state
    stuckTimer := if x.state = .closed ∧ x.loop = .occupied then some (x.settings.stuckLimit * 1000) else x.stuckTimer } := by
  obtain ⟨state, loop, _, _, _, _⟩ := x
  cases state <;> cases loop <;> rfl

theorem State.laneStateBytes_modEntry (n : LaneId) (f : EntryLane → EntryLane) (s : State) :
    (s.modEntry n f).laneStateBytes (.entry n) = enumByte entryStateNames (f s.entry[n]).state := by
  rw [State.laneStateBytes, State.modEntry_entry, upd_get_self]

theorem State.laneStateBytes_modExit (n : ExitId) (f : ExitLane → ExitLane) (s : State) :
    (s.modExit n f).laneStateBytes (.exit n) = enumByte exitStateNames (f s.exits[n]).state := by
  rw [State.laneStateBytes, State.modExit_exits, upd_get_self]

/-- Settles O16, each request by the kind of the lane named. -/
theorem laneSettingsAndDoors : Obligations.LaneSettingsAndDoors := by
  unfold Obligations.LaneSettingsAndDoors
  intro p tag n x t s
  refine ⟨fun ha ⟨h1, h2, h3, h4, h5, h6, h7, h8⟩ => ?_, fun ha ⟨h1, h2, h3, h4, h5, h6, h7, h8⟩ => ?_, fun ha => ?_, fun ha => ?_,
    fun ha => ?_, fun ha => ?_⟩
  · have hargs := setLaneArgs_payload (.entry n) ⟨h1, h2⟩ ⟨h3, h4⟩ ⟨h5, h6⟩ ⟨h7, h8⟩
    simp only [List.append_assoc] at hargs
    split
    · next hc => exact serve_ok ha rolesG_of_contains rfl hargs (if_pos hc)
    · next hc => exact serve_refused ha rolesG_of_contains rfl hargs (if_neg hc)
  · have hargs := setLaneArgs_payload (.exit x) ⟨h1, h2⟩ ⟨h3, h4⟩ ⟨h5, h6⟩ ⟨h7, h8⟩
    simp only [List.append_assoc] at hargs
    split
    · next hc => exact serve_ok ha rolesG_of_contains rfl hargs (if_pos hc)
    · next hc => exact serve_refused ha rolesG_of_contains rfl hargs (if_neg hc)
  · refine serve_ok ha rolesG_of_contains rfl (laneArg_bytes (.entry n)) ?_
    rw [State.laneOpenBody, State.laneStateBytes_modEntry, funext EntryLane.openUp_eq]
    rfl
  · refine serve_ok ha rolesG_of_contains rfl (laneArg_bytes (.exit x)) ?_
    rw [State.laneOpenBody, State.laneStateBytes_modExit, funext ExitLane.openUp_eq]
    rfl
  · have hbusy : (s.taken p).closeBusy (.entry n) = !decide ((s.entry[n]).state = .closed ∨ (s.entry[n]).state = .idle) := by
      rw [State.closeBusy, Bool.decide_or]
      rfl
    split
    · next hc =>
      refine serve_ok ha rolesG_of_contains rfl (laneArg_bytes (.entry n)) ?_
      rw [State.laneCloseBody, hbusy, if_neg (by simp only [hc]; decide)]
      dsimp only
      rw [State.laneStateBytes_modEntry]
      rfl
    · next hc =>
      refine serve_refused ha rolesG_of_contains rfl (laneArg_bytes (.entry n)) ?_
      rw [State.laneCloseBody, hbusy, if_pos (by simp only [hc]; decide)]
  · have hbusy : (s.taken p).closeBusy (.exit x) = decide ((s.exits[x]).state = .stuck) := rfl
    split
    · next hc =>
      refine serve_refused ha rolesG_of_contains rfl (laneArg_bytes (.exit x)) ?_
      rw [State.laneCloseBody, hbusy, if_pos (by simp only [hc]; decide)]
    · next hc =>
      refine serve_ok ha rolesG_of_contains rfl (laneArg_bytes (.exit x)) ?_
      rw [State.laneCloseBody, hbusy, if_neg (by simp only [hc]; decide)]
      dsimp only
      rw [State.laneStateBytes_modExit]
      rfl

/-! ### Commits (R12) -/

theorem commit_eq {t : Ticket} {s : State} (h : s.ticket? t.number = some t) (cls : VehicleClass) :
    s.commit t.number cls = s.withCommit t cls := by
  unfold State.commit State.withCommit
  rw [h]
  cases cls <;> rfl

theorem commitAdmission_eq {n : LaneId} {t : Ticket} {s : State} (ha : (s.entry[n]).admission = some t.number)
    (ht : s.ticket? t.number = some t) (cls : VehicleClass) :
    s.commitAdmission n cls = (s.withCommit t cls).modEntry n (·.count fun c => { c with commits := inc16 c.commits }) := by
  unfold State.commitAdmission
  rw [ha, ← commit_eq ht cls]

/-! ### Loop edges of an entry lane (R31 to R37, R40) -/

theorem entryRise_armed {n : LaneId} {s : State} (hl : (s.entry[n]).loop = .clear) (hs : (s.entry[n]).state = .armed) :
    s.entryRise n = s.modEntry n fun l =>
      { l with loop := .occupied, state := .passing, admitted := true, passTimer := none, occupancyUs := 0 } := by
  unfold State.entryRise
  simp only [hl, hs, reduceCtorEq, if_false, modEntry_modEntry]
  rfl

theorem tailgateReport_eq (x : Option Nat) (s : State) :
    (match x with | some t => s.tailgateReport t | none => s) =
      { s with tickets := s.tickets.map fun t => if some t.number = x then { t with tailgate := true } else t } := by
  cases x with
  | none => simp
  | some k => simp only [Option.some.injEq]; rfl

theorem entryRise_settling {n : LaneId} {s : State} (hl : (s.entry[n]).loop = .clear) (hs : (s.entry[n]).state = .settling) :
    s.entryRise n = State.post .tailgate (.entryLane n) { s with
      tickets := s.tickets.map fun t => if some t.number = (s.entry[n]).lastCommit then { t with tailgate := true } else t
      entry := upd s.entry n fun l =>
        { l with loop := .occupied, state := .passing, admitted := false, admission := none, arm := .lowered, gapTimer := none
                 occupancyUs := 0, counts := { l.counts with tailgates := inc16 l.counts.tailgates } } } := by
  unfold State.entryRise
  simp only [hl, hs, reduceCtorEq, if_false, modEntry_modEntry]
  exact tailgateReport_eq _ _

theorem entryRise_unadmitted {n : LaneId} {s : State} (hl : (s.entry[n]).loop = .clear)
    (hs : (s.entry[n]).state = .idle ∨ (s.entry[n]).state = .closed) :
    s.entryRise n = State.post .unadmittedPass (.entryLane n) (s.modEntry n fun l =>
      { l with loop := .occupied, counts := { l.counts with unadmitted := inc16 l.counts.unadmitted } }) := by
  unfold State.entryRise
  obtain hs | hs := hs <;> simp only [hl, hs, reduceCtorEq, if_false, modEntry_modEntry] <;> rfl

theorem EntryLane.classify_elapse {l : EntryLane} (hs : l.state = .passing) (us : Nat) (b : Loop) :
    ({ l.elapse us with loop := b } : EntryLane).classify = if l.settings.longThreshold * 1000 ≤ l.occupancyUs + us then .long else .car := by
  unfold EntryLane.classify EntryLane.elapse
  rw [if_pos hs]
  exact if_congr (Nat.le_div_iff_mul_le (by decide)) rfl rfl

/-- The fall that ends an admitted passage (R32, R33). -/
theorem endPassage_eq {n : LaneId} {t : Ticket} {s : State} (ha : (s.entry[n]).admission = some t.number) (ht : s.ticket? t.number = some t)
    (cls : VehicleClass) (hc : (s.entry[n]).classify = cls) :
    s.endPassage n = State.postIf (cls = .long) .longVehicle (.entryLane n) ((s.withCommit t cls).modEntry n fun l => { l with
      state := .settling, admission := none, admitted := false, lastCommit := some t.number, arm := .lowered
      gapTimer := some l.settings.gapWindow
      longTimer := if cls = .long then some 10000 else l.longTimer
      counts := { l.counts with commits := inc16 l.counts.commits, long := if cls = .long then inc16 l.counts.long else l.counts.long } }) := by
  have hadm : ((s.withCommit t cls).entry[n]).admission = some t.number := ha
  simp only [State.endPassage, hc, commitAdmission_eq ha ht, State.longCommit, modEntry_modEntry, State.postIf, decide_eq_true_eq]
  split
  · next hlong =>
    refine congrArg (State.post _ _) (modEntry_congr ?_)
    simp only [EntryLane.settle, EntryLane.count, hadm]
  · refine modEntry_congr ?_
    simp only [EntryLane.settle, EntryLane.count, hadm]

theorem withCommit_modEntry (t : Ticket) (cls : VehicleClass) (n : LaneId) (f : EntryLane → EntryLane) (s : State) :
    (s.modEntry n f).withCommit t cls = (s.withCommit t cls).modEntry n f := rfl

theorem entryFall_admitted {n : LaneId} {t : Ticket} {s : State} (hl : (s.entry[n]).loop = .occupied) (hs : (s.entry[n]).state = .passing)
    (hadm : (s.entry[n]).admitted = true) (ha : (s.entry[n]).admission = some t.number) (ht : s.ticket? t.number = some t) (us : Nat)
    (cls : VehicleClass)
    (hc : (if (s.entry[n]).settings.longThreshold * 1000 ≤ (s.entry[n]).occupancyUs + us then .long else .car) = cls) :
    s.entryFall n us = State.postIf (cls = .long) .longVehicle (.entryLane n) ((s.withCommit t cls).modEntry n fun l => { l with
      loop := .clear, state := .settling, admission := none, admitted := false, lastCommit := some t.number, arm := .lowered
      gapTimer := some l.settings.gapWindow, occupancyUs := l.occupancyUs + us
      longTimer := if cls = .long then some 10000 else l.longTimer
      counts := { l.counts with commits := inc16 l.counts.commits, long := if cls = .long then inc16 l.counts.long else l.counts.long } }) := by
  have hlane : (s.modEntry n fun l => { l.elapse us with loop := .clear }).entry[n] =
      { (s.entry[n]).elapse us with loop := .clear } := upd_get_self _ _ _
  have hclass : ((s.modEntry n fun l => { l.elapse us with loop := .clear }).entry[n]).classify = cls := by
    rw [hlane, EntryLane.classify_elapse hs, hc]
  unfold State.entryFall
  simp only [hl, hs, hadm, reduceCtorEq, if_false, if_true]
  have hadmission : ((s.modEntry n fun l => { l.elapse us with loop := .clear }).entry[n]).admission = some t.number := by
    rw [hlane, EntryLane.elapse_eq]
    exact ha
  rw [endPassage_eq hadmission ht cls hclass, withCommit_modEntry, modEntry_modEntry]
  refine postIf_congr rfl (modEntry_congr ?_)
  have hs' : ((s.withCommit t cls).entry[n]).state = .passing := hs
  simp only [EntryLane.elapse_eq, hs', if_true]

theorem entryFall_tailgater {n : LaneId} {s : State} (hl : (s.entry[n]).loop = .occupied) (hs : (s.entry[n]).state = .passing)
    (hadm : (s.entry[n]).admitted = false) (us : Nat) :
    s.entryFall n us = s.modEntry n fun l =>
      { l with loop := .clear, state := .settling, arm := .lowered, gapTimer := some l.settings.gapWindow, occupancyUs := l.occupancyUs + us } := by
  unfold State.entryFall
  simp only [hl, hs, hadm, reduceCtorEq, if_false, Bool.false_eq_true, modEntry_modEntry]
  refine modEntry_congr ?_
  simp only [EntryLane.settle, EntryLane.elapse_eq, hs, hadm, if_true]

theorem entryFall_stuck {n : LaneId} {s : State} (hl : (s.entry[n]).loop = .occupied) (hs : (s.entry[n]).state = .stuck) (us : Nat) :
    s.entryFall n us = s.modEntry n fun l => { l with
      loop := .clear, state := .idle, admission := none, admitted := false, lastCommit := none, arm := .lowered
      passTimer := none, gapTimer := none } := by
  unfold State.entryFall
  simp only [hl, hs, reduceCtorEq, if_false, modEntry_modEntry]
  refine modEntry_congr ?_
  simp only [EntryLane.toIdle, EntryLane.elapse_eq, hs, reduceCtorEq, if_false]

theorem entryFall_idle {n : LaneId} {s : State} (hl : (s.entry[n]).loop = .occupied)
    (hs : (s.entry[n]).state = .idle ∨ (s.entry[n]).state = .closed ∨ (s.entry[n]).state = .armed) (us : Nat) :
    s.entryFall n us = s.modEntry n fun l => { l with loop := .clear } := by
  have helapse : (s.entry[n]).elapse us = s.entry[n] := if_neg fun h => by simp only [h, reduceCtorEq, or_self] at hs
  have hlane : (s.modEntry n fun l => { l.elapse us with loop := .clear }) = s.modEntry n fun l => { l with loop := .clear } :=
    modEntry_congr (by rw [helapse])
  unfold State.entryFall
  rw [hlane]
  obtain hs | hs | hs := hs <;> simp only [hl, hs, reduceCtorEq, if_false]

/-- Settles O19, edge by edge and state by state. -/
theorem entryLoopEdges : Obligations.EntryLoopEdges := by
  unfold Obligations.EntryLoopEdges
  refine ⟨fun n s hl => ⟨fun hs => congrArg _ (entryRise_armed hl hs), fun hs => congrArg _ (entryRise_settling hl hs),
    fun hs => congrArg _ (entryRise_unadmitted hl hs)⟩, fun n us t s hl => ⟨fun hs hadm ha ht => ?_, fun hs => ?_, fun hs => ?_⟩⟩
  · exact congrArg _ (entryFall_admitted hl hs hadm ha ht us _ rfl)
  · exact congrArg _ (entryFall_stuck hl hs us)
  · exact congrArg _ (entryFall_idle hl hs us)

/-- Settles O20: the tailgater's fall, and a rise in SETTLING again. -/
theorem tailgaterFallAndFurtherTailgater : Obligations.TailgaterFallAndFurtherTailgater := by
  unfold Obligations.TailgaterFallAndFurtherTailgater
  intro n us s hl hs hadm u
  refine ⟨congrArg _ (entryFall_tailgater hl hs hadm us), congrArg Host.Outcome.next (a₁ := u.entryRise n) ?_⟩
  have hlane : u.entry[n] = { s.entry[n] with
      loop := .clear, state := .settling, arm := .lowered, gapTimer := some (s.entry[n]).settings.gapWindow
      occupancyUs := (s.entry[n]).occupancyUs + us } := upd_get_self _ _ _
  rw [entryRise_settling (by rw [hlane]) (by rw [hlane]), hlane]
  refine congrArg (State.post _ _) ?_
  have hentry (f : EntryLane → EntryLane) : upd u.entry n f = _ := upd_upd s.entry n _ f
  rw [hentry]

/-! ### Timers and resets of an entry lane (R34, R38, R39, R42) -/

theorem gapWindowExpiry_eq {n : LaneId} {s : State} (hs : (s.entry[n]).state = .settling) (ht : (s.entry[n]).gapTimer ≠ none) :
    s.gapWindowExpiry n = s.modEntry n EntryLane.toIdle := if_pos ⟨hs, Option.isSome_iff_ne_none.2 ht⟩

theorem entryStuckExpiry_admitted {n : LaneId} {t : Ticket} {s : State} (hs : (s.entry[n]).state = .passing)
    (hadm : (s.entry[n]).admitted = true) (ha : (s.entry[n]).admission = some t.number) (ht : s.ticket? t.number = some t) :
    s.entryStuckExpiry n = State.post .loopStuck (.stuckEntry n) ((s.withCommit t .unmeasured).modEntry n fun l =>
      ({ l with counts := { l.counts with commits := inc16 l.counts.commits } } : EntryLane).toStuck) := by
  simp only [State.entryStuckExpiry, hs, hadm, if_true, commitAdmission_eq ha ht, modEntry_modEntry]
  rfl

theorem entryStuckExpiry_tailgater {n : LaneId} {s : State} (hs : (s.entry[n]).state = .passing) (hadm : (s.entry[n]).admitted = false) :
    s.entryStuckExpiry n = State.post .loopStuck (.stuckEntry n) (s.modEntry n EntryLane.toStuck) := by
  simp only [State.entryStuckExpiry, hs, hadm, if_true, Bool.false_eq_true, if_false]

/-- Settles O21. -/
theorem entryLaneTimers : Obligations.EntryLaneTimers := by
  unfold Obligations.EntryLaneTimers
  intro n t s
  refine ⟨fun hs ht => congrArg _ (gapWindowExpiry_eq hs ht), fun hs hadm ha ht => congrArg _ (entryStuckExpiry_admitted hs hadm ha ht),
    fun hs hadm => congrArg _ (entryStuckExpiry_tailgater hs hadm), rfl, fun u hu => ?_⟩
  cases hu
  have hlane : (s.longLampExpiry n).entry[n] = { s.entry[n] with longTimer := none } := upd_get_self _ _ _
  rw [State.sourceValue, hlane]
  rfl

theorem resetEntry_quiet {n : LaneId} {s : State}
    (hs : (s.entry[n]).state = .closed ∨ (s.entry[n]).state = .idle ∨ (s.entry[n]).state = .settling ∨ (s.entry[n]).state = .stuck ∨
      ((s.entry[n]).state = .passing ∧ (s.entry[n]).admitted = false)) :
    (s.entry[n]).resetTicket = none ∧ s.resetEntry n = s.modEntry n EntryLane.toClosed := by
  unfold State.resetEntry EntryLane.resetTicket
  obtain hs | hs | hs | hs | ⟨hs, hadm⟩ := hs
  all_goals simp only [hs, true_and]
  simp only [hadm, Bool.false_eq_true, if_false, true_and]

theorem resetEntry_admitted {n : LaneId} {t : Ticket} {s : State} (hs : (s.entry[n]).state = .passing) (hadm : (s.entry[n]).admitted = true)
    (ha : (s.entry[n]).admission = some t.number) (ht : s.ticket? t.number = some t) :
    (s.entry[n]).resetTicket = some t.number ∧ s.resetEntry n = (s.withCommit t .unmeasured).modEntry n fun l =>
      ({ l with counts := { l.counts with commits := inc16 l.counts.commits } } : EntryLane).toClosed := by
  have hticket : (s.entry[n]).resetTicket = some t.number := by simp only [EntryLane.resetTicket, hs, hadm, if_true, ha]
  refine ⟨hticket, ?_⟩
  simp only [State.resetEntry, hticket, hs, commitAdmission_eq ha ht, modEntry_modEntry]
  rfl

/-- Settles O18, by the state of the lane found. -/
theorem laneResetOtherwise : Obligations.LaneResetOtherwise := by
  unfold Obligations.LaneResetOtherwise
  intro p tag n x t s
  refine ⟨fun ha => ⟨fun hs => ?_, fun hs hadm hn ht => ?_⟩, fun ha => ?_⟩
  · refine serve_ok ha rolesG_of_contains rfl (laneArg_bytes (.entry n)) ?_
    obtain ⟨hnone, hreset⟩ := resetEntry_quiet (s := s.taken p) hs
    simp only [State.laneResetBody, hnone, hreset]
    rfl
  · refine serve_ok ha rolesG_of_contains rfl (laneArg_bytes (.entry n)) ?_
    obtain ⟨hsome, hreset⟩ := resetEntry_admitted (s := s.taken p) hs hadm hn ht
    simp only [State.laneResetBody, hsome, hreset]
    rfl
  · exact serve_ok ha rolesG_of_contains rfl (laneArg_bytes (.exit x)) rfl

/-! ### Exit lanes (R43) -/

theorem ExitLane.rise_eq {x : ExitLane} (h : x.loop = .clear) : x.rise =
    { x with loop := .occupied, stuckTimer := if x.state = .isOpen then some (x.settings.stuckLimit * 1000) else x.stuckTimer } := by
  unfold ExitLane.rise ExitLane.startTimer
  rw [if_neg (by rw [h]; decide)]
  dsimp only
  split <;> rfl

theorem ExitLane.fall_eq {x : ExitLane} (h : x.loop = .occupied) : x.fall = { x with
    loop := .clear, state := if x.state = .stuck then .isOpen else x.state
    stuckTimer := if x.state = .isOpen then none else x.stuckTimer
    exits := if x.state = .closed then x.exits else inc16 x.exits } := by
  unfold ExitLane.fall
  rw [if_neg (by rw [h]; decide)]
  obtain ⟨state, _, _, _, _, _⟩ := x
  cases state <;> rfl

/-- Settles O22. -/
theorem exitLoops : Obligations.ExitLoops := by
  unfold Obligations.ExitLoops
  intro x s
  exact ⟨fun hl => congrArg _ (modExit_congr (ExitLane.rise_eq hl)), fun hl => congrArg _ (modExit_congr (ExitLane.fall_eq hl)),
    fun hs ht => congrArg _ (if_pos ⟨hs, Option.isSome_iff_ne_none.2 ht⟩)⟩

end Sys2Proof.Machine

/-! The shows: SET_SCREEN, arming, holds, pulses and stalls (O23, O24, O25, O27, O28, O29). -/

namespace Sys2Proof.Machine

/-! ### Updates of one screen's records -/

theorem modShow_congr {i : ScreenId} {f g : Show → Show} {s : State} (h : f s.shows[i] = g s.shows[i]) :
    s.modShow i f = s.modShow i g := congrArg (fun v => { s with shows := v }) (upd_congr h)

/-- Two states that differ in the shows and the alignment records. -/
theorem showAlign_congr {s : State} {v v' : Vector Show 4} {a a' : Vector Align 4} (hv : v = v') (ha : a = a') :
    ({ s with shows := v, aligns := a } : State) = { s with shows := v', aligns := a' } := by rw [hv, ha]

/-- An update that changes nothing at its place. -/
theorem upd_eq_self {α : Type} {n : Nat} {v : Vector α n} {i : Fin n} {f : α → α} (h : f v[i] = v[i]) : upd v i f = v := by
  refine Vector.ext fun k hk => ?_
  refine (upd_get v i ⟨k, hk⟩ f).trans ?_
  split
  · next e => subst e; exact h
  · rfl

/-! ### SET_SCREEN (R49) -/

theorem setScreenCheck_eq {i : ScreenId} {t : ScreenSettings} {fps : Nat} (hf : t.rate.fps = fps) (s : State) :
    s.setScreenCheck i t =
      if t.rate ≠ (s.shows[i]).settings.rate ∧ ¬((s.shows[i]).state = .idle ∨ (s.shows[i]).state = .ended) then some .screenState
      else if t.rate ≠ (s.shows[i]).settings.rate ∧
        ((s.cues[i]).cues.any (fun c => decide (fps ≤ c.pos.frame)) = true ∨ fps ≤ (s.shows[i]).clock.frame) then some .range
      else none := by
  unfold State.setScreenCheck
  by_cases hr : t.rate = (s.shows[i]).settings.rate
  · simp only [hr, ne_eq, not_true_eq_false, false_and, if_true, if_false]
  · simp only [hr, ne_eq, not_false_eq_true, true_and, if_false, hf]
    refine if_congr Iff.rfl rfl ?_
    by_cases hc : (s.cues[i]).cues.any (fun c => decide (fps ≤ c.pos.frame)) = true
    · simp only [hc, true_or, if_true]
    · simp only [hc, false_or, Bool.false_eq_true, if_false]

theorem ScreenSettings.dTenths_eq (t : ScreenSettings) : t.dTenths =
    if (t.picture : Int) - t.exciter + t.trim < 0 then 0 else if 1250 < (t.picture : Int) - t.exciter + t.trim then 1250
    else ((t.picture : Int) - t.exciter + t.trim).toNat := by
  unfold ScreenSettings.dTenths ScreenSettings.delaySum
  split
  · omega
  · split <;> omega

theorem Rate.fps_of_named {fps : Nat} {r : Rate} (h : (fps = 24 ∧ r = .fps24) ∨ (fps = 25 ∧ r = .fps25) ∨ (fps = 30 ∧ r = .fps30)) :
    r.fps = fps := by
  obtain ⟨rfl, rfl⟩ | ⟨rfl, rfl⟩ | ⟨rfl, rfl⟩ := h <;> rfl

theorem ScreenSettings.bytes_eq {t : ScreenSettings} {fps : Nat} (hf : t.rate.fps = fps) : t.bytes =
    u8 fps ++ u16 t.picture ++ u16 t.exciter ++ i16 t.trim ++ u8 (if t.holdOnLoss then 1 else 0) ++ flagByte t.delayClamped := by
  unfold ScreenSettings.bytes
  rw [hf]
  cases t.holdOnLoss <;> rfl

/-- Settles O23, by the checks of R49 in their order. -/
theorem setScreen : Obligations.SetScreen := by
  unfold Obligations.SetScreen
  intro p tag i t fps s
  dsimp only
  intro ha hr hp he ht ht'
  have hf := Rate.fps_of_named hr
  have hargs := setScreenArgs_payload i fps hr hp he ⟨ht, ht'⟩
  simp only [List.append_assoc] at hargs
  have hcheck := setScreenCheck_eq (i := i) hf (s.taken p)
  by_cases hc : t.rate ≠ (s.shows[i]).settings.rate ∧ ¬((s.shows[i]).state = .idle ∨ (s.shows[i]).state = .ended)
  · have hbody : (s.taken p).setScreenBody (i, t) = (s.taken p, .refuse .screenState) := by
      rw [State.setScreenBody, hcheck.trans (if_pos hc)]
    rw [if_pos hc]
    exact serve_refused ha rolesB_of_contains rfl hargs hbody
  rw [if_neg hc]
  by_cases hc' : t.rate ≠ (s.shows[i]).settings.rate ∧
      ((s.cues[i]).cues.any (fun c => decide (fps ≤ c.pos.frame)) = true ∨ fps ≤ (s.shows[i]).clock.frame)
  · have hbody : (s.taken p).setScreenBody (i, t) = (s.taken p, .refuse .range) := by
      rw [State.setScreenBody, hcheck.trans ((if_neg hc).trans (if_pos hc'))]
    rw [if_pos hc']
    exact serve_refused ha rolesB_of_contains rfl hargs hbody
  · have hbody : (s.taken p).setScreenBody (i, t) =
        (((s.taken p).modShow i (·.setScreen t)).modAlign i (·.setDelay t), .ok t.bytes) := by
      rw [State.setScreenBody, hcheck.trans ((if_neg hc).trans (if_neg hc'))]
    rw [if_neg hc']
    refine (serve_ok ha rolesB_of_contains rfl hargs hbody).trans ?_
    rw [ScreenSettings.bytes_eq hf]
    refine congrArg (fun u => Host.Outcome.next (State.replied p 0x12 tag _ u)) (showAlign_congr (upd_congr ?_) (upd_congr ?_))
    · simp only [Show.setScreen, FrameMonitor.changeRate, Rate.stallLimit, Rate.pNom, hf]
    · simp only [Align.setDelay, ScreenSettings.dTenths_eq, delaySamples]
      rfl

/-! ### ARM_SHOW and START_SHOW (R57, R58) -/

theorem Intake.openUp_eq (k : Intake) : k.openUp = { k with
    ring := [], isOpen := true, lastAccepted := none, expected := none
    returnLine := if k.holding then k.returnLine ++ [.resume] else k.returnLine
    holdTimer := if k.holding then none else k.holdTimer
    holding := false, counts := { IntakeCounts.zero with resumes := if k.holding then 1 else 0 } } := by
  obtain ⟨_, _, _, _, holding, _, _, _, _⟩ := k
  cases holding <;> rfl

theorem armShow_eq (i : ScreenId) (s : State) : s.armShow i = { s with
    shows := upd s.shows i Show.arm
    cues := upd s.cues i CueUnit.rearm
    orders := { s.orders with released := upd s.orders.released i fun _ => false }
    intakes := upd s.intakes i Intake.openUp
    aligns := upd s.aligns i Align.arm } := by
  have haligns : upd (upd s.aligns i Align.flushed) i Align.arm = upd s.aligns i Align.arm := upd_upd _ _ _ _
  simp only [State.armShow, State.openIntake, State.modShow, State.modCues, State.modOrders, State.modIntake, State.modAlign, haligns]

/-- Settles O24, by the state of the screen. -/
theorem armAndStart : Obligations.ArmAndStart := by
  unfold Obligations.ArmAndStart
  intro p tag i s
  refine ⟨fun ha => ⟨fun hs => ?_, fun hs => ?_⟩, fun ha => ?_, rfl⟩
  · exact serve_refused ha rolesB_of_contains rfl (indexArg_u8 i (by decide)) (if_neg hs)
  · refine (serve_ok ha rolesB_of_contains rfl (indexArg_u8 i (by decide)) (if_pos hs)).trans ?_
    rw [armShow_eq, funext Intake.openUp_eq]
    rfl
  · split
    · next hs => exact serve_ok ha rolesB_of_contains rfl (indexArg_u8 i (by decide)) (if_pos hs)
    · next hs => exact serve_refused ha rolesB_of_contains rfl (indexArg_u8 i (by decide)) (if_neg hs)

/-! ### HOLD_SHOW and RESUME_SHOW (R62, R64) -/

theorem holdShowBody_held {i : ScreenId} {s : State} (h : (s.shows[i]).state = .held) :
    s.holdShowBody i = (s, .ok (u8 3 ++ posBytes (s.shows[i]).clock)) := by
  unfold State.holdShowBody
  simp only [h, Show.stateBytes]
  rfl

theorem holdShowBody_refused {i : ScreenId} {s : State} (h : (s.shows[i]).state = .idle ∨ (s.shows[i]).state = .armed ∨ (s.shows[i]).state = .ended) :
    s.holdShowBody i = (s, .refuse .screenState) := by
  unfold State.holdShowBody
  obtain h | h | h := h <;> simp only [h]

theorem post_shows_get (k : EventKind) (d : Detail) (i : ScreenId) (f : Show → Show) (s : State) :
    ((s.modShow i f).post k d).shows[i] = f s.shows[i] := upd_get_self _ _ _

theorem holdShowBody_holds {i : ScreenId} {s : State} (h : (s.shows[i]).state = .running ∨ (s.shows[i]).state = .lost) :
    s.holdShowBody i = (s.holdShow i .request, .ok (u8 3 ++ posBytes (s.shows[i]).clock)) := by
  have hshow : (s.holdShow i .request).shows[i] = { s.shows[i] with
      state := .held, holdReason := some .request, pause := true, framesStopped := (s.shows[i]).state == .lost } := post_shows_get _ _ _ _ _
  unfold State.holdShowBody
  obtain h | h := h <;> simp only [h, hshow, Show.stateBytes] <;> rfl

theorem resumeShow_eq (i : ScreenId) (s : State) : s.resumeShow i = { s with
    shows := upd s.shows i fun w => { w with
      state := .running, holdReason := none, pause := false, framesStopped := false, stallTimer := some w.settings.rate.stallLimit }
    aligns := upd s.aligns i fun a => if (s.shows[i]).framesStopped = true ∧ a.mode = .paused then { a with mode := .waiting } else a } := by
  unfold State.resumeShow
  dsimp only
  split
  · next hs =>
    refine showAlign_congr rfl (upd_congr ?_)
    simp only [Align.unpause, hs, true_and]
  · next hs =>
    refine showAlign_congr rfl (upd_eq_self ?_).symm
    exact if_neg fun h => hs h.1

theorem heldForSound_iff (i : ScreenId) (s : State) : s.heldForSound i = true ↔
    (s.shows[i]).holdReason = some .sound ∧ (s.shows[i]).settings.holdOnLoss = true ∧ (s.links[i]).soundUp = false := by
  simp only [State.heldForSound, Bool.and_eq_true, beq_iff_eq, Bool.not_eq_true', and_assoc]

/-- Settles O25, by the state of the screen. -/
theorem holdAndResume : Obligations.HoldAndResume := by
  unfold Obligations.HoldAndResume
  intro p tag i s
  have hi := indexArg_u8 i (by decide)
  refine ⟨fun ha => ⟨fun hs => ?_, fun hs => ?_, fun hs => ?_⟩, fun ha => ⟨fun hs => ?_, fun hs hw => ?_, fun hs hw => ?_⟩⟩
  · exact serve_ok ha rolesB_of_contains rfl hi (holdShowBody_holds (s := s.taken p) hs)
  · exact serve_ok ha rolesB_of_contains rfl hi (holdShowBody_held (s := s.taken p) hs)
  · exact serve_refused ha rolesB_of_contains rfl hi (holdShowBody_refused (s := s.taken p) hs)
  · exact serve_refused ha rolesB_of_contains rfl hi (if_neg hs)
  · have hsound : (s.taken p).heldForSound i = true := (heldForSound_iff _ _).2 hw
    exact serve_refused ha rolesB_of_contains rfl hi ((if_pos hs).trans (if_pos hsound))
  · have hsound : ¬(s.taken p).heldForSound i = true := fun h => hw ((heldForSound_iff _ _).1 h)
    have hshow : ((s.taken p).resumeShow i).shows[i] = { s.shows[i] with
        state := .running, holdReason := none, pause := false, framesStopped := false
        stallTimer := some (s.shows[i]).settings.rate.stallLimit } := by
      rw [resumeShow_eq]
      exact upd_get_self _ _ _
    have hbody : (s.taken p).resumeShowBody i = ((s.taken p).resumeShow i, .ok (u8 2 ++ posBytes (s.shows[i]).clock)) := by
      rw [State.resumeShowBody, if_pos (show ((s.taken p).shows[i]).state = .held from hs), if_neg hsound]
      dsimp only
      rw [hshow]
      rfl
    refine (serve_ok ha rolesB_of_contains rfl hi hbody).trans ?_
    rw [resumeShow_eq]
    rfl

/-! ### Stalls (R52, R60) -/

/-- Settles O29, by the state of the show. -/
theorem stalls : Obligations.Stalls := by
  unfold Obligations.Stalls
  intro i s
  have hstarted (ht : (s.shows[i]).stallTimer ≠ none) : ¬(s.shows[i]).stallTimer.isNone = true := by
    rw [Option.isNone_iff_eq_none]
    exact ht
  refine ⟨rfl, fun ht => congrArg Host.Outcome.next (if_pos (by rw [ht]; rfl)), fun ht hs => congrArg Host.Outcome.next (a₁ := s.stallExpiry i) ?_,
    fun ht hs => congrArg Host.Outcome.next (a₁ := s.stallExpiry i) ?_⟩
  · simp only [State.stallExpiry, hstarted ht, if_false, hs, modShow_modShow, Bool.false_eq_true]
    rfl
  · simp only [State.stallExpiry, hstarted ht, if_false, hs, modShow_modShow, Bool.false_eq_true]
    rfl

end Sys2Proof.Machine

/-! Frame pulses: how each is judged, and what an accepted pulse does where no cue takes a turn (O27, O28). -/

namespace Sys2Proof.Machine

/-! ### The frame monitor is moved by its own rules alone -/

/-- Every frame monitor stands as before. -/
def SameMonitors (s t : State) : Prop := ∀ j : ScreenId, (t.shows[j]).monitor = (s.shows[j]).monitor

theorem SameMonitors.of_shows {s t : State} (h : t.shows = s.shows) : SameMonitors s t := fun j => by rw [h]

theorem SameMonitors.refl (s : State) : SameMonitors s s := fun _ => rfl

theorem SameMonitors.trans {s t u : State} (h : SameMonitors s t) (h' : SameMonitors t u) : SameMonitors s u := fun j => (h' j).trans (h j)

/-- A change of other parts at the end. -/
theorem SameMonitors.before {s t u : State} (h : SameMonitors s t) (hu : u.shows = t.shows) : SameMonitors s u := h.trans (.of_shows hu)

theorem SameMonitors.thenPost {s t : State} (h : SameMonitors s t) (k : EventKind) (d : Detail) : SameMonitors s (t.post k d) := h.before rfl

theorem sameMonitors_ite {c : Prop} [Decidable c] {s t u : State} (ht : SameMonitors s t) (hu : SameMonitors s u) :
    SameMonitors s (if c then t else u) := by
  split
  · exact ht
  · exact hu

theorem modShow_sameMonitors {f : Show → Show} (hf : ∀ w, (f w).monitor = w.monitor) (i : ScreenId) (s : State) :
    SameMonitors s (s.modShow i f) := by
  intro j
  rw [State.modShow_shows, upd_get]
  split
  · exact hf _
  · rfl

theorem shows_of_clearCalls {s t : State} (h : t.clearCalls = s.clearCalls) : t.shows = s.shows :=
  onlyIn_of_clearCalls h .shows (by simp)

theorem shows_of_clearOrders {s t : State} (h : t.clearOrders = s.clearOrders) : t.shows = s.shows :=
  onlyIn_of_clearOrders h .shows (by simp)

theorem startAll_shows (s : State) : s.startAll.shows = s.shows := shows_of_clearCalls (startAll_frame s)

theorem holdShow_sameMonitors (i : ScreenId) (r : HoldReason) (s : State) : SameMonitors s (s.holdShow i r) :=
  .thenPost (modShow_sameMonitors (fun _ => by rfl) i s) _ _

theorem endShow_sameMonitors (i : ScreenId) (s : State) : SameMonitors s (s.endShow i) := by
  unfold State.endShow State.cancelHeld
  have left : SameMonitors s (s.modShow i (Show.leave .ended)) := modShow_sameMonitors (fun _ => by rfl) i s
  refine left.before ?_
  rw [State.post_shows, shows_of_clearOrders (removeOrders_frame _ _ _)]
  rfl

theorem runAction_sameMonitors (i : ScreenId) (a : CueAction) (s : State) : SameMonitors s (s.runAction i a) := by
  cases a with
  | test src m f => cases f <;> exact .of_shows rfl
  | hold => exact sameMonitors_ite (holdShow_sameMonitors i .cue s) (.refl s)
  | endShow => exact sameMonitors_ite (endShow_sameMonitors i s) (.refl s)
  | kitchenRelease => exact .of_shows (shows_of_clearOrders (kitchenRelease_frame i s))
  | callsOpen => exact .of_shows (shows_of_clearCalls (openCalls_frame i s))
  | entryOpen | entryClose | ordersOpen | ordersClose | callsClose | mark | lamp => exact .of_shows rfl

theorem passOver_shows (n : Nat) (i : ScreenId) (p : Pos) (s : State) : (State.passOver n i p s).shows = s.shows := by
  induction n generalizing s with
  | zero => rfl
  | succ n ih =>
    unfold State.passOver
    split
    · split
      · rw [ih]
        rfl
      · rfl
    · rfl

theorem passFor_sameMonitors (n : Nat) (i : ScreenId) (p : Pos) (s : State) : SameMonitors s (State.passFor n i p s) := by
  induction n generalizing s with
  | zero => exact .refl s
  | succ n ih =>
    unfold State.passFor
    dsimp only
    split
    · exact .refl s
    · next c _ =>
      have moved : SameMonitors s (s.passCursor i) := .of_shows rfl
      have turn : SameMonitors s (((s.passCursor i).runAction i c.action).setOutcome i (s.cues[i]).cursor .executed) :=
        (moved.trans (runAction_sameMonitors i c.action _)).before rfl
      refine sameMonitors_ite (sameMonitors_ite (sameMonitors_ite ?_ (turn.trans (ih _))) ?_) (.refl s)
      · exact turn.before (passOver_shows _ _ _ _)
      · exact (moved.before rfl).trans (ih _)

theorem advanceClock_sameMonitors (i : ScreenId) (s : State) : SameMonitors s (s.advanceClock i) := by
  have advanced : SameMonitors s (s.modShow i Show.advance) :=
    modShow_sameMonitors (fun w => by unfold Show.advance; split <;> rfl) i s
  refine sameMonitors_ite (sameMonitors_ite (.refl s) ?_) (advanced.trans (passFor_sameMonitors _ _ _ _))
  exact .thenPost (modShow_sameMonitors (fun _ => by rfl) i s) _ _

theorem acceptedPulse_sameMonitors (i : ScreenId) (s : State) : SameMonitors s (s.acceptedPulse i) := by
  have show' (f : Show → Show) (hf : ∀ w, (f w).monitor = w.monitor) : SameMonitors s (s.modShow i f) := modShow_sameMonitors hf i s
  unfold State.acceptedPulse
  dsimp only
  split
  · exact .refl s
  · exact .refl s
  · refine sameMonitors_ite ?_ (.refl s)
    exact ((show' _ fun _ => by rfl).before rfl).trans (passFor_sameMonitors _ _ _ _)
  · exact (show' _ fun _ => by rfl).trans (advanceClock_sameMonitors i _)
  · refine SameMonitors.trans ?_ (advanceClock_sameMonitors i _)
    have unpaused : SameMonitors s (if (s.shows[i]).framesStopped then s.modAlign i Align.unpause else s) :=
      sameMonitors_ite (.of_shows rfl) (.refl s)
    exact unpaused.trans (modShow_sameMonitors (fun _ => by rfl) i _)
  · exact ((show' _ fun _ => by rfl).before rfl).trans (advanceClock_sameMonitors i _)

/-! ### A pulse judged (R51) -/

theorem FrameMonitor.judge_eq_glitch (r : Rate) (m : FrameMonitor) : m.judge r = .glitch ↔ m.e < r.pLo := by
  unfold FrameMonitor.judge
  split
  · next h => exact iff_of_true rfl h
  · next h =>
    refine iff_of_false ?_ h
    split
    · decide
    · split <;> decide

theorem FrameMonitor.pulse_elapse (r : Rate) (us : Nat) (m : FrameMonitor) : (m.elapse r us).pulse r =
    if min r.stallLimit (m.e + us) < r.pLo then
      { m with
        e := min r.stallLimit (m.e + us)
        reference := if m.reference = .stale ∨ min r.stallLimit (m.e + us) = r.stallLimit then .stale else .valid
        glitches := inc16 m.glitches }
    else if m.reference = .stale ∨ min r.stallLimit (m.e + us) = r.stallLimit then { m with e := 0, reference := .valid }
    else if min r.stallLimit (m.e + us) ≤ r.pHi then { m with e := 0, pLast := min r.stallLimit (m.e + us) }
    else { m with e := 0, pLast := r.pHi, late := inc16 m.late } := by
  obtain ⟨e, pLast, reference, glitches, late⟩ := m
  simp only [FrameMonitor.elapse, FrameMonitor.pulse, FrameMonitor.judge]
  generalize min r.stallLimit (e + us) = e'
  by_cases hlo : e' < r.pLo
  · rw [if_pos hlo, if_pos hlo]
    by_cases hs : e' = r.stallLimit <;> cases reference <;> simp [hs]
  · rw [if_neg hlo, if_neg hlo]
    by_cases hs : e' = r.stallLimit
    · simp [hs]
    · cases reference
      · by_cases hhi : e' ≤ r.pHi <;> simp [hs, hhi]
      · simp [hs]

/-- The judging of a pulse, before its effect on the show. -/
def State.judged (i : ScreenId) (us : Nat) (s : State) : State :=
  s.modShow i fun w => { w with monitor := (w.elapse us).monitor.pulse w.settings.rate }

theorem framePulse_eq (i : ScreenId) (us : Nat) (s : State) :
    s.framePulse i us = if ((s.shows[i]).elapse us).monitor.e < (s.shows[i]).settings.rate.pLo then s.judged i us
      else (s.judged i us).acceptedPulse i := by
  have helapsed : (s.modShow i (·.elapse us)).shows[i] = (s.shows[i]).elapse us := upd_get_self _ _ _
  unfold State.framePulse
  simp only [helapsed, modShow_modShow]
  exact if_congr (FrameMonitor.judge_eq_glitch _ _) rfl rfl

theorem judged_shows_get (i : ScreenId) (us : Nat) (s : State) :
    (s.judged i us).shows[i] = { s.shows[i] with
      monitor := ((s.shows[i]).monitor.elapse (s.shows[i]).settings.rate us).pulse (s.shows[i]).settings.rate } := upd_get_self _ _ _

/-- Settles O27: the judgement of R51, which nothing that follows in the handling disturbs. -/
theorem framePulseJudged : Obligations.FramePulseJudged := by
  unfold Obligations.FramePulseJudged
  intro i us s
  have hsame : SameMonitors (s.judged i us) (s.framePulse i us).startAll := by
    refine SameMonitors.before ?_ (startAll_shows _)
    rw [framePulse_eq]
    exact sameMonitors_ite (.refl _) (acceptedPulse_sameMonitors i _)
  have hmonitor : ((s.framePulse i us).startAll.shows[i]).monitor =
      ((s.shows[i]).monitor.elapse (s.shows[i]).settings.rate us).pulse (s.shows[i]).settings.rate := by
    rw [hsame i, judged_shows_get]
  refine ⟨_, rfl, hmonitor.trans (FrameMonitor.pulse_elapse _ _ _), fun hlo => ?_⟩
  rw [hmonitor, framePulse_eq]
  refine congrArg State.startAll ((if_pos hlo).trans ?_)
  exact modShow_congr rfl

/-! ### An accepted pulse where no cue takes a turn (R54, R58, R59, R61) -/

theorem cuePass_of_noCue {i : ScreenId} {s : State}
    (h : ∀ c, (s.cues[i]).cues[(s.cues[i]).cursor]? = some c → c.pos ≠ (s.shows[i]).clock) : s.cuePass i = s := by
  unfold State.cuePass
  cases (s.cues[i]).cues.length with
  | zero => rfl
  | succ n =>
    unfold State.passFor
    dsimp only
    split
    · rfl
    · next c hc => exact if_neg (h c hc)

theorem Show.saturated_iff (w : Show) : w.saturated = true ↔ w.clock = { second := 65535, frame := w.settings.rate.fps - 1 } := by
  simp only [Show.saturated, Bool.and_eq_true, beq_iff_eq]
  exact (Pos.mk.injEq _ _ _ _ ▸ Iff.rfl : w.clock = { second := 65535, frame := w.settings.rate.fps - 1 } ↔ _).symm

theorem Show.advance_eq (w : Show) : w.advance = { w with clock := w.clock.succ w.settings.rate.fps } := by
  unfold Show.advance Pos.succ
  split <;> rfl

theorem clockLimit_eq (i : ScreenId) (s : State) :
    s.clockLimit i = State.postIf (!(s.shows[i]).clockLimit) .clockLimit (.screen i) (s.modShow i fun w => { w with clockLimit := true }) := by
  unfold State.clockLimit State.postIf
  cases hc : (s.shows[i]).clockLimit
  · rfl
  · refine congrArg (fun v => { s with shows := v }) (upd_eq_self ?_).symm
    rw [← hc]

/-- The advance of an accepted pulse at the saturated clock, or to a position where no cue stands (R54). -/
theorem advanceClock_eq {i : ScreenId} {s : State} (w : Show) (hw : s.shows[i] = w)
    (h : w.saturated = true ∨ ∀ c, (s.cues[i]).cues[(s.cues[i]).cursor]? = some c → c.pos ≠ w.clock.succ w.settings.rate.fps) :
    s.advanceClock i = State.postIf (w.saturated && !w.clockLimit) .clockLimit (.screen i) (s.modShow i fun _ => { w with
      clock := if w.saturated then w.clock else w.clock.succ w.settings.rate.fps
      clockLimit := if w.saturated then true else w.clockLimit }) := by
  unfold State.advanceClock
  rw [hw]
  cases hs : w.saturated
  · have hshow : (s.modShow i Show.advance).shows[i] = w.advance := (upd_get_self _ _ _).trans (by rw [hw])
    have hnone := h.resolve_left (by rw [hs]; decide)
    have hpass : (s.modShow i Show.advance).cuePass i = s.modShow i Show.advance := by
      refine cuePass_of_noCue fun c hc => ?_
      rw [hshow, Show.advance_eq]
      exact hnone c hc
    rw [if_neg (by decide), hpass]
    refine modShow_congr ?_
    rw [hw, Show.advance_eq]
    rfl
  · rw [if_pos rfl, clockLimit_eq, hw]
    exact postIf_congr rfl (modShow_congr (by rw [hw]; rfl))

/-- The clock after an accepted pulse outside ARMED, and whether CLOCK_LIMIT is then posted (R54). -/
def Show.reached (w : Show) : Pos := if w.clock = { second := 65535, frame := w.settings.rate.fps - 1 } then w.clock else w.clock.succ w.settings.rate.fps

theorem advanceClock_reached {i : ScreenId} {s : State} (w : Show) (hw : s.shows[i] = w)
    (h : w.clock = { second := 65535, frame := w.settings.rate.fps - 1 } ∨
      ∀ c, (s.cues[i]).cues[(s.cues[i]).cursor]? = some c → c.pos ≠ w.reached) :
    s.advanceClock i = State.postIf (w.clock = { second := 65535, frame := w.settings.rate.fps - 1 } ∧ w.clockLimit = false)
      .clockLimit (.screen i) (s.modShow i fun _ => { w with
        clock := w.reached
        clockLimit := if w.clock = { second := 65535, frame := w.settings.rate.fps - 1 } then true else w.clockLimit }) := by
  have hsat := Show.saturated_iff w
  unfold Show.reached at *
  by_cases hs : w.clock = { second := 65535, frame := w.settings.rate.fps - 1 }
  · rw [advanceClock_eq w hw (.inl (hsat.2 hs)), hsat.2 hs, if_pos hs, if_pos hs]
    exact postIf_congr (by cases w.clockLimit <;> simp [hs]) rfl
  · have hns : w.saturated = false := Bool.eq_false_iff.2 fun h => hs (hsat.1 h)
    rw [if_neg hs] at h
    rw [advanceClock_eq w hw (.inr (h.resolve_left hs)), hns, if_neg hs, if_neg hs]
    exact postIf_congr (by simp [hs]) rfl

/-- The same, of a part whose screen has been changed before. -/
theorem advanceClock_after {i : ScreenId} {t : State} {v : Vector Show 4} {f : Show → Show} (ht : t.shows = upd v i f)
    (h : (f v[i]).clock = { second := 65535, frame := (f v[i]).settings.rate.fps - 1 } ∨
      ∀ c, (t.cues[i]).cues[(t.cues[i]).cursor]? = some c → c.pos ≠ (f v[i]).reached) :
    t.advanceClock i = State.postIf ((f v[i]).clock = { second := 65535, frame := (f v[i]).settings.rate.fps - 1 } ∧ (f v[i]).clockLimit = false)
      .clockLimit (.screen i) { t with shows := upd v i fun w => { f w with
        clock := (f w).reached
        clockLimit := if (f w).clock = { second := 65535, frame := (f w).settings.rate.fps - 1 } then true else (f w).clockLimit } } := by
  have hshow : t.shows[i] = f v[i] := by
    rw [ht]
    exact upd_get_self v i f
  rw [advanceClock_reached _ hshow h]
  refine postIf_congr rfl (congrArg (fun x => { t with shows := x }) ?_)
  rw [ht, upd_upd]
  exact upd_congr rfl

theorem framePulse_accepted {i : ScreenId} {us : Nat} {s : State}
    (h : (s.shows[i]).settings.rate.pLo ≤ ((s.shows[i]).elapse us).monitor.e) : s.framePulse i us = (s.judged i us).acceptedPulse i := by
  rw [framePulse_eq, if_neg (Nat.not_lt.2 h)]

theorem judged_modShow (i : ScreenId) (us : Nat) (f : Show → Show) (s : State) :
    (s.judged i us).modShow i f = s.modShow i fun w => f { w with monitor := (w.elapse us).monitor.pulse w.settings.rate } :=
  modShow_modShow i _ f s

theorem judged_upd (i : ScreenId) (us : Nat) (f : Show → Show) (s : State) :
    upd (s.judged i us).shows i f = upd s.shows i fun w => f { w with monitor := (w.elapse us).monitor.pulse w.settings.rate } :=
  upd_upd s.shows i _ f

theorem Align.unpause_eq (a : Align) : a.unpause = if a.mode = .paused then { a with mode := .waiting } else a := rfl

/-- The start of the show at 0+0 where no cue stands (R58, R113). -/
theorem startShow_eq {i : ScreenId} {s : State} (h : ∀ c, (s.cues[i]).cues[(s.cues[i]).cursor]? = some c → c.pos ≠ (s.shows[i]).clock) :
    s.startShow i = { s with
      shows := upd s.shows i fun w =>
        { w with state := .running, startPending := false, stallTimer := some w.settings.rate.stallLimit }
      aligns := upd s.aligns i fun a => { a with mode := .waiting } } := by
  have hshow : ((s.modShow i fun w => { w with state := .running, startPending := false }.startStall).setMode i .waiting).shows[i] =
      ({ s.shows[i] with state := .running, startPending := false } : Show).startStall := upd_get_self _ _ _
  unfold State.startShow
  rw [cuePass_of_noCue (by rw [hshow]; exact h)]
  rfl

theorem acceptedPulse_idle {i : ScreenId} {s : State}
    (h : (s.shows[i]).state = .idle ∨ (s.shows[i]).state = .ended ∨ ((s.shows[i]).state = .armed ∧ (s.shows[i]).startPending = false)) :
    s.acceptedPulse i = s := by
  unfold State.acceptedPulse
  obtain h | h | ⟨h, hp⟩ := h
  · simp only [h]
  · simp only [h]
  · simp only [h, hp, Bool.false_eq_true, if_false]

theorem acceptedPulse_armed {i : ScreenId} {s : State} (h : (s.shows[i]).state = .armed) (hp : (s.shows[i]).startPending = true) :
    s.acceptedPulse i = s.startShow i := by
  unfold State.acceptedPulse
  simp only [h, hp, if_true]

theorem acceptedPulse_running {i : ScreenId} {s : State} (h : (s.shows[i]).state = .running) :
    s.acceptedPulse i = (s.modShow i Show.startStall).advanceClock i := by
  unfold State.acceptedPulse
  simp only [h]

/-- HELD: frames stopped is cleared, the sound unpaused where it was set (R59, R113). -/
theorem acceptedPulse_held {i : ScreenId} {s : State} (h : (s.shows[i]).state = .held) :
    s.acceptedPulse i = State.advanceClock i { s with
      shows := upd s.shows i fun w => { w with framesStopped := false, stallTimer := some w.settings.rate.stallLimit }
      aligns := upd s.aligns i fun a => if (s.shows[i]).framesStopped = true ∧ a.mode = .paused then { a with mode := .waiting } else a } := by
  unfold State.acceptedPulse
  simp only [h]
  refine congrArg (State.advanceClock i) ?_
  split
  · next hs =>
    refine showAlign_congr rfl (upd_congr ?_)
    simp only [Align.unpause, hs, true_and]
  · next hs =>
    refine showAlign_congr rfl (upd_eq_self ?_).symm
    exact if_neg fun h => hs h.1

theorem acceptedPulse_lost {i : ScreenId} {s : State} (h : (s.shows[i]).state = .lost) :
    s.acceptedPulse i = State.advanceClock i (State.post .frameResumed (.screen i) { s with
      shows := upd s.shows i fun w => { w with state := .running, stallTimer := some w.settings.rate.stallLimit }
      aligns := upd s.aligns i Align.unpause }) := by
  unfold State.acceptedPulse
  simp only [h]
  rfl

/-- Settles O28, by the state of the show that the pulse finds. -/
theorem acceptedPulseEffects : Obligations.AcceptedPulseEffects := by
  unfold Obligations.AcceptedPulseEffects
  intro i us s
  dsimp only
  intro hlo
  have hpulse : exec (.framePulse i us) s = .next (State.startAll ((s.judged i us).acceptedPulse i)) :=
    congrArg (fun u => Host.Outcome.next (State.startAll u)) (framePulse_accepted hlo)
  have hjudged := judged_shows_get i us s
  have hstate : ((s.judged i us).shows[i]).state = (s.shows[i]).state := by rw [hjudged]
  have hpending : ((s.judged i us).shows[i]).startPending = (s.shows[i]).startPending := by rw [hjudged]
  have hclock : ((s.judged i us).shows[i]).clock = (s.shows[i]).clock := by rw [hjudged]
  have hstopped : ((s.judged i us).shows[i]).framesStopped = (s.shows[i]).framesStopped := by rw [hjudged]
  have hreached (hs : (s.shows[i]).state ≠ .armed) :
      (if (s.shows[i]).state = .armed ∨ (s.shows[i]).clock = { second := 65535, frame := (s.shows[i]).settings.rate.fps - 1 } then
        (s.shows[i]).clock else (s.shows[i]).clock.succ (s.shows[i]).settings.rate.fps) = (s.shows[i]).reached :=
    if_congr (or_iff_right hs) rfl rfl
  refine ⟨fun hs => hpulse.trans ?_, fun hs hp hcue => hpulse.trans ?_, fun hs hcue => hpulse.trans ?_, fun hs hcue => hpulse.trans ?_⟩
    <;> refine congrArg (fun u => Host.Outcome.next (State.startAll u)) ?_
  · rw [acceptedPulse_idle (by rw [hstate, hpending]; exact hs)]
    exact modShow_congr rfl
  · rw [if_pos (.inl hs)] at hcue
    rw [acceptedPulse_armed (hstate.trans hs) (hpending.trans hp), startShow_eq (by rw [hclock]; exact hcue)]
    exact showAlign_congr ((judged_upd _ _ _ _).trans (upd_congr rfl)) rfl
  · obtain hs | hs := hs
    · rw [hreached (by rw [hs]; decide)] at hcue ⊢
      rw [acceptedPulse_running (hstate.trans hs), advanceClock_after (judged_upd i us Show.startStall s) hcue]
      refine postIf_congr rfl (showAlign_congr (upd_congr ?_) (upd_eq_self ?_).symm)
      · dsimp only
        rw [if_neg (c := (s.shows[i]).state = .held) (by rw [hs]; decide)]
        rfl
      · exact if_neg fun h => absurd (hs.symm.trans h.1) (by decide)
    · rw [hreached (by rw [hs]; decide)] at hcue ⊢
      have hshows := judged_upd i us (fun w => { w with framesStopped := false, stallTimer := some w.settings.rate.stallLimit }) s
      rw [acceptedPulse_held (hstate.trans hs), advanceClock_after hshows hcue]
      refine postIf_congr rfl (showAlign_congr (upd_congr ?_) (upd_congr ?_))
      · dsimp only
        rw [if_pos (c := (s.shows[i]).state = .held) hs]
        rfl
      · rw [hstopped]
        exact if_congr (by simp only [hs, true_and]) rfl rfl
  · rw [hreached (by rw [hs]; decide)] at hcue ⊢
    have hshows := judged_upd i us (fun w => { w with state := .running, stallTimer := some w.settings.rate.stallLimit }) s
    rw [acceptedPulse_lost (hstate.trans hs), advanceClock_after hshows hcue]
    exact postIf_congr rfl (showAlign_congr (s := s.post .frameResumed (.screen i)) (upd_congr rfl) rfl)

end Sys2Proof.Machine

/-! LOAD_CUE, SET_SOUND, the hold timer and the arrival of audio blocks (O30, O33, O34). -/

namespace Sys2Proof.Machine

/-! ### LOAD_CUE (R70, R74) -/

theorem CueUnit.indexOf?_isSome {id : Nat} {u : CueUnit} : (u.indexOf? id).isSome = true ↔ ∃ c ∈ u.cues, c.id = id := by
  simp [CueUnit.indexOf?]

theorem loadCueLength_payload (a : LoadCueArgs) :
    loadCueLength (u8 a.screen.val ++ u8 a.id ++ posBytes a.pos ++ enumByte guardNames a.guard ++ a.action.byte ++
      a.action.argument.getD []) = true := by
  have h := loadCueLength_argument a.action (BitVec.ofNat 8 a.screen.val) (BitVec.ofNat 8 a.id) (BitVec.ofNat 8 (a.pos.second / 256))
    (BitVec.ofNat 8 a.pos.second) (BitVec.ofNat 8 a.pos.frame) (BitVec.ofNat 8 (guardNames.idxOf a.guard))
  simpa only [u8, u16, posBytes, enumByte, List.append_assoc, List.cons_append, List.nil_append] using h

/-- Settles O30, by the checks of R74 in their order and the place of R70. -/
theorem loadCue : Obligations.LoadCue := by
  unfold Obligations.LoadCue
  intro p tag a s
  dsimp only
  intro ha h1 h255 hsecond hframe hmark
  have hargs := loadCueArgs_payload ⟨h1, h255⟩ hsecond hframe hmark
  have hlen := loadCueLength_payload a
  have refused (st : Status) (h : (s.taken p).loadCueCheck a = some st) := by
    have hbody : (s.taken p).loadCueBody a = (s.taken p, .refuse st) := by rw [State.loadCueBody, h]
    exact serve_refused ha rolesB_of_contains hlen hargs hbody
  refine ⟨fun hr => refused _ (if_pos hr), fun hr hfull => refused _ ?_, fun hr hroom hdup => refused _ ?_, fun hr hroom hnew => ⟨fun hpast =>
    refused _ ?_, fun hopen hsorted => ?_⟩⟩
  · exact (if_neg (Nat.not_le.2 hr)).trans (if_pos hfull)
  · exact (if_neg (Nat.not_le.2 hr)).trans ((if_neg (Nat.not_le.2 hroom)).trans (if_pos (CueUnit.indexOf?_isSome.2 hdup)))
  all_goals
    have hfresh : ¬((s.cues[a.screen]).indexOf? a.id).isSome = true := fun h => by
      obtain ⟨c, hc, hid⟩ := CueUnit.indexOf?_isSome.1 h
      exact hnew c hc hid
    have hcheck : (s.taken p).loadCueCheck a =
        if (s.shows[a.screen]).state.inShow && !(a.pos.later (s.shows[a.screen]).clock) then some .cuePast else none :=
      (if_neg (Nat.not_le.2 hr)).trans ((if_neg (Nat.not_le.2 hroom)).trans (if_neg hfresh))
  · obtain ⟨hshow, hlater⟩ := hpast
    rw [hcheck, hshow, hlater]
    rfl
  · have hnone : (s.taken p).loadCueCheck a = none := by
      refine hcheck.trans (if_neg ?_)
      obtain h | h := hopen
      · rw [h, Bool.false_and]
        decide
      · rw [h, Bool.not_true, Bool.and_false]
        decide
    obtain ⟨hbefore, hafter⟩ := placeOf_split a.pos (s.cues[a.screen]).cues hsorted
    have hplace : ((s.cues[a.screen]).cues.take (placeOf a.pos (s.cues[a.screen]).cues)).length = placeOf a.pos (s.cues[a.screen]).cues :=
      List.length_take_of_le (placeOf_le _ _)
    refine ⟨_, _, (List.take_append_drop (placeOf a.pos (s.cues[a.screen]).cues) _).symm, hbefore, hafter, ?_⟩
    have hbody : (s.taken p).loadCueBody a = ((s.taken p).modCues a.screen (·.load a.cue),
        .ok (u8 (placeOf a.pos (s.cues[a.screen]).cues) ++ u8 ((s.cues[a.screen]).cues.length + 1))) := by
      rw [State.loadCueBody, hnone]
      rfl
    refine (serve_ok ha rolesB_of_contains hlen hargs hbody).trans ?_
    rw [hplace]
    refine congrArg (fun u => Host.Outcome.next (State.replied p 0x1A tag _ u)) (State.modCues_congr ?_)
    simp only [CueUnit.load, LoadCueArgs.cue, List.append_assoc, List.cons_append, List.nil_append]
    rfl

/-! ### SET_SOUND and the hold timer (R103, R104) -/

theorem Intake.setSound_eq (t : SoundSettings) (k : Intake) : k.setSound t =
    if k.isOpen = true ∧ k.holding = false ∧ t.high ≤ k.ring.length then ({ k with settings := t } : Intake).sendHold
    else if k.isOpen = true ∧ k.holding = true ∧ k.ring.length ≤ t.low then ({ k with settings := t } : Intake).sendResume
    else { k with settings := t } := by
  unfold Intake.setSound Intake.examineFall Intake.examineRise Intake.fill
  cases hopen : k.isOpen <;> cases hhold : k.holding <;> simp

theorem Intake.setSound_answer (t : SoundSettings) (k : Intake) :
    (k.setSound t).settings = t ∧ (k.setSound t).ring = k.ring ∧
      ((k.setSound t).holding = true ↔ (k.isOpen = true ∧ k.holding = false ∧ t.high ≤ k.ring.length) ∨
        (k.holding = true ∧ ¬(k.isOpen = true ∧ k.holding = true ∧ k.ring.length ≤ t.low))) := by
  rw [Intake.setSound_eq]
  split
  · next h => exact ⟨rfl, rfl, iff_of_true rfl (.inl h)⟩
  · next h =>
    split
    · next h' => exact ⟨rfl, rfl, iff_of_false Bool.false_ne_true fun hor => (hor.resolve_left h).2 h'⟩
    · next h' => exact ⟨rfl, rfl, by simp only [h, h', false_or, not_false_eq_true, and_true]⟩

theorem Intake.settingsBytes_setSound (t : SoundSettings) (k : Intake) : (k.setSound t).settingsBytes =
    u8 t.high ++ u8 t.low ++ u16 t.holdTime ++ u8 k.ring.length ++
      u8 (if (k.isOpen = true ∧ k.holding = false ∧ t.high ≤ k.ring.length) ∨
        (k.holding = true ∧ ¬(k.isOpen = true ∧ k.holding = true ∧ k.ring.length ≤ t.low)) then 1 else 0) := by
  obtain ⟨hsettings, hring, hholding⟩ := Intake.setSound_answer t k
  have hflow (b : Bool) : enumByte flowNames b = u8 (if b then 1 else 0) := by cases b <;> rfl
  rw [Intake.settingsBytes, hsettings, hflow, Intake.fill, hring, if_congr hholding rfl rfl]

theorem Intake.holdExpiry_eq {k : Intake} (hh : k.holding = true) (ht : k.holdTimer ≠ none) : k.holdExpiry = k.sendHold :=
  if_pos ⟨hh, Option.isSome_iff_ne_none.2 ht⟩

theorem Intake.holdExpiry_stopped {k : Intake} (ht : k.holdTimer = none) : k.holdExpiry = k :=
  if_neg fun h => absurd (ht ▸ h.2) (by decide)

/-- Settles O33. -/
theorem soundSettingsAndHoldTimer : Obligations.SoundSettingsAndHoldTimer := by
  unfold Obligations.SoundSettingsAndHoldTimer
  intro p tag i t s
  refine ⟨fun ha h2 h32 hlow h10 h1000 => ?_, fun hhold htimer => ?_, fun htimer => ?_⟩
  · have hargs := setSoundArgs_payload i ⟨h2, h32⟩ hlow ⟨h10, h1000⟩
    have hbody : (s.taken p).setSoundBody (i, t) =
        ((s.taken p).modIntake i (·.setSound t), .ok ((s.intakes[i]).setSound t).settingsBytes) := by
      have hintake : ((s.taken p).modIntake i (·.setSound t)).intakes[i] = (s.intakes[i]).setSound t := upd_get_self _ _ _
      rw [State.setSoundBody]
      dsimp only
      rw [hintake]
    refine (serve_ok ha rolesB_of_contains rfl hargs hbody).trans ?_
    rw [Intake.settingsBytes_setSound]
    exact congrArg (fun v => Host.Outcome.next (State.replied p 0x1E tag _ { s.taken p with intakes := v })) (upd_congr (Intake.setSound_eq t _))
  · exact congrArg (fun v => Host.Outcome.next { s with intakes := v }) (upd_congr (Intake.holdExpiry_eq hhold htimer))
  · exact congrArg (fun v => Host.Outcome.next { s with intakes := v }) (upd_eq_self (Intake.holdExpiry_stopped htimer))

/-! ### A block read from its bytes (R198, R201) -/

theorem pairsOf_flatMap (ps : List Pair) : pairsOf (ps.flatMap pairBytes) = ps := by
  induction ps with
  | nil => rfl
  | cons q qs ih =>
    obtain ⟨l, r⟩ := q
    have word (x : Sample) : (BitVec.ofNat 8 (x.toNat / 256) ++ BitVec.ofNat 8 x.toNat : BitVec 16) = x := by
      refine BitVec.eq_of_toNat_eq ?_
      have hx := x.isLt
      rw [BitVec.toNat_append, BitVec.toNat_ofNat, BitVec.toNat_ofNat, ← Nat.shiftLeft_add_eq_or_of_lt (Nat.mod_lt _ (by decide)), Nat.shiftLeft_eq]
      omega
    simp only [List.flatMap_cons, pairBytes, u16, List.cons_append, List.nil_append, pairsOf, word, ih]

theorem flatMap_pairBytes_length (ps : List Pair) : (ps.flatMap pairBytes).length = 4 * ps.length := by
  induction ps with
  | nil => rfl
  | cons q qs ih =>
    rw [List.flatMap_cons, List.length_append, ih, List.length_cons]
    have : (pairBytes q).length = 4 := rfl
    omega

theorem BlockFields.covered_length {b : BlockFields} (h : b.samples.length = 240) : b.covered.length = 967 := by
  rw [BlockFields.covered, List.length_append, flatMap_pairBytes_length, h]
  rfl

theorem blockFields_covered {b : BlockFields} (hq : b.sequence < 65536) (hs : b.second < 65536) (hf : b.frame < 256) (ho : b.offset < 65536) :
    blockFields b.covered = some b := by
  simp only [BlockFields.covered, u16, u8, List.cons_append, List.nil_append, blockFields, u16_word _ hq, u16_word _ hs, u16_word _ ho,
    ofNat8_toNat hf, pairsOf_flatMap]

theorem readBlock_bytes {b : BlockFields} (extra : List Byte) (hq : b.sequence < 65536) (hs : b.second < 65536) (hf : b.frame < 256)
    (ho : b.offset < 65536) (hn : b.samples.length = 240) : readBlock (b.bytes ++ extra) = some b := by
  have hlen := BlockFields.covered_length hn
  have hcheck : checkBytes b.covered = [BitVec.ofNat 8 ((crc16 b.covered).toNat / 256), BitVec.ofNat 8 (crc16 b.covered).toNat] := rfl
  have hbytes : b.bytes ++ extra = 0xA5#8 :: 0x5A#8 :: (b.covered ++ (checkBytes b.covered ++ extra)) := by
    simp only [BlockFields.bytes, List.append_assoc, List.cons_append, List.nil_append]
  rw [hbytes]
  simp only [readBlock]
  rw [List.drop_left' hlen, List.take_left' hlen, hcheck]
  simp only [List.cons_append, List.nil_append, List.take_succ_cons, List.take_zero]
  rw [checkAgrees_self _ _ _ hcheck, if_pos rfl, blockFields_covered hq hs hf ho]

theorem readBlock_eq_none {bytes : List Byte} (h : ∀ rest hi lo, bytes = 0xA5#8 :: 0x5A#8 :: rest → (rest.drop 967).take 2 = [hi, lo] →
    checkAgrees (rest.take 967) hi lo = false) : readBlock bytes = none := by
  unfold readBlock
  split
  · next rest =>
    split
    · next hi lo hcheck => rw [h rest hi lo rfl hcheck, if_neg (by decide)]
    · rfl
  · rfl

/-- A block that fails (R201). -/
theorem readBlock_bad {bytes : List Byte} (h : bytes.take 2 ≠ [0xA5#8, 0x5A#8] ∨ bytes.length < 971 ∨
    ∃ body check extra, body.length = 967 ∧ check.length = 2 ∧ bytes = [0xA5#8, 0x5A#8] ++ body ++ check ++ extra ∧ check ≠ checkBytes body) :
    readBlock bytes = none := by
  refine readBlock_eq_none fun rest hi lo hb hcheck => ?_
  subst hb
  obtain h | h | ⟨body, check, extra, hbody, hlen, heq, hne⟩ := h
  · exact absurd rfl h
  · have hlength := congrArg List.length hcheck
    simp only [List.length_take, List.length_drop, List.length_cons, List.length_nil] at hlength h
    omega
  · have hrest : rest = body ++ (check ++ extra) := by simpa using heq
    rw [hrest, List.drop_left' hbody, List.take_left' hlen] at hcheck
    rw [hrest, List.take_left' hbody, checkAgrees]
    exact beq_false_of_ne fun h => hne (hcheck.trans h.symm)

/-! ### An arriving block (R93 to R99) -/

theorem Intake.judgeSequence_eq (b : BlockFields) (k : Intake) : k.judgeSequence b = { k with
    expected := some ((b.sequence + 1) % 65536)
    counts := { k.counts with
      seqGap := if k.expected ≠ none ∧ k.expected ≠ some b.sequence then inc16 k.counts.seqGap else k.counts.seqGap } } := by
  unfold Intake.judgeSequence
  cases he : k.expected with
  | none => rfl
  | some n =>
    by_cases hn : n = b.sequence
    · simp [hn]
    · simp [hn, Intake.count]

theorem Intake.isBack_iff (asp : Nat) (k : Intake) : k.isBack asp = true ↔ ∃ last, k.lastAccepted = some last ∧ asp < last + 240 := by
  unfold Intake.isBack
  cases k.lastAccepted <;> simp

theorem stampOk_iff (r : Rate) (b : BlockFields) : stampOk r b = true ↔ b.frame < r.fps ∧ b.offset < r.spf := by
  simp [stampOk]

/-- An arrival that is no overrun changes its intake as judged. -/
theorem exec_blockArrival {i : ScreenId} {bytes : List Byte} {f : Intake → Intake} {s : State}
    (h : (s.intakes[i]).arrive (s.shows[i]).settings.rate bytes = (f s.intakes[i], false)) :
    exec (.audioBlockArrival i bytes) s = .next { s with intakes := upd s.intakes i f } := by
  refine congrArg Host.Outcome.next (a₁ := s.blockArrival i bytes) ?_
  unfold State.blockArrival
  dsimp only
  rw [h, if_neg Bool.false_ne_true]
  exact congrArg (fun v => { s with intakes := v }) (upd_congr rfl)

/-- Settles O34, step by step of R93. -/
theorem audioBlockArrival : Obligations.AudioBlockArrival := by
  unfold Obligations.AudioBlockArrival
  intro i s
  have hnotClosed (h : (s.intakes[i]).isOpen = true) : ¬(!(s.intakes[i]).isOpen) = true := by rw [h]; decide
  refine ⟨fun bytes hclosed => exec_blockArrival ?_, fun bytes hopen hbad => exec_blockArrival ?_,
    fun b extra hopen hq hs hf ho hn => ?_⟩
  · exact if_pos (by rw [hclosed]; rfl)
  · rw [Intake.arrive, if_neg (hnotClosed hopen), readBlock_bad hbad]
    rfl
  · have harrive : (s.intakes[i]).arrive (s.shows[i]).settings.rate (b.bytes ++ extra) = _ := if_neg (hnotClosed hopen)
    rw [readBlock_bytes extra hq hs hf ho hn] at harrive
    dsimp only at harrive
    rw [Intake.judgeSequence_eq] at harrive
    have hstamp (hok : b.frame < (s.shows[i]).settings.rate.fps ∧ b.offset < (s.shows[i]).settings.rate.spf) :
        ¬(!stampOk (s.shows[i]).settings.rate b) = true := by
      rw [(stampOk_iff _ b).2 hok]
      decide
    refine ⟨fun hbad => exec_blockArrival (harrive.trans ?_), fun hok hback => exec_blockArrival (harrive.trans ?_), fun hok hback hfull => ?_,
      fun hok hback hroom => exec_blockArrival (harrive.trans ?_)⟩
    · have hno : stampOk (s.shows[i]).settings.rate b = false := Bool.eq_false_iff.2 fun h => hbad ((stampOk_iff _ b).1 h)
      rw [hno, if_pos (by rfl)]
      rfl
    · exact (if_neg (hstamp hok)).trans (if_pos ((Intake.isBack_iff _ _).2 hback))
    · replace harrive := harrive.trans <| (if_neg (hstamp hok)).trans <|
        (if_neg fun h => hback ((Intake.isBack_iff _ _).1 h)).trans (if_pos hfull)
      refine congrArg Host.Outcome.next (a₁ := s.blockArrival i (b.bytes ++ extra)) ?_
      unfold State.blockArrival
      dsimp only
      rw [harrive, if_pos rfl]
      exact congrArg (fun v => State.post .audioOverrun (.screen i) { s with intakes := v }) (upd_congr rfl)
    · refine (if_neg (hstamp hok)).trans <| (if_neg fun h => hback ((Intake.isBack_iff _ _).1 h)).trans <|
        (if_neg (Nat.not_le.2 hroom)).trans ?_
      refine congrArg (fun k => (k, false)) ?_
      unfold Intake.accept Intake.examineRise
      dsimp only
      refine if_congr ?_ rfl rfl
      simp only [Intake.count, Intake.fill, List.length_append, List.length_singleton, Bool.not_eq_true']

end Sys2Proof.Machine

/-! The Call Unit: what the clip reader, the owed fill and the start of a call change (for O10, O15, O17, O26, O32, O35 to O38, O40, O41,
O43, O44, O46, O47). -/

namespace Sys2Proof.Machine

/-! ### Units that the clip reader alone has touched -/

theorem CallUnit.sameButReads_refl (c : CallUnit) : c.sameButReads c := ⟨rfl, id, fun q hq => ⟨q.nextRead, q.readPending, hq⟩⟩

theorem CallUnit.sameButReads.trans {c d u : CallUnit} (h : c.sameButReads d) (h' : d.sameButReads u) : c.sameButReads u := by
  obtain ⟨hd, hdn, hds⟩ := h
  obtain ⟨hu, hun, hus⟩ := h'
  refine ⟨?_, fun hc => hun (hdn hc), fun q hq => ?_⟩
  · rw [hd] at hu
    exact hu
  · obtain ⟨a, b, hab⟩ := hds q hq
    obtain ⟨a', b', hab'⟩ := hus _ hab
    exact ⟨a', b', hab'⟩

/-- Every screen's call unit is touched by the clip reader alone. -/
def ReadsOnly (s t : State) : Prop := ∀ j : ScreenId, (s.calls[j]).sameButReads t.calls[j]

theorem ReadsOnly.refl (s : State) : ReadsOnly s s := fun _ => CallUnit.sameButReads_refl _

theorem ReadsOnly.trans {s t u : State} (h : ReadsOnly s t) (h' : ReadsOnly t u) : ReadsOnly s u := fun j => (h j).trans (h' j)

theorem modCalls_get_self (i : ScreenId) (f : CallUnit → CallUnit) (s : State) : (s.modCalls i f).calls[i] = f s.calls[i] :=
  upd_get_self _ _ _

theorem modCalls_get_ne {i j : ScreenId} (h : j ≠ i) (f : CallUnit → CallUnit) (s : State) : (s.modCalls i f).calls[j] = s.calls[j] :=
  upd_get_ne _ _ _ _ (Ne.symm h)

theorem modCalls_readsOnly {i : ScreenId} {f : CallUnit → CallUnit} {s : State} (h : (s.calls[i]).sameButReads (f s.calls[i])) :
    ReadsOnly s (s.modCalls i f) := by
  intro j
  by_cases hj : j = i
  · subst hj
    rw [modCalls_get_self]
    exact h
  · rw [modCalls_get_ne hj]
    exact CallUnit.sameButReads_refl _

theorem askRead_readsOnly (i : ScreenId) (s : State) : ReadsOnly s (s.askRead i) := by
  refine modCalls_readsOnly ⟨rfl, fun h => by rw [h]; rfl, fun q hq => ?_⟩
  rw [hq]
  simp only [Option.map_some, Playing.ask]
  split
  · exact ⟨_, _, rfl⟩
  · exact ⟨_, _, rfl⟩

theorem grant_readsOnly (i : ScreenId) (s : State) : ReadsOnly s (s.grant i) := by
  unfold State.grant
  split
  · exact .refl s
  · next p hp =>
    split
    · exact .refl s
    · refine ReadsOnly.trans (modCalls_readsOnly (i := i) ⟨rfl, fun h => absurd (hp.symm.trans h) (by simp), fun q hq => ?_⟩) (.refl _)
      rw [hp] at hq
      cases hq
      exact ⟨_, _, rfl⟩

theorem grantRead_readsOnly (s : State) : ReadsOnly s s.grantRead := by
  unfold State.grantRead
  split
  · exact .refl s
  · split
    · exact grant_readsOnly _ s
    · exact .refl s

theorem serveReads_readsOnly (s : State) : ReadsOnly s s.serveReads :=
  (askRead_readsOnly 0 s).trans <| (askRead_readsOnly 1 _).trans <| (askRead_readsOnly 2 _).trans <|
    (askRead_readsOnly 3 _).trans (grantRead_readsOnly _)

theorem grantRead_orders (s : State) : s.grantRead.orders = s.orders := by
  unfold State.grantRead
  split
  · rfl
  · split
    · unfold State.grant
      split
      · rfl
      · split <;> rfl
    · rfl

theorem serveReads_orders (s : State) : s.serveReads.orders = s.orders := grantRead_orders _

/-- While a read is in flight the reader stands as it is. -/
theorem serveReads_reader {s : State} {f : ClipRead} (h : s.reader.inFlight = some f) : s.serveReads.reader = s.reader := by
  have hbusy : ((((s.askRead 0).askRead 1).askRead 2).askRead 3).reader = s.reader := rfl
  unfold State.serveReads State.grantRead
  rw [if_pos (by rw [hbusy, h]; rfl)]
  exact hbusy

/-! ### The part apart from calls, orders and reader -/

/-- A state that differs in calls, orders and reader alone, written out. -/
theorem eq_of_clearCalls {s t : State} (h : t.clearCalls = s.clearCalls) :
    t = { s with orders := t.orders, calls := t.calls, reader := t.reader } := by
  obtain ⟨⟩ := t
  obtain ⟨⟩ := s
  simp only [State.clearCalls, State.mk.injEq] at h
  obtain ⟨rfl, rfl, rfl, rfl, rfl, rfl, rfl, rfl, rfl, rfl, rfl, rfl, rfl, rfl, rfl, rfl, -, rfl, -, rfl, -, rfl, rfl, rfl⟩ := h
  rfl

/-- Two states that differ in the calls and the orders. -/
theorem callsOrders_congr {s : State} {v v' : Vector CallUnit 4} {b b' : OrderUnit} (hv : v = v') (hb : b = b') :
    ({ s with calls := v, orders := b } : State) = { s with calls := v', orders := b' } := by rw [hv, hb]

/-! ### The owed fill (R132) -/

/-- Whether a number is that of an owed order of the screen. -/
def State.owes (i : ScreenId) (s : State) (n : Nat) : Bool := (s.order? n).any fun o => o.owed && o.screen == i

theorem nextOwed_eq (i : ScreenId) (s : State) : s.nextOwed i = (s.owedNow i).head? := by
  have hfind : s.nextOwed i = s.orders.shelf.find? (s.owes i) := by
    unfold State.nextOwed
    refine congrArg (fun p => s.orders.shelf.find? p) (funext fun n => ?_)
    unfold State.owes
    cases s.order? n <;> rfl
  have howed : s.owedNow i = (s.orders.shelf.filter (s.owes i)).eraseDups := rfl
  rw [hfind, ← List.head?_filter, howed]
  cases s.orders.shelf.filter (s.owes i) with
  | nil => rfl
  | cons n l => rw [List.eraseDups_cons]; rfl

theorem OrderUnit.unowed_nil (b : OrderUnit) : b.unowed [] = b := by
  simp [OrderUnit.unowed]

theorem OrderUnit.unowed_cons (n : Nat) (ns : List Nat) (b : OrderUnit) : b.unowed (n :: ns) = (b.unowed [n]).unowed ns := by
  simp only [OrderUnit.unowed, List.map_map]
  refine congrArg (fun t => { b with table := t }) (List.map_congr_left fun o _ => ?_)
  by_cases hn : o.number = n
  · simp only [List.mem_cons, hn, true_or, if_true, Function.comp_apply, List.not_mem_nil, or_false, ite_self]
  · simp only [List.mem_cons, hn, false_or, Function.comp_apply, List.not_mem_nil, if_false]

theorem OrderUnit.unowed_append (ns ms : List Nat) (b : OrderUnit) : b.unowed (ns ++ ms) = (b.unowed ns).unowed ms := by
  induction ns generalizing b with
  | nil => rw [List.nil_append, OrderUnit.unowed_nil]
  | cons n ns ih => rw [List.cons_append, OrderUnit.unowed_cons, ih, ← OrderUnit.unowed_cons]

theorem modOrder_unowed (n : Nat) (s : State) :
    (s.modOrder n fun o => { o with owed := false }) = { s with orders := s.orders.unowed [n] } := by
  simp only [State.modOrder, State.modOrders, OrderUnit.unowed, List.mem_singleton]

theorem find?_map_number (n m : Nat) (f : Order → Order) (hf : ∀ o, (f o).number = o.number) (l : List Order) :
    (l.map fun r => if r.number = n then f r else r).find? (·.number == m) =
      (l.find? (·.number == m)).map fun r => if r.number = n then f r else r := by
  rw [List.find?_map]
  refine congrArg (Option.map _) (congrArg (fun p => l.find? p) (funext fun o => ?_))
  simp only [Function.comp_apply]
  split
  · rw [hf]
  · rfl

theorem order?_modOrder (n m : Nat) (f : Order → Order) (hf : ∀ o, (f o).number = o.number) (s : State) :
    (s.modOrder n f).order? m = (s.order? m).map fun r => if r.number = n then f r else r := find?_map_number n m f hf s.orders.table

theorem order?_number {n : Nat} {o : Order} {s : State} (h : s.order? n = some o) : o.number = n := by
  simpa using List.find?_some h

theorem owes_unowed (i : ScreenId) (n m : Nat) (s : State) :
    ({ s with orders := s.orders.unowed [n] } : State).owes i m = (s.owes i m && m != n) := by
  rw [← modOrder_unowed]
  unfold State.owes
  rw [order?_modOrder n m (fun o => { o with owed := false }) fun _ => rfl]
  cases ho : s.order? m with
  | none => rfl
  | some o =>
    have hm := order?_number ho
    by_cases hn : m = n
    · simp [hm, hn]
    · simp [hm, hn]

/-- With the mark of the first owed order cleared, the rest of the owed orders remain. -/
theorem owedNow_unowed {i : ScreenId} {n : Nat} {l : List Nat} {s : State} (h : s.owedNow i = n :: l) :
    ({ s with orders := s.orders.unowed [n] } : State).owedNow i = l := by
  have hfilter : ({ s with orders := s.orders.unowed [n] } : State).orders.shelf.filter
      (({ s with orders := s.orders.unowed [n] } : State).owes i) = (s.orders.shelf.filter (s.owes i)).filter (· != n) := by
    rw [List.filter_filter]
    refine List.filter_congr fun m _ => ?_
    rw [owes_unowed, Bool.and_comm]
  have howed : (s.orders.shelf.filter (s.owes i)).eraseDups = n :: l := h
  refine (congrArg List.eraseDups hfilter).trans ?_
  cases hl : s.orders.shelf.filter (s.owes i) with
  | nil => simp [hl] at howed
  | cons m ms =>
    rw [hl, List.eraseDups_cons, List.cons.injEq] at howed
    obtain ⟨rfl, rfl⟩ := howed
    simp [List.filter_cons, bne]

/-- The owed fill of a screen with `k` orders at most: the queue has the first of them behind it, their marks cleared. -/
theorem owedFillFor_eq (k : Nat) (i : ScreenId) (s : State) :
    State.owedFillFor k i s = { s with
      calls := upd s.calls i fun c => { c with
        queue := c.queue ++ ((s.owedNow i).take (min k (16 - (s.calls[i]).queue.length))).map CallEntry.orderCall }
      orders := s.orders.unowed ((s.owedNow i).take (min k (16 - (s.calls[i]).queue.length))) } := by
  have hnothing (u : State) : u = { u with
      calls := upd u.calls i fun c => { c with queue := c.queue ++ ([] : List Nat).map CallEntry.orderCall }
      orders := u.orders.unowed [] } := by
    have hcalls : upd u.calls i (fun c => { c with queue := c.queue ++ ([] : List Nat).map CallEntry.orderCall }) = u.calls :=
      upd_eq_self (by simp)
    rw [hcalls, OrderUnit.unowed_nil]
  induction k generalizing s with
  | zero =>
    rw [Nat.zero_min, List.take_zero]
    exact hnothing s
  | succ k ih =>
    unfold State.owedFillFor
    split
    · next hroom =>
      rw [nextOwed_eq]
      cases hl : s.owedNow i with
      | nil =>
        rw [List.take_nil]
        exact hnothing s
      | cons n l =>
        dsimp only [List.head?_cons]
        rw [ih, modOrder_unowed]
        have howed : (({ s with orders := s.orders.unowed [n] } : State).modCalls i (·.join (.orderCall n))).owedNow i = l := owedNow_unowed hl
        have hlen : ((({ s with orders := s.orders.unowed [n] } : State).modCalls i (·.join (.orderCall n))).calls[i]).queue.length =
            (s.calls[i]).queue.length + 1 := by
          rw [modCalls_get_self]
          simp [CallUnit.join]
        have hmin : min (k + 1) (16 - (s.calls[i]).queue.length) = min k (16 - ((s.calls[i]).queue.length + 1)) + 1 := by omega
        rw [howed, hlen, hmin, List.take_succ_cons, OrderUnit.unowed_cons n (l.take _)]
        refine callsOrders_congr (s := s) ?_ rfl
        refine (upd_upd s.calls i _ _).trans (upd_congr ?_)
        simp [CallUnit.join]
    · next hfull =>
      have hzero : 16 - (s.calls[i]).queue.length = 0 := by omega
      rw [hzero, Nat.min_zero, List.take_zero]
      exact hnothing s

/-- The owed fill of a screen takes all the room there is (R132, log 24). -/
theorem owedFill_eq (i : ScreenId) (s : State) :
    s.owedFill i = { s with
      calls := upd s.calls i fun c => { c with
        queue := c.queue ++ ((s.owedNow i).take (16 - (s.calls[i]).queue.length)).map CallEntry.orderCall }
      orders := s.orders.unowed ((s.owedNow i).take (16 - (s.calls[i]).queue.length)) } := by
  have hmin : min 16 (16 - (s.calls[i]).queue.length) = 16 - (s.calls[i]).queue.length := by omega
  rw [State.owedFill, owedFillFor_eq, hmin]

/-! ### The start of a call (R135) -/

theorem orderDigits_eq (n : Nat) :
    orderDigits n = (if 100 ≤ n then [n / 100] else []) ++ (if 10 ≤ n then [n / 10 % 10] else []) ++ [n % 10] := by
  unfold orderDigits
  by_cases h10 : n < 10
  · rw [if_pos h10, if_neg (by omega), if_neg (by omega), Nat.mod_eq_of_lt h10]
    rfl
  · by_cases h100 : n < 100
    · rw [if_neg h10, if_pos h100, if_neg (by omega), if_pos (by omega), Nat.mod_eq_of_lt (by omega : n / 10 < 10)]
      rfl
    · rw [if_neg h10, if_neg h100, if_pos (by omega), if_pos (by omega)]
      rfl

theorem Directory.clip?_eq (d : Directory) (id : Nat) : d.clip? id = d.entries.toList[id]?.getD none := by
  unfold Directory.clip?
  by_cases h : id < 32
  · simp [h]
  · simp [h]

theorem CallEntry.composed_eq (e : CallEntry) (d : Directory) : e.composed d = d.compose e := by
  unfold CallEntry.composed Directory.compose CallEntry.clipIds
  cases e with
  | announce clips => simp only [Directory.clip?_eq]
  | orderCall n => simp only [Directory.clip?_eq, orderDigits_eq, List.append_assoc, List.cons_append, List.nil_append]

/-- The conditions under which the head call of a screen starts (R135), the queue apart. -/
def State.ready (i : ScreenId) (s : State) : Prop :=
  (s.calls[i]).callWindow = true ∧ (s.links[i]).soundUp = true ∧ s.dir.reading = false ∧ (s.calls[i]).slot = none ∧ (s.calls[i]).duckState = .up

theorem canStart_iff (i : ScreenId) (s : State) : s.canStart i = true ↔ s.ready i ∧ (s.calls[i]).queue ≠ [] := by
  unfold State.canStart State.mayCall State.ready
  simp only [Bool.and_eq_true, Bool.not_eq_true', Option.isNone_iff_eq_none, beq_iff_eq, List.isEmpty_eq_false_iff]
  tauto

theorem startScreen_of_not {i : ScreenId} {s : State} (h : ¬(s.ready i ∧ (s.calls[i]).queue ≠ [])) : s.startScreen i = s := by
  unfold State.startScreen
  cases s.callFuel i with
  | zero => rfl
  | succ k => exact if_neg fun hc => h ((canStart_iff i s).1 hc)

theorem takeHead_eq {i : ScreenId} {m : MixSettings} {d : DuckState} {e : CallEntry} {rest : List CallEntry} {s : State}
    (hq : (s.calls[i]).queue = e :: rest) (hc : e.composed s.dir ≠ []) :
    s.takeHead i m d = { s with
      calls := upd s.calls i fun c => { c with
        queue := rest ++ ((s.owedNow i).take (16 - rest.length)).map CallEntry.orderCall
        slot := some (.atStart e (e.composed s.dir) m), duckState := d }
      orders := s.orders.unowed ((s.owedNow i).take (16 - rest.length)) } := by
  have hempty : (s.dir.compose e).isEmpty = false := by
    rw [← CallEntry.composed_eq]
    exact List.isEmpty_eq_false_iff.2 hc
  unfold State.takeHead
  rw [hq]
  dsimp only
  have hdir : (s.modCalls i fun c => { c with queue := rest }).dir = s.dir := rfl
  rw [hdir, hempty, if_neg Bool.false_ne_true, owedFill_eq, CallEntry.composed_eq]
  have hcalls : ((s.modCalls i fun c => { c with queue := rest }).modCalls i fun c =>
      { c with slot := some (.atStart e (s.dir.compose e) m), duckState := d }).calls[i] =
      { s.calls[i] with queue := rest, slot := some (.atStart e (s.dir.compose e) m), duckState := d } := by
    rw [modCalls_get_self, modCalls_get_self]
  rw [hcalls]
  refine callsOrders_congr (s := s) ?_ rfl
  rw [State.modCalls_calls, State.modCalls_calls, upd_upd, upd_upd]
  rfl

theorem startScreen_of_start {i : ScreenId} {e : CallEntry} {rest : List CallEntry} {s : State} (hr : s.ready i)
    (hq : (s.calls[i]).queue = e :: rest) (hc : e.composed s.dir ≠ []) :
    s.startScreen i = s.takeHead i (s.calls[i]).settings (.rampDown 0) := by
  have hstart : s.canStart i = true := (canStart_iff i s).2 ⟨hr, by rw [hq]; exact List.cons_ne_nil _ _⟩
  have hstops (k : Nat) : State.startCalls k i (s.takeHead i (s.calls[i]).settings (.rampDown 0)) =
      s.takeHead i (s.calls[i]).settings (.rampDown 0) := by
    cases k with
    | zero => rfl
    | succ k =>
      refine if_neg fun hcan => ?_
      obtain ⟨⟨-, -, -, hslot, -⟩, -⟩ := (canStart_iff i _).1 hcan
      rw [takeHead_eq hq hc] at hslot
      have hself := congrArg CallUnit.slot (upd_get_self s.calls i fun c => { c with
        queue := rest ++ ((s.owedNow i).take (16 - rest.length)).map CallEntry.orderCall
        slot := some (.atStart e (e.composed s.dir) (s.calls[i]).settings), duckState := .rampDown 0 })
      exact absurd (hself.symm.trans hslot) (by simp)
  unfold State.startScreen
  have hfuel : s.callFuel i = (rest.length + s.orders.shelf.length) + 1 := by
    rw [State.callFuel, hq, List.length_cons]
    omega
  rw [hfuel]
  exact (if_pos hstart).trans (hstops _)

end Sys2Proof.Machine

/-! Output instants: what the Alignment Unit does, and what goes out where no call is mixed over it (O35, O36, O37). -/

namespace Sys2Proof.Machine

/-! ### Calls moved on one screen -/

/-- What neither the queue nor the slot, the duck state or the played count speaks of. -/
def CallUnit.fixed (c : CallUnit) : CallUnit := { c with queue := [], slot := none, duckState := .up, played := 0 }

/-- Calls leave and enter the queue and the slot of one screen, and nothing else of the call units changes. -/
def CallsOn (i : ScreenId) (s t : State) : Prop :=
  (∀ j : ScreenId, j ≠ i → t.calls[j] = s.calls[j]) ∧ (t.calls[i]).fixed = (s.calls[i]).fixed

theorem CallsOn.refl (i : ScreenId) (s : State) : CallsOn i s s := ⟨fun _ _ => rfl, rfl⟩

theorem CallsOn.trans {i : ScreenId} {s t u : State} (h : CallsOn i s t) (h' : CallsOn i t u) : CallsOn i s u :=
  ⟨fun j hj => (h'.1 j hj).trans (h.1 j hj), h'.2.trans h.2⟩

theorem CallsOn.of_calls {i : ScreenId} {s t : State} (h : t.calls = s.calls) : CallsOn i s t := ⟨fun j _ => by rw [h], by rw [h]⟩

theorem modCalls_callsOn {i : ScreenId} {f : CallUnit → CallUnit} {s : State} (hf : (f s.calls[i]).fixed = (s.calls[i]).fixed) :
    CallsOn i s (s.modCalls i f) := ⟨fun _ hj => modCalls_get_ne hj f s, by rw [modCalls_get_self, hf]⟩

theorem owedFill_callsOn (i : ScreenId) (s : State) : CallsOn i s (s.owedFill i) := by
  rw [owedFill_eq]
  exact modCalls_callsOn (f := fun c => { c with
    queue := c.queue ++ ((s.owedNow i).take (16 - (s.calls[i]).queue.length)).map CallEntry.orderCall }) rfl

theorem reportPlayed_calls (e : CallEntry) (s : State) : (s.reportPlayed e).calls = s.calls := by cases e <;> rfl

theorem takeHead_callsOn (i : ScreenId) (m : MixSettings) (d : DuckState) (s : State) : CallsOn i s (s.takeHead i m d) := by
  unfold State.takeHead
  split
  · exact .refl i s
  · next e rest hq =>
    have left : CallsOn i s (s.modCalls i fun c => { c with queue := rest }) := modCalls_callsOn rfl
    refine (left.trans ?_).trans (owedFill_callsOn i _)
    split
    · exact (CallsOn.of_calls (reportPlayed_calls e _)).trans (modCalls_callsOn rfl)
    · exact modCalls_callsOn rfl

theorem startCalls_callsOn (k : Nat) (i : ScreenId) (s : State) : CallsOn i s (State.startCalls k i s) := by
  induction k generalizing s with
  | zero => exact .refl i s
  | succ k ih =>
    unfold State.startCalls
    split
    · exact (takeHead_callsOn i _ _ s).trans (ih _)
    · exact .refl i s

theorem startScreen_callsOn (i : ScreenId) (s : State) : CallsOn i s (s.startScreen i) := startCalls_callsOn _ i s

theorem CallUnit.sameButReads.fixed {c u : CallUnit} (h : c.sameButReads u) : u.fixed = c.fixed := by rw [h.1]; rfl

/-! ### The mixer where no call plays (R136, R140) -/

theorem mixSample_full (v : Sample) (level : Nat) : mixSample v 256 0 level = v := by
  have hlo := BitVec.le_toInt v
  have hhi := BitVec.toInt_lt (x := v)
  have hexact : mixExact v 256 0 level = v.toInt := by
    have hzero : (0 : Sample).toInt = 0 := rfl
    unfold mixExact
    rw [hzero]
    omega
  have hsat : saturate v.toInt = v.toInt := by
    unfold saturate
    omega
  rw [mixSample, hexact, hsat, BitVec.ofInt_toInt]

/-- Where no call plays and the gain is UP the programme goes out unchanged. -/
theorem mixInstant_quiet {i : ScreenId} {prog : Pair} {s : State} (hslot : (s.calls[i]).slot = none) (hup : (s.calls[i]).duckState = .up) :
    ((s.mixInstant i prog).calls[i]).audioOut = prog := by
  have hsettle (c : CallUnit) : c.settle.audioOut = c.audioOut ∧ c.settle.slot = c.slot := by
    unfold CallUnit.settle
    split <;> exact ⟨rfl, rfl⟩
  have hskip : (s.calls[i]).skipLate = s.calls[i] := by
    unfold CallUnit.skipLate
    rw [hslot]
  have hmix : ((s.calls[i]).mix prog).audioOut = prog ∧ ((s.calls[i]).mix prog).slot = none := by
    simp only [CallUnit.mix, hskip, hsettle]
    simp only [hslot, hup, CallUnit.clipSample, DuckState.nextGain, mixSample_full, Option.map_none, and_self]
  have hself := modCalls_get_self i (·.mix prog) s
  have hend : (s.modCalls i (·.mix prog)).endFinished i = s.modCalls i (·.mix prog) := by
    unfold State.endFinished
    rw [hself, hmix.2]
  have hout (c u : CallUnit) (h : u.fixed = c.fixed) : u.audioOut = c.audioOut := by
    have hfixed : u.fixed.audioOut = c.fixed.audioOut := congrArg CallUnit.audioOut h
    exact hfixed
  unfold State.mixInstant
  rw [hend, hout _ _ (serveReads_readsOnly _ i).fixed, hout _ _ (startScreen_callsOn i _).2, hself, hmix.1]

/-! ### One instant (R109, R114) -/

/-- The flow examined where the ring has fallen (R102), written out. -/
theorem Intake.afterInstant_eq (ring : List Block) (k : Intake) : k.afterInstant ring =
    if ring.length < k.ring.length ∧ k.holding = true ∧ ring.length ≤ k.settings.low then
      { k with ring := ring, returnLine := k.returnLine ++ [.resume], holding := false, holdTimer := none
               counts := { k.counts with resumes := inc16 k.counts.resumes } }
    else { k with ring := ring } := by
  unfold Intake.afterInstant Intake.examineFall Intake.fill
  by_cases h : ring.length < k.ring.length
  · simp only [h, if_true, true_and]
    rfl
  · simp only [h, if_false, false_and]

/-- The intake as an instant leaves it where the ring stays. -/
theorem Intake.afterInstant_same (k : Intake) : k.afterInstant k.ring = k := if_neg (Nat.lt_irrefl _)

/-- What an output instant gives, from what the Alignment Unit makes of it. -/
theorem exec_instant {i : ScreenId} {us : Nat} {s : State} (hr : s.inReset = false) {x : Sounding}
    (hx : (s.aligns[i]).instant ((s.shows[i]).elapse us).psp ((s.shows[i]).elapse us).settings.rate.spf (s.intakes[i]).ring = x) :
    ∃ u, exec (.outputInstant i us) s = .next u ∧
      u = { s with
        shows := upd s.shows i (·.elapse us), intakes := upd s.intakes i (Intake.afterInstant x.ring), aligns := upd s.aligns i fun _ => x.align
        orders := u.orders, calls := u.calls, reader := u.reader, ports := (s.postIf x.resync .soundResync (.screen i)).ports } ∧
      ((s.calls[i]).slot = none → (s.calls[i]).duckState = .up → (u.calls[i]).audioOut = x.out) := by
  have helapsed : (s.modShow i (·.elapse us)).shows[i] = (s.shows[i]).elapse us := upd_get_self _ _ _
  have hsounding : (s.modShow i (·.elapse us)).sounding i = x := by
    rw [State.sounding, helapsed]
    exact hx
  have halign : (s.modShow i (·.elapse us)).alignInstant i = { s with
      shows := upd s.shows i (·.elapse us), intakes := upd s.intakes i (Intake.afterInstant x.ring), aligns := upd s.aligns i fun _ => x.align
      ports := (s.postIf x.resync .soundResync (.screen i)).ports } := by
    rw [State.alignInstant, hsounding]
    cases x.resync <;> rfl
  have hexec : exec (.outputInstant i us) s = .next (((s.modShow i (·.elapse us)).alignInstant i).mixInstant i x.out) := by
    refine congrArg Host.Outcome.next (a₁ := if s.inReset then s else s.outputInstant i us) ?_
    rw [hr, if_neg Bool.false_ne_true, State.outputInstant, hsounding]
  refine ⟨_, hexec, ?_, fun hslot hup => ?_⟩
  · have hframe := eq_of_clearCalls (mixInstant_frame i x.out ((s.modShow i (·.elapse us)).alignInstant i))
    rw [halign] at hframe ⊢
    exact hframe
  · rw [halign]
    exact mixInstant_quiet hslot hup

theorem Show.psp_eq (w : Show) : w.psp = (w.clock.second * w.settings.rate.fps + w.clock.frame) * w.settings.rate.spf +
    (if w.state = .lost ∨ (w.state = .held ∧ w.framesStopped = true) ∨ w.clockLimit = true then w.settings.rate.spf - 1
      else min (w.settings.rate.spf - 1) (w.monitor.e * w.settings.rate.spf / w.monitor.pLast)) := by
  have hstanding : w.standing = true ↔ w.state = .lost ∨ (w.state = .held ∧ w.framesStopped = true) ∨ w.clockLimit = true := by
    simp only [Show.standing, Bool.or_eq_true, Bool.and_eq_true, beq_iff_eq, or_assoc]
  unfold Show.psp Show.interp Show.frameCount
  rw [if_congr hstanding rfl rfl]

/-- An instant that takes nothing. -/
theorem instant_quiet {psp spf : Nat} {ring : List Block} {a : Align} (h : a.mode = .muted ∨ a.mode = .paused ∨
    (a.mode = .waiting ∧ ∀ b ∈ ring.head?, psp < b.asp + a.readPoint + a.dSamples)) :
    a.instant psp spf ring = { out := silence, ring, align := a, resync := false } := by
  unfold Align.instant
  obtain h | h | ⟨h, hdue⟩ := h
  · rw [h]
  · rw [h]
  · rw [h]
    unfold waitingInstant
    cases ring with
    | nil => rfl
    | cons b rest =>
      have hlt := hdue b rfl
      refine if_pos ?_
      simp only [slipAt]
      omega

/-- Settles O35. -/
theorem quietInstants : Obligations.QuietInstants := by
  unfold Obligations.QuietInstants
  intro i us s hr
  refine ⟨Show.psp_eq _, fun hquiet => ?_⟩
  rw [← Show.psp_eq] at hquiet
  obtain ⟨u, hu, hstate, hout⟩ := exec_instant (us := us) hr (instant_quiet hquiet)
  refine ⟨u, hu, hstate.trans ?_, hout⟩
  have hintakes : upd s.intakes i (Intake.afterInstant (s.intakes[i]).ring) = s.intakes := upd_eq_self (Intake.afterInstant_same _)
  have haligns : (upd s.aligns i fun _ => s.aligns[i]) = s.aligns := upd_eq_self rfl
  rw [hintakes, haligns]
  rfl

end Sys2Proof.Machine

/-! Output instants that play, and the resyncs and underruns (O36, O37). -/

namespace Sys2Proof.Machine

/-! ### The pieces of an instant -/

theorem nextMode_eq (before : AlignMode) (slip : Int) : nextMode before slip = blockMode before slip := by
  unfold nextMode blockMode
  cases before <;> simp only [reduceCtorEq, false_and, true_and, if_false] <;> split_ifs <;> first | rfl | omega

/-- The slip of the sample at a read point, as the statements write it (R111). -/
theorem slipAt_eq (psp asp k d : Nat) : slipAt psp (asp + k) d = (psp : Int) - ((asp : Int) + k + d) := by
  rw [slipAt, Int.natCast_add]

theorem emitNext_inside {b : Block} {rest : List Block} {a : Align} {resync : Bool} (h : a.readPoint < 239) :
    emitNext b rest a resync = { out := b.sampleAt a.readPoint, ring := b :: rest, align := a.moveTo (a.readPoint + 1), resync } :=
  if_neg (Nat.not_le.mpr h)

theorem emitNext_last {b : Block} {rest : List Block} {a : Align} {resync : Bool} (h : a.readPoint = 239) :
    emitNext b rest a resync = { out := b.sampleAt 239, ring := rest, align := a.moveTo 0, resync } := by
  unfold emitNext
  rw [if_pos (Nat.le_of_eq h.symm), h]

/-- An Alignment Unit that plays: in LOCKED, CATCH_UP or HOLD_BACK. -/
def AlignMode.plays (m : AlignMode) : Prop := m = .locked ∨ m = .catchUp ∨ m = .holdBack

section Instants

variable {psp spf : Nat} {b : Block} {rest : List Block} {a : Align}

theorem instant_start (hm : a.mode.plays) (h0 : a.readPoint = 0) :
    a.instant psp spf (b :: rest) = blockStart a.mode psp spf b rest a := by
  unfold Align.instant
  obtain h | h | h := hm <;> simp only [h] <;> exact if_pos h0

theorem instant_within (hm : a.mode.plays) (h0 : a.readPoint ≠ 0) :
    a.instant psp spf (b :: rest) = withinBlock psp spf b rest a := by
  unfold Align.instant
  obtain h | h | h := hm <;> simp only [h] <;> exact if_neg h0

theorem instant_empty (hm : a.mode.plays) : a.instant psp spf [] = underrun a := by
  unfold Align.instant
  obtain h | h | h := hm <;> simp only [h]

theorem instant_waiting (hm : a.mode = .waiting) (ring : List Block) : a.instant psp spf ring = waitingInstant psp spf ring a := by
  unfold Align.instant
  simp only [hm]

/-- In LOCKED, and away from the samples 119 and 239, the next sample goes out. -/
theorem withinBlock_plain (hm : a.mode.plays) (h : a.mode = .locked ∨ (a.readPoint ≠ 119 ∧ a.readPoint ≠ 239)) :
    withinBlock psp spf b rest a = emitNext b rest a false := by
  unfold withinBlock
  obtain hmode | hmode | hmode := hm <;> simp only [hmode]
  · obtain ⟨h119, h239⟩ := h.resolve_left (by rw [hmode]; decide)
    exact (if_neg h119).trans (if_neg h239)
  · obtain ⟨h119, h239⟩ := h.resolve_left (by rw [hmode]; decide)
    exact if_neg (by rintro (h | h) <;> contradiction)

theorem withinBlock_drop (hm : a.mode = .catchUp) (hp : a.readPoint = 119) :
    withinBlock psp spf b rest a = emitNext b rest (a.countDrop.moveTo 120) false := by
  unfold withinBlock
  simp only [hm]
  exact if_pos hp

/-- The drop of the sample 239: the next block starts (R116). -/
theorem withinBlock_dropLast {next : Block} (hm : a.mode = .catchUp) (hp : a.readPoint = 239) :
    withinBlock psp spf b (next :: rest) a = blockStart .catchUp psp spf next rest a.countDrop := by
  unfold withinBlock
  simp only [hm, hp, Nat.reduceEqDiff, if_false, if_true]

/-- After that drop the ring may be empty. -/
theorem withinBlock_dropLast_nil (hm : a.mode = .catchUp) (hp : a.readPoint = 239) :
    withinBlock psp spf b [] a = underrun a.countDrop := by
  unfold withinBlock
  simp only [hm, hp, Nat.reduceEqDiff, if_false, if_true]

theorem withinBlock_repeat (hm : a.mode = .holdBack) (hp : a.readPoint = 119 ∨ a.readPoint = 239) (ht : a.repeatTaken = false) :
    withinBlock psp spf b rest a =
      { out := b.sampleAt a.readPoint, ring := b :: rest, align := { a with repeatTaken := true }, resync := false } := by
  unfold withinBlock
  simp only [hm]
  exact (if_pos hp).trans (if_neg (by rw [ht]; decide))

theorem withinBlock_repeated (hm : a.mode = .holdBack) (hp : a.readPoint = 119 ∨ a.readPoint = 239) (ht : a.repeatTaken = true) :
    withinBlock psp spf b rest a = emitNext b rest (a.count fun c => { c with repeated := inc32 c.repeated }) false := by
  unfold withinBlock
  simp only [hm]
  exact (if_pos hp).trans (if_pos ht)

/-- A block that starts near its time: the slip recorded, the mode of R115, its first sample. -/
theorem blockStart_near {before : AlignMode} {slip : Int} (hs : slipAt psp b.asp a.dSamples = slip)
    (hlo : -(2 * (spf : Int)) ≤ slip) (hhi : slip ≤ 2 * (spf : Int)) : blockStart before psp spf b rest a =
      { out := b.sampleAt 0, ring := b :: rest, resync := false
        align := { a with mode := blockMode before slip, lastSlip := some slip, readPoint := 1, repeatTaken := false } } := by
  unfold blockStart
  dsimp only
  rw [hs, nextMode_eq]
  refine (if_neg (Int.not_lt.mpr hhi)).trans ((if_neg (Int.not_lt.mpr hlo)).trans (emitNext_inside ?_))
  exact (by decide : 0 < 239)

theorem blockStart_late {before : AlignMode} {slip : Int} (hs : slipAt psp b.asp a.dSamples = slip) (h : 2 * (spf : Int) < slip) :
    blockStart before psp spf b rest a = resyncLate psp (b :: rest) { a.moveTo 0 with lastSlip := some slip } := by
  unfold blockStart
  dsimp only
  rw [hs]
  exact if_pos h

theorem blockStart_early {before : AlignMode} {slip : Int} (hs : slipAt psp b.asp a.dSamples = slip) (h : slip < -(2 * (spf : Int))) :
    blockStart before psp spf b rest a = resyncEarly (b :: rest) { a.moveTo 0 with lastSlip := some slip } := by
  unfold blockStart
  dsimp only
  rw [hs]
  exact (if_neg (by omega)).trans (if_pos h)

theorem waitingInstant_late {slip : Int} (hs : slipAt psp (b.asp + a.readPoint) a.dSamples = slip) (h : 2 * (spf : Int) < slip) :
    waitingInstant psp spf (b :: rest) a = resyncLate psp (b :: rest) a := by
  unfold waitingInstant
  dsimp only
  rw [hs]
  exact (if_neg (by omega)).trans (if_pos h)

/-- WAITING ends: the sample at the read point is due. -/
theorem waitingInstant_due {slip : Int} (hs : slipAt psp (b.asp + a.readPoint) a.dSamples = slip) (hlo : 0 ≤ slip)
    (hhi : slip ≤ 2 * (spf : Int)) : waitingInstant psp spf (b :: rest) a =
      if a.readPoint = 0 then blockStart .locked psp spf b rest a else emitNext b rest { a with mode := .locked } false := by
  unfold waitingInstant
  dsimp only
  rw [hs]
  exact (if_neg (by omega)).trans (if_neg (by omega))

end Instants

/-- What an instant gives, with the flow of the intake written out (R102). -/
theorem gives_of_instant {i : ScreenId} {us : Nat} {s : State} (hr : s.inReset = false) {x : Sounding}
    (hx : (s.aligns[i]).instant ((s.shows[i]).elapse us).psp ((s.shows[i]).elapse us).settings.rate.spf (s.intakes[i]).ring = x) :
    ∃ u, exec (.outputInstant i us) s = .next u ∧
      u = { s with
        shows := upd s.shows i (·.elapse us)
        intakes := upd s.intakes i fun k =>
          if x.ring.length < k.ring.length ∧ k.holding = true ∧ x.ring.length ≤ k.settings.low then
            { k with ring := x.ring, returnLine := k.returnLine ++ [.resume], holding := false, holdTimer := none
                     counts := { k.counts with resumes := inc16 k.counts.resumes } }
          else { k with ring := x.ring }
        aligns := upd s.aligns i fun _ => x.align
        orders := u.orders, calls := u.calls, reader := u.reader, ports := (s.postIf x.resync .soundResync (.screen i)).ports } ∧
      ((s.calls[i]).slot = none → (s.calls[i]).duckState = .up → (u.calls[i]).audioOut = x.out) := by
  have hflow : Intake.afterInstant x.ring = _ := funext (Intake.afterInstant_eq x.ring)
  rw [← hflow]
  exact exec_instant hr hx

/-- Settles O36: each case is one branch of `Align.instant`. -/
theorem playingInstants : Obligations.PlayingInstants := by
  unfold Obligations.PlayingInstants
  intro i us b next rest s hr w r a playing slipOf near flow plays sample on dropped repeated
  have start {c : Block} : slipAt w.psp c.asp a.dSamples = slipOf c 0 := slipAt_eq w.psp c.asp 0 a.dSamples
  have played {out : Pair} {ring left : List Block} {x : Align} (hring : (s.intakes[i]).ring = ring)
      (h : a.instant w.psp r.spf ring = { out := out, ring := left, align := x, resync := false }) : plays out left x :=
    gives_of_instant (x := { out := out, ring := left, align := x, resync := false }) hr (by rw [hring]; exact h)
  refine ⟨fun hring h0 h239 hm => ⟨fun h => ?_, fun hc h119 => ?_, fun hh h119 ht => ?_, fun hh h119 ht => ?_⟩, fun hring h239 =>
    ⟨fun hl => ?_, fun hh ht => ?_, fun hh ht => ?_⟩, fun hring h239 hc hnear => ?_, fun hring h0 hnear => ⟨fun hm => ?_, fun hw hdue => ?_⟩,
    fun hring hw h0 h239 hdue hlate => ?_, fun hring hw h239 hdue hlate => ?_⟩
  · refine played hring ((instant_within hm h0).trans ((withinBlock_plain hm ?_).trans (emitNext_inside h239)))
    exact h.imp id fun h => ⟨h, Nat.ne_of_lt h239⟩
  · have hmode : AlignMode.catchUp = a.mode := hc.symm
    refine played hring ((instant_within hm h0).trans ((withinBlock_drop hc h119).trans ?_))
    refine (emitNext_inside (a := a.countDrop.moveTo 120) (by exact (by decide : 120 < 239))).trans ?_
    simp only [on, hmode]
    rfl
  · refine played hring ((instant_within hm h0).trans ((withinBlock_repeat hh (.inl h119) ht).trans ?_))
    rw [h119]
    rfl
  · have hmode : AlignMode.holdBack = a.mode := hh.symm
    refine played hring ((instant_within hm h0).trans ((withinBlock_repeated hh (.inl h119) ht).trans ?_))
    refine (emitNext_inside (a := a.count fun c => { c with repeated := inc32 c.repeated }) h239).trans ?_
    simp only [on, hmode, Align.count, h119]
    rfl
  · have hmode : AlignMode.locked = a.mode := hl.symm
    refine played hring ((instant_within (.inl hl) (by omega)).trans ((withinBlock_plain (.inl hl) (.inl hl)).trans ?_))
    refine (emitNext_last h239).trans ?_
    simp only [on, hmode]
    rfl
  · refine played hring ((instant_within (.inr (.inr hh)) (by omega)).trans ((withinBlock_repeat hh (.inr h239) ht).trans ?_))
    rw [h239]
    rfl
  · have hmode : AlignMode.holdBack = a.mode := hh.symm
    refine played hring ((instant_within (.inr (.inr hh)) (by omega)).trans ((withinBlock_repeated hh (.inr h239) ht).trans ?_))
    refine (emitNext_last (a := a.count fun c => { c with repeated := inc32 c.repeated }) h239).trans ?_
    simp only [on, hmode]
    rfl
  · refine played hring ((instant_within (.inr (.inl hc)) (by omega)).trans ((withinBlock_dropLast hc h239).trans ?_))
    exact (blockStart_near (a := a.countDrop) start hnear.1 hnear.2).trans rfl
  · exact played hring ((instant_start hm h0).trans ((blockStart_near start hnear.1 hnear.2).trans rfl))
  · refine played hring ((instant_waiting hw _).trans ((waitingInstant_due (slip := slipOf b 0) ?_ hdue hnear.2).trans ?_))
    · rw [h0]
      exact start
    · exact (if_pos h0).trans ((blockStart_near start hnear.1 hnear.2).trans rfl)
  · refine played hring ((instant_waiting hw _).trans ((waitingInstant_due (slipAt_eq _ _ _ _) hdue hlate).trans ?_))
    exact (if_neg h0).trans ((emitNext_inside (a := { a with mode := .locked }) h239).trans rfl)
  · refine played hring ((instant_waiting hw _).trans ((waitingInstant_due (slip := slipOf b 239) ?_ hdue hlate).trans ?_))
    · rw [h239]
      exact slipAt_eq _ _ _ _
    · exact (if_neg (by omega)).trans ((emitNext_last (a := { a with mode := .locked }) h239).trans rfl)

/-! ### Resyncs and underruns (R119 to R121) -/

/-- The counts of a late resync that discards `n` blocks. -/
def AlignCounts.late (n : Nat) (c : AlignCounts) : AlignCounts :=
  { c with lateResyncs := inc16 c.lateResyncs, discarded := satAdd 65535 c.discarded n }

/-- The blocks wholly before the target are discarded. -/
theorem dropBefore_eq {t : Nat} {before left : List Block} (hb : ∀ b ∈ before, b.asp + 239 < t) (hl : ∀ b ∈ left.head?, t ≤ b.asp + 239) :
    ((before ++ left).dropWhile fun b => b.asp + 239 < t) = left := by
  rw [List.dropWhile_append_of_pos fun b hmem => decide_eq_true (hb b hmem)]
  cases left with
  | nil => rfl
  | cons b rest => exact List.dropWhile_cons_of_neg (by simpa using hl b rfl)

section Resyncs

variable {psp : Nat} {before rest : List Block} {b : Block} {a : Align} (hb : ∀ c ∈ before, c.asp + 239 < psp - a.dSamples)

include hb

/-- No block is left for the target. -/
theorem resyncLate_none : resyncLate psp (before ++ []) a = waitAt 0 [] (a.count (.late before.length)) true := by
  unfold resyncLate
  dsimp only
  rw [dropBefore_eq hb (fun _ h => by cases h), List.length_append, Nat.add_sub_cancel]
  rfl

theorem resyncLate_left (hl : psp - a.dSamples ≤ b.asp + 239) : resyncLate psp (before ++ b :: rest) a =
    if b.asp ≤ psp - a.dSamples then
      emitNext b rest { (a.count (.late before.length)).moveTo (psp - a.dSamples - b.asp) with mode := .locked, lastSlip := some 0 } true
    else waitAt 0 (b :: rest) (a.count (.late before.length)) true := by
  have hhead : ∀ c ∈ (b :: rest).head?, psp - a.dSamples ≤ c.asp + 239 := by
    intro c hc
    cases hc
    exact hl
  unfold resyncLate
  dsimp only
  rw [dropBefore_eq hb hhead, List.length_append, Nat.add_sub_cancel]
  rfl

end Resyncs

/-- Settles O37. -/
theorem resyncsAndUnderruns : Obligations.ResyncsAndUnderruns := by
  unfold Obligations.ResyncsAndUnderruns
  intro i us s hr w r a playing drops ring point counted slipOf target flow gives waits
  have given {posts : Bool} {out : Pair} {left : List Block} {x : Align}
      (h : a.instant w.psp r.spf (s.intakes[i]).ring = { out := out, ring := left, align := x, resync := posts }) :
      gives posts out left x :=
    gives_of_instant (x := { out := out, ring := left, align := x, resync := posts }) hr h
  have hkept : counted.lateResyncs = a.counts.lateResyncs ∧ counted.discarded = a.counts.discarded ∧
      counted.earlyResyncs = a.counts.earlyResyncs ∧ counted.underruns = a.counts.underruns := by
    simp only [counted]
    split <;> exact ⟨rfl, rfl, rfl, rfl⟩
  have hempty (hring : ring = []) (hm : playing) : a.instant w.psp r.spf (s.intakes[i]).ring = underrun { a with counts := counted } := by
    by_cases hd : drops
    · simp only [ring, counted, if_pos hd] at hring ⊢
      obtain ⟨hc, hp, hne⟩ := hd
      obtain ⟨b, tl, hb⟩ := List.exists_cons_of_ne_nil hne
      rw [hb, List.tail_cons] at hring
      rw [hb, hring, instant_within (.inr (.inl hc)) (by omega), withinBlock_dropLast_nil hc hp]
      rfl
    · simp only [ring, counted, if_neg hd] at hring ⊢
      rw [hring, instant_empty hm]
  have hstart {b : Block} {rest : List Block} (hring : ring = b :: rest) (hm : playing) (h0 : point = 0) :
      a.instant w.psp r.spf (s.intakes[i]).ring = blockStart a.mode w.psp r.spf b rest { a with counts := counted } := by
    by_cases hd : drops
    · simp only [ring, counted, if_pos hd] at hring ⊢
      obtain ⟨hc, hp, hne⟩ := hd
      obtain ⟨c, tl, hb⟩ := List.exists_cons_of_ne_nil hne
      rw [hb, List.tail_cons] at hring
      rw [hb, hring, instant_within (.inr (.inl hc)) (by omega), withinBlock_dropLast hc hp, hc]
      rfl
    · simp only [ring, counted, point, if_neg hd] at hring h0 ⊢
      rw [hring, instant_start hm h0]
  have hwait {b : Block} {rest : List Block} (hring : ring = b :: rest) (hm : a.mode = .waiting) :
      a.instant w.psp r.spf (s.intakes[i]).ring = waitingInstant w.psp r.spf (b :: rest) { a with counts := counted } ∧
        point = a.readPoint := by
    have hd : ¬drops := fun hd => by
      have := hm.symm.trans hd.1
      contradiction
    simp only [ring, counted, point, if_neg hd] at hring ⊢
    exact ⟨by rw [hring, instant_waiting hm], trivial⟩
  clear_value ring point counted
  refine ⟨?_, fun b rest hring hm h0 hearly => ?_, fun hring hm => ?_⟩
  · intro before left hsplit hb hl ⟨b, hbr, hlate, hcase⟩ slip counts
    have hlist : ∃ rest, ring = b :: rest := by
      cases ring with
      | nil => contradiction
      | cons c rest => exact ⟨rest, congrArg (· :: rest) (Option.some.inj hbr)⟩
    obtain ⟨tl, hring⟩ := hlist
    have hcounts : counts = counted.late before.length := by
      simp only [counts, AlignCounts.late, hkept, satAdd]
    have hresync : ∃ m k t, a.instant w.psp r.spf (s.intakes[i]).ring = resyncLate w.psp (before ++ left)
        { a with counts := counted, mode := m, lastSlip := slip, readPoint := k, repeatTaken := t } := by
      rw [← hsplit, hring]
      obtain ⟨hm, h0⟩ | hm := hcase
      · have hslip : slip = some (slipOf b) := by
          simp only [slip, if_pos hm, hring]
          rfl
        refine ⟨a.mode, 0, false, ?_⟩
        rw [hstart hring hm h0, hslip]
        refine (blockStart_late (slip := slipOf b) ?_ hlate).trans rfl
        simp only [slipOf, h0]
        exact slipAt_eq _ _ 0 _
      · have hslip : slip = a.lastSlip := if_neg (by rintro (h | h | h) <;> rw [hm] at h <;> contradiction)
        obtain ⟨hinstant, hpoint⟩ := hwait hring hm
        refine ⟨a.mode, a.readPoint, a.repeatTaken, ?_⟩
        rw [hinstant, hslip]
        refine (waitingInstant_late (slip := slipOf b) ?_ hlate)
        simp only [slipOf, hpoint]
        exact slipAt_eq _ _ _ _
    clear_value counts
    obtain ⟨m, k, t, hinstant⟩ := hresync
    subst hcounts
    refine ⟨fun hleft => ?_, fun c rest hleft hbeyond => ?_, fun c rest hleft hle hin => ?_, fun c rest hleft hlast => ?_⟩ <;>
      subst hleft
    · exact given (hinstant.trans ((resyncLate_none (by exact hb)).trans rfl))
    · exact given (hinstant.trans ((resyncLate_left (by exact hb) (by exact hl c rfl)).trans ((if_neg (Nat.not_le.mpr hbeyond)).trans rfl)))
    · refine given (hinstant.trans ((resyncLate_left (by exact hb) (by exact hl c rfl)).trans ((if_pos hle).trans ((emitNext_inside ?_).trans rfl))))
      exact (by omega : target - c.asp < 239)
    · have hle : c.asp ≤ target := by omega
      refine given (hinstant.trans ((resyncLate_left (by exact hb) (by exact hl c rfl)).trans ((if_pos hle).trans ((emitNext_last ?_).trans rfl))))
      exact (by omega : target - c.asp = 239)
  · refine given ((hstart hring hm h0).trans ((blockStart_early (slip := slipOf b) ?_ hearly).trans ?_))
    · simp only [slipOf, h0]
      exact slipAt_eq _ _ 0 _
    · simp only [resyncEarly, waitAt, Align.moveTo, Align.count, hkept]
      rfl
  · refine given ((hempty hring hm).trans ?_)
    simp only [underrun, waitAt, Align.moveTo, Align.count, hkept]
    rfl

end Sys2Proof.Machine

/-! The queries' answers, field by field (O53, O54). -/

namespace Sys2Proof.Machine

/-! ### Named values and optional fields on the wire (R195) -/

/-- A pair of names of which the true one comes first: OPEN and CLOSED, ON and OFF, LIT and DARK, ENABLED and DISABLED, ANSWERED and
UNANSWERED. -/
theorem enumByte_true_false (b : Bool) : enumByte [true, false] b = u8 (if b = true then 0 else 1) := by cases b <;> rfl

/-- A pair of names of which the false one comes first: OFF and ON, FLOWING and HOLDING, STEREO and MONO. -/
theorem enumByte_false_true (b : Bool) : enumByte [false, true] b = flagByte b := by cases b <;> rfl

theorem optNat_eq (f : Nat → List Byte) (x : Option Nat) : optBytes f x = match x with | some n => u8 1 ++ f n | none => u8 0 := by
  cases x <;> rfl

theorem optList_eq (x : Option (List Byte)) : optBytes (fun b => b) x = match x with | some b => u8 1 ++ b | none => u8 0 := by
  cases x <;> rfl

/-! ### The queries of a screen (R68, R78, R105, R125) -/

theorem Rate.fps_eq (r : Rate) : r.fps = match r with | .fps24 => 24 | .fps25 => 25 | .fps30 => 30 := by cases r <;> rfl

theorem referenceByte_eq (r : Reference) : enumByte referenceNames r = u8 (if r = .valid then 0 else 1) := by cases r <;> rfl

theorem Cue.bytes_eq (c : Cue) : c.bytes =
    u8 c.id ++ u16 c.pos.second ++ u8 c.pos.frame ++
      enumByte ([.always, .ifA, .ifNotA, .ifB, .ifNotB, .ifBoth, .ifEither, .ifNeither] : List Guard) c.guard ++ c.action.byte ++
      (match c.action.argument with | some bytes => u8 1 ++ bytes | none => u8 0) ++
      enumByte ([.notReached, .executed, .skipped, .passedOver] : List CueOutcome) c.outcome := by
  unfold Cue.bytes posBytes
  rw [optList_eq, ← List.append_assoc]
  rfl

theorem holdReasonBytes_eq (x : Option HoldReason) : optBytes (enumByte holdReasonNames) x =
    match x with | some reason => u8 1 ++ enumByte [.cue, .request, .sound] reason | none => u8 0 := by cases x <;> rfl

theorem optSlip_eq (x : Option Int) : optBytes i32 x = match x with | some slip => u8 1 ++ i32 slip | none => u8 0 := by cases x <;> rfl

theorem inShow_iff (x : ScreenState) : x.inShow = true ↔ x = .running ∨ x = .held ∨ x = .lost := by cases x <;> simp [ScreenState.inShow]

/-- Settles O53: each query answers its fields and changes its port alone. -/
theorem screenQueries : Obligations.ScreenQueries := by
  unfold Obligations.ScreenQueries
  intro p tag i s
  have hscreen : indexArg 4 (u8 i.val) = some i := indexArg_u8 i (by omega)
  refine ⟨fun ha => ?_, fun first ha => ?_, fun ha => ?_, fun ha => ?_⟩
  · refine replied_bytes (serve_ranged ha rolesAll_of_contains rfl hscreen) ?_
    simp only [Show.bytes, holdReasonBytes_eq, posBytes, Rate.fps_eq, referenceByte_eq, offOn, enumByte_false_true,
      List.append_assoc]
    rfl
  · refine replied_bytes (serve_ranged ha rolesAll_of_contains rfl (cueQueryArgs_payload i (by omega))) ?_
    simp only [CueUnit.bytes, listBytes, funext Cue.bytes_eq, onOff, funext enumByte_true_false, toList_flatMap, finRange_four,
      List.length_take, List.length_drop, List.append_assoc]
    rfl
  · refine replied_bytes (serve_ranged ha rolesAll_of_contains rfl hscreen) ?_
    simp only [Intake.bytes, IntakeCounts.bytes, optNat_eq, openClosed, flowNames, enumByte_true_false,
      enumByte_false_true, List.append_assoc]
    rfl
  · refine replied_bytes (serve_ranged ha rolesAll_of_contains rfl hscreen) ?_
    simp only [State.alignBytes, AlignCounts.bytes, optNat_eq, optSlip_eq, Show.psp?, nextPosition, Show.psp_eq, inShow_iff,
      List.append_assoc]
    rfl

/-! ### The queries of the other blocks (R143, R141, R155, R174, R178, R194) -/

theorem CallEntry.bytes_eq (e : CallEntry) : e.bytes = match e with
    | .orderCall n => u8 0 ++ u16 n
    | .announce clips => u8 1 ++ u8 clips.length ++ clips.flatMap u8 := by
  cases e <;> rfl

theorem optPlaying_eq (x : Option Playing) : optBytes Playing.bytes x = match x with
    | some q => u8 1 ++ q.entry.bytes ++ u8 q.sequence.length ++ q.sequence.flatMap (fun x => u8 x.id) ++ u32 q.placeSamples
    | none => u8 0 := by
  cases x with
  | none => rfl
  | some q => simp only [optBytes, Playing.bytes, listBytes, List.append_assoc]

theorem optMix_eq (x : Option MixSettings) :
    optBytes MixSettings.bytes x = match x with | some m => u8 1 ++ (u16 m.duck ++ u16 m.level) | none => u8 0 := by cases x <;> rfl

theorem DuckState.byte_eq (d : DuckState) :
    d.byte = u8 (match d with | .up => 0 | .rampDown _ => 1 | .ducked => 2 | .rampUp _ _ => 3) := by cases d <;> rfl

theorem optClip_eq (x : Option Clip) :
    optBytes Clip.bytes x = match x with | some clip => u8 1 ++ u24 clip.start ++ u24 clip.length | none => u8 0 := by
  cases x with
  | none => rfl
  | some clip => simp only [optBytes, Clip.bytes, List.append_assoc]

theorem linkStateByte_eq (x : LinkState) : enumByte linkStateNames x = u8 (match x with | .down => 0 | .up => 1 | .lost => 2) := by
  cases x <;> rfl

theorem optLatest_eq (x : Option (Byte × Bool)) :
    optBytes latestBytes x = match x with | some (n, mark) => u8 1 ++ [n] ++ u8 (if mark then 0 else 1) | none => u8 0 := by
  rcases x with _ | ⟨n, mark⟩
  · rfl
  · cases mark <;> rfl

theorem optStatus_eq (x : Option ExciterStatus) :
    optBytes ExciterStatus.bytes x = match x with | some t => u8 1 ++ flagByte t.carrier ++ flagByte t.fault | none => u8 0 := by
  cases x with
  | none => rfl
  | some t => simp only [optBytes, ExciterStatus.bytes, List.append_assoc]

theorem pickupByte_eq (x : Pickup) : enumByte pickupNames x = u8 (match x with | .now => 0 | .atBreak => 1) := by cases x <;> rfl

theorem OrderState.byte_eq (x : OrderState) :
    x.byte = u8 (match x with | .held _ => 0 | .queued => 1 | .cooking => 2 | .ready _ => 3) := by cases x <;> rfl

theorem readyAtBytes_eq (o : Order) :
    optBytes u16 o.readyAt? = match o.state with | .ready at_ => u8 1 ++ u16 at_ | _ => u8 0 := by
  unfold Order.readyAt?
  cases o.state <;> rfl

theorem pendingBytes_eq (o : Order) :
    optBytes flagByte o.pending? = match o.state with | .held pending => u8 1 ++ flagByte pending | _ => u8 0 := by
  unfold Order.pending?
  cases o.state <;> rfl

theorem placeBytes_eq (o : Order) (u : OrderUnit) : optBytes u8 (u.placeOf? o) = match o.state with
    | .held _ => u8 1 ++ u8 (((u.table.filter fun r => r.isHeld && r.screen == o.screen).map (·.number)).idxOf o.number)
    | .queued => u8 1 ++ u8 (u.kitchen.idxOf o.number)
    | .cooking => u8 0
    | .ready _ => u8 1 ++ u8 (u.shelf.idxOf o.number) := by
  unfold OrderUnit.placeOf?
  cases o.state <;> rfl

theorem blinkByte_eq (x : Blink) : enumByte blinkNames x = u8 (match x with | .steady => 0 | .slow => 1 | .fast => 2) := by cases x <;> rfl

theorem Lamp.bytes_eq (l : Lamp) : l.bytes =
    l.source.byte ++ (match l.source.indexBytes with | some bytes => u8 1 ++ bytes | none => u8 0) ++ flagByte l.invert ++
      u8 (match l.blink with | .steady => 0 | .slow => 1 | .fast => 2) := by
  rw [Lamp.bytes, optList_eq, blinkByte_eq, offOn, enumByte_false_true]

theorem State.lampBytes_eq (s : State) (j : Fin 12) : s.lampBytes j =
    (s.lamps[j]).source.byte ++ (match (s.lamps[j]).source.indexBytes with | some bytes => u8 1 ++ bytes | none => u8 0) ++
      flagByte (s.lamps[j]).invert ++ u8 (match (s.lamps[j]).blink with | .steady => 0 | .slow => 1 | .fast => 2) ++
      flagByte (s.sourceValue (s.lamps[j]).source) ++ u8 (if s.lampLit j then 0 else 1) := by
  rw [State.lampBytes, Lamp.bytes_eq, litDark, enumByte_true_false]

theorem Order.isCooking_eq (o : Order) : o.isCooking = (o.state == .cooking) := by
  unfold Order.isCooking
  cases o.state <;> rfl

theorem Order.isPending_eq (o : Order) : o.isPending = (o.state == .held true) := by
  unfold Order.isPending
  cases o.state with
  | held b => cases b <;> rfl
  | _ => rfl

theorem State.screenOrderBytes_eq (s : State) (j : ScreenId) : s.screenOrderBytes j =
    u16 (s.orders.table.filter fun o => o.isHeld && o.screen == j).length ++
      u16 ((s.orders.table.filter fun o => o.isHeld && o.screen == j).countP fun o => o.state == .held true) ++
      flagByte s.orders.released[j] ++ u8 (if (s.calls[j]).orderWindow then 0 else 1) := by
  rw [State.screenOrderBytes, funext Order.isPending_eq, openClosed, enumByte_true_false]
  rfl

theorem phaseByte_eq {q : Port} (h : q.held = none) :
    enumByte phaseNames q.phase = u8 (match q.parser with | .hunt => 0 | .length => 1 | .body _ _ => 2) := by
  unfold Port.phase
  rw [h]
  cases q.parser <;> rfl

theorem taken_port_self (p : PortId) (s : State) : (s.taken p).ports[p] = (s.ports[p]).afterTake := upd_get_self _ _ _

theorem taken_port_ne {p n : PortId} (h : n ≠ p) (s : State) : (s.taken p).ports[n] = s.ports[n] := upd_get_ne _ _ _ _ h.symm

theorem taken_outstanding (p n : PortId) (s : State) :
    ((s.taken p).ports[n]).outstanding = if n = p then true else ((s.taken p).ports[n]).outstanding := by
  split
  · next h =>
    subst h
    rw [taken_port_self]
    rfl
  · rfl

/-- Taking a request moves no lamp source. -/
theorem taken_sourceValue (p : PortId) (src : LampSource) (s : State) : (s.taken p).sourceValue src = s.sourceValue src := by
  cases src with
  | attention n =>
    by_cases h : n = p
    · subst h
      exact (congrArg Port.attention (taken_port_self n s)).trans rfl
    · exact congrArg Port.attention (taken_port_ne h s)
  | _ => rfl

theorem taken_lampLit (p : PortId) (j : Fin 12) (s : State) : (s.taken p).lampLit j = s.lampLit j := by
  unfold State.lampLit State.lampCondition
  dsimp only
  rw [taken_sourceValue]
  rfl

/-- Settles O54: each query answers its fields and changes its port alone. -/
theorem otherQueries : Obligations.OtherQueries := by
  unfold Obligations.OtherQueries
  intro p tag i s
  have hscreen : indexArg 4 (u8 i.val) = some i := indexArg_u8 i (by omega)
  refine ⟨fun ha => ?_, fun ha => ?_, fun ha => ?_, fun o n h1 h2 ho ha => ?_, fun n h1 h2 hn ha => ?_, fun ha => ?_, fun ha => ?_, ?_⟩
  · refine replied_bytes (serve_ranged ha rolesAll_of_contains rfl hscreen) ?_
    simp only [CallUnit.bytes, listBytes, optPlaying_eq, optMix_eq, DuckState.byte_eq, openClosed, enumByte_true_false,
      funext CallEntry.bytes_eq, MixSettings.bytes, List.append_assoc]
    rfl
  · refine replied_bytes (serve_handled ha rolesAll_of_contains rfl) ?_
    rw [funext optClip_eq]
    rfl
  · refine replied_bytes (serve_ranged ha rolesAll_of_contains rfl hscreen) ?_
    simp only [Link.bytes, ExciterSettings.bytes, LinkCounts.bytes, linkStateByte_eq, optLatest_eq, optStatus_eq, offOn,
      stereoMono, enumByte_false_true, List.append_assoc]
    rfl
  · have hnumber : o.number = n := order?_number ho
    refine serve_ok (t := s.taken p) ha rolesAll_of_contains rfl (orderArg_u16 ⟨h1, h2⟩) ?_
    have ho' : (s.taken p).order? n = some o := ho
    rw [State.orderQueryBody, ho']
    simp only [OrderUnit.orderBytes, pickupByte_eq, OrderState.byte_eq, readyAtBytes_eq, optNat_eq u16 o.lastCallEnd, pendingBytes_eq, placeBytes_eq, hnumber,
      List.append_assoc]
    rfl
  · refine serve_refused ha rolesAll_of_contains rfl (orderArg_u16 ⟨h1, h2⟩) ?_
    have hn' : (s.taken p).order? n = none := hn
    rw [State.orderQueryBody, hn']
  · refine replied_bytes (serve_handled ha rolesAll_of_contains rfl) ?_
    simp only [funext (State.screenOrderBytes_eq _), funext Order.isCooking_eq, listBytes, KitchenSettings.bytes, OrderTotals.bytes,
      List.append_assoc]
    rfl
  · refine replied_bytes (serve_handled ha rolesAll_of_contains rfl) ?_
    simp only [funext (State.lampBytes_eq _), taken_sourceValue, taken_lampLit]
    rfl
  · intro n q hheld ha
    refine replied_bytes (serve_ranged ha rolesAll_of_contains rfl (indexArg_u8 n (by omega))) ?_
    have hphase : enumByte phaseNames ((s.taken p).ports[n]).phase = _ := phaseByte_eq hheld
    simp only [Port.bytes, PortCounts.bytes, hphase, List.append_assoc]
    conv_lhs => rw [taken_outstanding]
    rfl

end Sys2Proof.Machine

/-! The clip directory and the requests of the Call Unit that set it up (O39, O40). -/

namespace Sys2Proof.Machine

/-! ### The directory header (R127, R200, R201) -/

/-- Seven bytes taken one by one. -/
theorem take_seven {l : List Byte} {n : Nat} (h : n + 7 ≤ l.length) : (l.drop n).take 7 =
    [(l[n + 0]?).getD 0#8, (l[n + 1]?).getD 0#8, (l[n + 2]?).getD 0#8, (l[n + 3]?).getD 0#8, (l[n + 4]?).getD 0#8, (l[n + 5]?).getD 0#8,
      (l[n + 6]?).getD 0#8] := by
  simp only [← List.getElem?_drop]
  have hlen : 7 ≤ (l.drop n).length := by rw [List.length_drop]; omega
  match l.drop n, hlen with
  | _ :: _ :: _ :: _ :: _ :: _ :: _ :: _, _ => rfl

theorem clipEntry_eq {header : List Byte} {id : Nat} (h : 3 + 7 * id + 7 ≤ header.length) :
    clipEntry ((header.drop (3 + 7 * id)).take 7) = headerEntry header id := by
  have hone (x : Byte) : x = 1#8 ↔ x.toNat = 1 := by rw [← BitVec.toNat_inj]; rfl
  have hword (a b c : Byte) : word24 a b c = a.toNat * 65536 + b.toNat * 256 + c.toNat := by unfold word24; omega
  rw [take_seven h]
  simp only [clipEntry, headerEntry, hword, hone]

/-- The entries of a header that is valid. -/
theorem readHeader_eq (header : List Byte) : readHeader header =
    if header.length = 229 ∧ header.take 3 = [0x57#8, 0xDC#8, 1#8] ∧ header.drop 227 = checkBytes (header.take 227) then
      some (Vector.ofFn fun k => headerEntry header k.val)
    else none := by
  by_cases hlen : header.length = 229
  · have hentries : (Vector.ofFn fun k : Fin 32 => clipEntry ((header.drop (3 + 7 * k.val)).take 7)) =
        Vector.ofFn fun k : Fin 32 => headerEntry header k.val :=
      congrArg Vector.ofFn (funext fun k => clipEntry_eq (by omega))
    have hdrop : (header.drop 227).length = 2 := by rw [List.length_drop]; omega
    unfold readHeader
    match header.drop 227, hdrop with
    | [hi, lo], _ =>
      dsimp only
      rw [hentries]
      refine if_congr ?_ rfl rfl
      rw [checkAgrees, beq_iff_eq, eq_comm (a := checkBytes _)]
      exact ⟨fun h => ⟨hlen, h⟩, And.right⟩
  · rw [if_neg fun h => hlen h.1]
    unfold readHeader
    split
    · next hi lo hdrop =>
      have hshort := congrArg List.length hdrop
      rw [List.length_drop] at hshort
      have htwo : [hi, lo].length = 2 := rfl
      omega
    · rfl

theorem Directory.complete_eq (header : List Byte) (d : Directory) :
    let valid := header.length = 229 ∧ header.take 3 = [0x57#8, 0xDC#8, 1#8] ∧ header.drop 227 = checkBytes (header.take 227)
    d.complete header = { d with
      entries := Vector.ofFn fun k => if valid then headerEntry header k.val else none, valid := decide valid, reading := false } := by
  intro valid
  have hread := readHeader_eq header
  unfold Directory.complete
  by_cases hv : valid
  · rw [if_pos hv] at hread
    simp only [hread, if_pos hv, decide_eq_true hv]
  · rw [if_neg hv] at hread
    simp only [hread, if_neg hv, decide_eq_false hv]
    rfl

/-! ### CLIP_RESCAN (R128) -/

theorem State.clipBusy_iff (s : State) : s.clipBusy = true ↔ s.dir.reading = true ∨ ∃ j : ScreenId, (s.calls[j]).slot ≠ none := by
  simp only [State.clipBusy, Bool.or_eq_true, toList_eq_finRange, List.any_map, List.any_eq_true, List.mem_finRange, true_and,
    Function.comp_apply, Option.isSome_iff_ne_none]

/-- Settles O39. -/
theorem clipRescan : Obligations.ClipRescan := by
  unfold Obligations.ClipRescan
  intro p tag header s busy valid entries
  have hbusy : (s.taken p).clipBusy = true ↔ busy := State.clipBusy_iff (s.taken p)
  refine ⟨fun ha => ⟨fun hb => ?_, fun hb => ?_⟩, fun hrescan => ?_⟩
  · refine (serve_handled ha rolesB_of_contains rfl).trans ?_
    rw [State.clipRescanBody, if_pos (hbusy.mpr hb)]
    rfl
  · refine (serve_handled ha rolesB_of_contains rfl).trans ?_
    rw [State.clipRescanBody, if_neg fun h => hb (hbusy.mp h)]
    rfl
  · refine congrArg Host.Outcome.next (a₁ := s.rescanDone header) ?_
    have hcomplete : s.dir.complete header = { s.dir with entries := entries, valid := decide valid, reading := false } :=
      Directory.complete_eq header s.dir
    have hflag : flagByte (decide valid) = u8 (if valid then 1 else 0) := by
      by_cases hv : valid
      · rw [decide_eq_true hv, if_pos hv]; rfl
      · rw [decide_eq_false hv, if_neg hv]; rfl
    unfold State.rescanDone
    rw [hrescan]
    dsimp only [State.modDir]
    rw [hcomplete, ← hflag]
    rfl

/-! ### ANNOUNCE, SET_CALLS and the windows (R129, R133, R139) -/

theorem clips_unknown {clips : List (Fin 32)} {d : Directory} :
    ((clips.map (·.val)).any fun id => (d.clip? id).isNone) = true ↔ ∃ k ∈ clips, d.entries[k] = none := by
  have hclip (k : Fin 32) : d.clip? k.val = d.entries[k] := dif_pos k.isLt
  simp only [List.any_map, List.any_eq_true, Function.comp_apply, hclip, Option.isNone_iff_eq_none]

/-- Settles O40. -/
theorem announcementsAndWindows : Obligations.AnnouncementsAndWindows := by
  unfold Obligations.AnnouncementsAndWindows
  intro p tag i clips m s c ids payload settings set
  have hscreen : indexArg 4 (u8 i.val) = some i := indexArg_u8 i (by omega)
  refine ⟨fun ha h1 h8 => ?_, fun ha hd hl => ?_, fun ha => ?_, fun ha => ?_, fun ha => ?_⟩
  · have hids : ids.length = clips.length := List.length_map _
    have hargs : announceArgs payload = some (i, ids) := by
      have hsmall : ∀ id ∈ ids, id < 32 := fun id hid => by
        obtain ⟨k, -, rfl⟩ := List.mem_map.mp hid
        exact k.isLt
      have h := announceArgs_payload i (ids := ids) (by omega) (by omega) hsmall
      rwa [hids] at h
    have hlength : announceLength payload = true := by
      have h := announceLength_payload i (ids := ids) (by omega)
      rwa [hids] at h
    refine ⟨fun hk => ?_, fun hk hfull => ?_, fun hk hroom => ?_⟩
    · exact serve_refused ha rolesB_of_contains hlength hargs (if_pos (clips_unknown.mpr hk))
    all_goals
      have hknown : ¬(ids.any fun id => ((s.taken p).dir.clip? id).isNone) = true := fun h => by
        obtain ⟨k, hmem, hnone⟩ := clips_unknown.mp h
        exact hk k hmem hnone
    · exact serve_refused ha rolesB_of_contains hlength hargs ((if_neg hknown).trans (if_pos hfull))
    · refine serve_ok ha rolesB_of_contains hlength hargs (((if_neg hknown).trans (if_neg (Nat.not_le.mpr hroom))).trans ?_)
      have hlast : (((s.taken p).modCalls i (·.join (.announce ids))).calls[i]).queue.length = c.queue.length + 1 := by
        rw [modCalls_get_self, CallUnit.join, List.length_append]
        rfl
      dsimp only
      rw [hlast]
      rfl
  · refine serve_ok (a := (i, m)) (t := (s.taken p).modCalls i set) ha rolesB_of_contains rfl ?_ ?_
    · exact (congrArg setCallsArgs (List.append_assoc _ _ _).symm).trans (setCallsArgs_payload i hd hl)
    · have hset : ((s.taken p).modCalls i set).calls[i] = set c := modCalls_get_self i set _
      have hbody : State.setCallsBody (i, m) (s.taken p) = ((s.taken p).modCalls i set,
          .ok ((((s.taken p).modCalls i set).calls[i]).settings.bytes ++
            optBytes MixSettings.bytes (((s.taken p).modCalls i set).calls[i]).heldBack)) := rfl
      rw [hbody, hset, optMix_eq]
      rfl
  · exact serve_ok ha rolesB_of_contains rfl hscreen rfl
  · exact serve_ok ha rolesBK_of_contains rfl hscreen rfl
  · exact serve_ok ha rolesBK_of_contains rfl hscreen rfl

end Sys2Proof.Machine

/-! Lamps and event flags (O48, O49). -/

namespace Sys2Proof.Machine

/-! ### Lamps (R175 to R177) -/

/-- Settles O48. -/
theorem lampsAndBlink : Obligations.LampsAndBlink := by
  unfold Obligations.LampsAndBlink
  intro p tag k l s payload settings value phase lit
  have hvalue : s.sourceValue l.source = value := by
    simp only [value]
    cases l.source with
    | zoneFull i => rfl
    | kitchenWork => exact decide_eq_decide.mpr Nat.pos_iff_ne_zero
    | _ => rfl
  have hphase : l.blink.shows s.blink = phase := by
    simp only [phase]
    cases l.blink with
    | steady => rfl
    | slow => cases s.blink <;> rfl
    | fast =>
      cases s.blink with
      | none => rfl
      | some e => revert e; decide
  have hlit {t : State} (hl : t.lamps[k] = l) (hs : t.sourceValue l.source = s.sourceValue l.source) (hb : t.blink = s.blink) :
      t.lampLit k = lit := by
    unfold State.lampLit State.lampCondition
    dsimp only
    rw [hl, hs, hb, hvalue, hphase]
  refine ⟨fun ha => ?_, fun hl => hlit hl rfl rfl, fun hb => ?_, fun e hb => ?_⟩
  · have hpayload : payload = u8 k.val ++ l.source.byte ++ u8 (if l.invert then 1 else 0) ++ enumByte blinkNames l.blink ++
        l.source.indexBytes.getD [] := by
      rw [blinkByte_eq]
      rfl
    refine serve_ok (a := (k, l)) (t := (s.taken p).modLamp k fun _ => l) ha rolesB_of_contains ?_ ?_ ?_
    · rw [hpayload]
      exact setLampLength_payload k l
    · rw [hpayload]
      exact setLampArgs_payload k l
    · have hlamp : ((s.taken p).modLamp k fun _ => l).lampLit k = lit := by
        refine hlit (upd_get_self _ _ _) ?_ rfl
        exact (by cases l.source <;> rfl : _ = (s.taken p).sourceValue l.source).trans (taken_sourceValue p _ s)
      have hbody : State.setLampBody (k, l) (s.taken p) = ((s.taken p).modLamp k fun _ => l,
          .ok (l.bytes ++ enumByte litDark (((s.taken p).modLamp k fun _ => l).lampLit k))) := rfl
      rw [hbody, hlamp, litDark, enumByte_true_false, Lamp.bytes_eq] <;> rfl
  · refine congrArg Host.Outcome.next (a₁ := { s with blink := s.blink.map (· + 1) }) ?_
    rw [hb]
    exact congrArg (fun x => { s with blink := x }) hb.symm
  · refine congrArg Host.Outcome.next (a₁ := { s with blink := s.blink.map (· + 1) }) ?_
    have hnext : ∀ e : Fin 8, e + 1 = if e.val = 7 then 0 else e + 1 := by decide
    rw [hb, Option.map_some, ← hnext e]

/-! ### Event flags (R179 to R184) -/

theorem Flag.clear_clear (f : Flag) : f.clear.clear = f.clear := by
  unfold Flag.clear
  by_cases h : f.state = .seen
  · rw [if_pos h, if_neg]
    decide
  · rw [if_neg h, if_neg h]

/-- Every named flag is cleared where SEEN, and no other flag changes. -/
theorem clearFold_get (kinds : List EventKind) (v : Vector Flag 21) (k : EventKind) :
    (kinds.foldl (fun v (k : EventKind) => upd v k.index Flag.clear) v)[k.index] = if k ∈ kinds then v[k.index].clear else v[k.index] := by
  induction kinds generalizing v with
  | nil => rfl
  | cons a rest ih =>
    rw [List.foldl_cons, ih]
    by_cases ha : a = k
    · subst ha
      rw [upd_get_self, Flag.clear_clear, if_pos List.mem_cons_self, ite_self]
    · rw [upd_get_ne _ _ _ _ fun h => ha (EventKind.index_inj h)]
      simp only [List.mem_cons, eq_comm (a := k), ha, false_or]

theorem Port.wantsAttention_eq (q : Port) :
    q.wantsAttention = eventKinds.any fun k => q.mask[k.cls] && decide ((q.flag k).state ≠ .clear) := by
  unfold Port.wantsAttention
  refine congrArg eventKinds.any (funext fun k => congrArg _ ?_)
  cases (q.flag k).state <;> rfl

theorem Port.highestByte_eq (q : Port) :
    q.highestByte = u8 (match eventKinds.find? fun k => (q.flag k).state = .pending with | some k => k.cls.val | none => 4) := by
  have hfind : (eventKinds.find? fun k => (q.flag k).state == .pending) = eventKinds.find? fun k => (q.flag k).state = .pending := rfl
  unfold Port.highestByte Port.highestPending
  rw [hfind]
  cases eventKinds.find? fun k => (q.flag k).state = .pending <;> rfl

theorem flagStateByte_eq (x : FlagState) : enumByte flagStateNames x = u8 (match x with | .clear => 0 | .pending => 1 | .seen => 2) := by
  cases x <;> rfl

theorem Port.noteBytes_eq (q : Port) (k : EventKind) : q.noteBytes k =
    u8 k.index.val ++ u8 (match (q.flag k).state with | .clear => 0 | .pending => 1 | .seen => 2) ++ u8 (q.flag k).count ++
      ((q.flag k).detail.map Detail.bytes).getD [] := by
  unfold Port.noteBytes
  dsimp only
  rw [flagStateByte_eq]

theorem Port.noted_eq (q : Port) : q.noted = eventKinds.filter fun k => (q.flag k).state ≠ .clear := by
  unfold Port.noted
  refine congrArg (eventKinds.filter ·) (funext fun k => ?_)
  cases (q.flag k).state <;> rfl

/-- Distinct kinds are at most the 21 that there are. -/
theorem kinds_length_le {kinds : List EventKind} (h : kinds.Nodup) : kinds.length ≤ 21 := by
  have hmap : (kinds.map EventKind.index).Nodup := h.map fun _ _ h => EventKind.index_inj h
  have hcard := hmap.length_le_card
  rwa [List.length_map, Fintype.card_fin] at hcard

theorem clearEventsLength_payload {kinds : List EventKind} (h : kinds.length < 256) :
    clearEventsLength (u8 kinds.length ++ kinds.flatMap fun k => u8 k.index.val) = true := by
  have hlen : (kinds.flatMap fun k => u8 k.index.val).length = kinds.length := by
    clear h
    induction kinds with
    | nil => rfl
    | cons a rest ih => rw [List.flatMap_cons, List.length_append, ih, List.length_cons, Nat.add_comm]; rfl
  have hcount : (BitVec.ofNat 8 kinds.length).toNat = kinds.length := by
    rw [BitVec.toNat_ofNat]
    exact Nat.mod_eq_of_lt h
  unfold u8
  rw [List.singleton_append, clearEventsLength, hcount]
  exact beq_iff_eq.mpr hlen

/-- A kind named twice. -/
theorem clearEventsArgs_twice {kinds : List EventKind} (h : ¬kinds.Nodup) :
    clearEventsArgs (u8 kinds.length ++ kinds.flatMap fun k => u8 k.index.val) = none := by
  have hm : (kinds.flatMap fun k => u8 k.index.val).mapM (named eventKinds) = some kinds := by
    clear h
    induction kinds with
    | nil => rfl
    | cons a rest ih =>
      rw [List.flatMap_cons, u8, List.singleton_append, List.mapM_cons, EventKind.index_named, ih]
      rfl
  unfold u8 at hm ⊢
  rw [List.singleton_append, clearEventsArgs, hm]
  exact if_neg h

/-- A kind beyond the 21. -/
theorem clearEventsArgs_beyond {b : Byte} (h : 21 ≤ b.toNat) : clearEventsArgs (u8 1 ++ [b]) = none := by
  have hb : named eventKinds b = none := by
    cases hn : named eventKinds b with
    | none => rfl
    | some k => exact absurd (named_lt hn) (Nat.not_lt.mpr h)
  unfold u8
  rw [List.singleton_append, clearEventsArgs, List.mapM_cons, hb]
  rfl

/-- Settles O49. -/
theorem eventRequests : Obligations.EventRequests := by
  unfold Obligations.EventRequests
  intro p tag kinds m s all q index listed set noted highest wants mask seen
  have hport : (s.taken p).ports[p] = q.afterTake := taken_port_self p s
  have hflag (k : EventKind) : q.afterTake.flag k = q.flag k := rfl
  refine ⟨fun ha => ?_, fun ha => ⟨fun hdup hlen => ?_, fun hnodup => ?_⟩, fun b hb ha => ?_, fun ha => ?_⟩
  · refine replied_bytes (s := (s.taken p).modPort p Port.readFlags) (serve_handled ha rolesAll_of_contains rfl) ?_
    rw [hport]
    simp only [Port.highestByte_eq, listBytes, Port.noted_eq, funext (Port.noteBytes_eq _), hflag, ← List.append_assoc]
    rfl
  · exact serve_range ha rolesAll_of_contains (clearEventsLength_payload hlen) (clearEventsArgs_twice hdup)
  · have hlen : kinds.length < 256 := Nat.lt_of_le_of_lt (kinds_length_le hnodup) (by decide)
    refine ⟨kinds.foldl (fun v (k : EventKind) => upd v k.index Flag.clear) q.flags, ?_, fun k => ?_⟩
    · refine serve_ok ha rolesAll_of_contains (clearEventsLength_payload hlen) (clearEventsArgs_payload hnodup) ?_
      unfold State.clearEventsBody
      dsimp only
      rw [hport]
      refine Prod.ext (modPort_congr ?_) rfl
      rw [hport]
      simp only [Port.clearFlags, Port.examine, Port.wantsAttention_eq]
      rfl
    · rw [clearFold_get]
      by_cases hk : k ∈ kinds
      · by_cases hs : (q.flag k).state = .seen
        · have hset : k ∈ set kinds := List.mem_filter.mpr ⟨hk, decide_eq_true hs⟩
          rw [if_pos hk, if_pos hset]
          exact if_pos hs
        · have hset : k ∉ set kinds := fun h => hs (of_decide_eq_true (List.mem_filter.mp h).2)
          rw [if_pos hk, if_neg hset]
          exact if_neg hs
      · have hset : k ∉ set kinds := fun h => hk (List.mem_filter.mp h).1
        rw [if_neg hk, if_neg hset]
        rfl
  · exact serve_range ha rolesAll_of_contains rfl (clearEventsArgs_beyond hb)
  · have hmask : mask = m.toList.flatMap fun enabled => u8 (if enabled then 0 else 1) := by
      rw [toList_flatMap, finRange_four]
    have hargs : setAttentionArgs mask = some m := by
      rw [hmask]
      exact setAttentionArgs_payload m
    have hstate : ((s.taken p).modPort p fun q => { q with mask := m }.examine) =
        (s.taken p).modPort p fun q => { q with mask := m, attention := wants { q with mask := m } } := by
      refine modPort_congr ?_
      simp only [Port.examine, Port.wantsAttention_eq]
      rfl
    refine serve_ok ha rolesAll_of_contains rfl hargs ?_
    have hbody : State.setAttentionBody p m (s.taken p) = (((s.taken p).modPort p fun q => { q with mask := m }.examine),
        .ok (m.toList.flatMap (enumByte enabledDisabled) ++
          flagByte (((s.taken p).modPort p fun q => { q with mask := m }.examine).ports[p]).attention)) := rfl
    have hattention : (((s.taken p).modPort p fun q => { q with mask := m, attention := wants { q with mask := m } }).ports[p]).attention =
        wants { q with mask := m } := by
      rw [State.modPort_ports, upd_get_self, hport]
      rfl
    rw [hbody, hstate, hattention, hmask, enabledDisabled, funext enumByte_true_false]

end Sys2Proof.Machine

/-! Bytes, lines and the parser of a station port, device reset and start-up (O50, O51, O52). -/

namespace Sys2Proof.Machine

/-! ### What arrives at and leaves a port (R187, R189, R193) -/

/-- A command that is an operation of one port, named by what it gives there. -/
theorem next_modPort {p : PortId} {f g : Port → Port} {s : State} (h : f s.ports[p] = g s.ports[p]) :
    (Host.Outcome.next (s.modPort p f) : Host.Outcome State Fault Refusal) = .next (s.modPort p g) :=
  congrArg Host.Outcome.next (modPort_congr h)

/-- A byte with its stop bit high. -/
theorem Port.receive_high (b : Byte) (q : Port) : q.receive b true =
    if 256 ≤ q.rxFill then { q with gapTimer := some 5, counts := { q.counts with overruns := inc16 q.counts.overruns } }
    else { q with gapTimer := some 5 }.placeByte b := rfl

/-- Settles O50. -/
theorem bytesAndLines : Obligations.BytesAndLines := by
  unfold Obligations.BytesAndLines
  intro p byte s q fill becomes marked
  refine ⟨rfl, fun hfull => ?_, fun hroom => ?_, fun ht hb => ?_, fun ht hb => ?_, fun hs => ?_, fun hs => ?_, ?_, ?_⟩
  · exact next_modPort (f := (·.receive byte true)) ((Port.receive_high byte q).trans (if_pos hfull))
  · refine next_modPort (f := (·.receive byte true)) (((Port.receive_high byte q).trans (if_neg (Nat.not_le.mpr hroom))).trans ?_)
    have hfill : (q.rx ++ [RxItem.byte byte]).countP RxItem.isByte = fill + 1 := by rw [List.countP_append]; rfl
    simp only [Port.placeByte, Port.rxFill]
    exact congrArg (fun n => { q with gapTimer := some 5, rx := q.rx ++ [RxItem.byte byte], lastBreak := false
                                      holdOut := q.holdOut || decide (192 ≤ n) }) hfill
  · refine next_modPort (f := Port.gapExpiry) ?_
    obtain ⟨t, ht⟩ := Option.ne_none_iff_exists'.mp ht
    unfold Port.gapExpiry
    rw [ht]
    exact if_neg (by rw [hb]; decide)
  · refine next_modPort (f := Port.gapExpiry) ?_
    obtain ⟨t, ht⟩ := Option.ne_none_iff_exists'.mp ht
    unfold Port.gapExpiry
    rw [ht]
    exact if_pos hb
  · exact next_modPort (f := Port.byteSent) (if_pos hs)
  · exact next_modPort (f := Port.byteSent) (if_neg (by rw [hs]; decide))
  · refine next_modPort (f := (·.setHoldIn true)) ?_
    exact congrArg (fun b => { q with holdIn := true, sending := b }) (Bool.or_false q.sending)
  · rfl

/-! ### The parser (R188, R190, R191) -/

theorem parserTake_byte {q : Port} {b : Byte} {rest : List RxItem} (hh : q.held = none) (hrx : q.rx = .byte b :: rest) :
    q.parserTake = ({ q with rx := rest }.releaseHoldOut).parseByte b := by
  unfold Port.parserTake
  rw [hh, hrx]

theorem parserTake_mark {q : Port} {rest : List RxItem} (hh : q.held = none) (hrx : q.rx = .mark :: rest) :
    q.parserTake = { q with rx := rest }.parseMark := by
  unfold Port.parserTake
  rw [hh, hrx]

theorem parseByte_hunt {q : Port} {b : Byte} (hp : q.parser = .hunt) : q.parseByte b =
    if b = startByte then { q with parser := .length } else q.count fun c => { c with hunted := inc16 c.hunted } := by
  unfold Port.parseByte
  rw [hp]

theorem parseByte_length {q : Port} {b : Byte} (hp : q.parser = .length) : q.parseByte b =
    if 2 ≤ b.toNat ∧ b.toNat ≤ 250 then { q with parser := .body b.toNat [] } else q.abandon := by
  unfold Port.parseByte
  rw [hp]

theorem parseByte_body {q : Port} {b : Byte} {len : Nat} {got : List Byte} (hp : q.parser = .body len got) : q.parseByte b =
    if len + 2 ≤ (got ++ [b]).length then q.completeFrame len (got ++ [b]) else { q with parser := .body len (got ++ [b]) } := by
  unfold Port.parseByte
  rw [hp]

/-- The last byte of a frame. -/
theorem completeFrame_eq {len : Nat} {code tag : Byte} {payload : List Byte} (h : payload.length + 2 = len) (hi b : Byte) (q : Port) :
    q.completeFrame len ((code :: tag :: payload ++ [hi]) ++ [b]) =
      if checkBytes (u8 len ++ code :: tag :: payload) = [hi, b] then { q with parser := .hunt, held := some ⟨code, tag, payload⟩ }
      else { q with parser := .hunt, counts := { q.counts with check := inc16 q.counts.check } } := by
  have hlist : (code :: tag :: payload ++ [hi]) ++ [b] = (code :: tag :: payload) ++ [hi, b] := by rw [List.append_assoc]; rfl
  have hlen : (code :: tag :: payload).length = len := h
  unfold Port.completeFrame
  rw [hlist, List.take_left' hlen, List.drop_left' hlen]
  exact if_congr beq_iff_eq rfl rfl

/-- Settles O51. -/
theorem parserTakes : Obligations.ParserTakes := by
  unfold Obligations.ParserTakes
  intro p b rest s
  refine ⟨fun hidle => ?_, ?_⟩
  · refine congrArg Host.Outcome.next (a₁ := if s.startup then s else s.modPort p Port.parserTake) ?_
    by_cases hs : s.startup = true
    · rw [if_pos hs]
    · have hkept : (s.ports[p]).parserTake = s.ports[p] := by
        obtain ⟨r, hr⟩ := Option.ne_none_iff_exists'.mp (hidle.resolve_left hs)
        unfold Port.parserTake
        rw [hr]
      rw [if_neg hs, modPort_congr (g := fun q => q) hkept, modPort_self]
  · intro hstart hheld q fill becomes taken abandoned
    have takes {f : Port → Port} (h : q.parserTake = f q) : becomes f := by
      refine congrArg Host.Outcome.next (a₁ := if s.startup then s else s.modPort p Port.parserTake) ?_
      rw [hstart, if_neg Bool.false_ne_true, modPort_congr h]
    refine ⟨fun hrx => ?_, fun hrx => ⟨fun hp => ?_, fun hp => ?_⟩, fun hrx hp => ⟨fun hb => ?_, fun hb => ?_⟩,
      fun hrx hp => ⟨fun hlo hhi => ?_, fun hout => ?_⟩, fun len got hrx hp hlo hhi => ⟨fun hmore => ?_, ?_⟩⟩
    · have hself : becomes fun q => q := takes (by unfold Port.parserTake; rw [hheld, hrx])
      exact hself.trans (congrArg Host.Outcome.next (modPort_self p s))
    · refine takes ((parserTake_mark hheld hrx).trans ?_)
      unfold Port.parseMark
      dsimp only
      rw [show (s.ports[p]).parser = .hunt from hp]
    · refine takes ((parserTake_mark hheld hrx).trans ?_)
      unfold Port.parseMark
      dsimp only
      cases hparser : (s.ports[p]).parser with
      | hunt => exact absurd hparser hp
      | length => rfl
      | body _ _ => rfl
    · exact takes (((parserTake_byte hheld hrx).trans (parseByte_hunt hp)).trans (if_pos hb))
    · exact takes (((parserTake_byte hheld hrx).trans (parseByte_hunt hp)).trans (if_neg hb))
    · exact takes (((parserTake_byte hheld hrx).trans (parseByte_length hp)).trans (if_pos ⟨hlo, hhi⟩))
    · exact takes (((parserTake_byte hheld hrx).trans (parseByte_length hp)).trans (if_neg (by omega)))
    · refine takes (((parserTake_byte hheld hrx).trans (parseByte_body hp)).trans (if_neg ?_))
      rw [List.length_append, List.length_singleton]
      omega
    · intro code tag payload hi hgot hlen
      have hwhole : len + 2 ≤ (got ++ [b]).length := by
        rw [hgot, ← hlen]
        simp
      have hframe : q.parserTake = Port.completeFrame len (code :: tag :: payload ++ [hi] ++ [b]) ({ q with rx := rest }.releaseHoldOut) := by
        rw [← hgot]
        exact ((parserTake_byte hheld hrx).trans (parseByte_body hp)).trans (if_pos hwhole)
      exact ⟨fun hc => takes (hframe.trans ((completeFrame_eq hlen hi b _).trans (if_pos hc))),
        fun hc => takes (hframe.trans ((completeFrame_eq hlen hi b _).trans (if_neg hc)))⟩

/-! ### Device reset and start-up (R127, R149, R185, R190) -/

/-- An update at each of the four places. -/
theorem upd_four {α : Type} (v : Vector α 4) (f : Fin 4 → α → α) :
    upd (upd (upd (upd v 0 (f 0)) 1 (f 1)) 2 (f 2)) 3 (f 3) = Vector.ofFn fun i => f i v[i] := by
  ext j hj
  have hcases : j = 0 ∨ j = 1 ∨ j = 2 ∨ j = 3 := by omega
  obtain rfl | rfl | rfl | rfl := hcases <;> simp [upd]

theorem upd_three {α : Type} (v : Vector α 3) (f : Fin 3 → α → α) :
    upd (upd (upd v 0 (f 0)) 1 (f 1)) 2 (f 2) = Vector.ofFn fun i => f i v[i] := by
  ext j hj
  have hcases : j = 0 ∨ j = 1 ∨ j = 2 := by omega
  obtain rfl | rfl | rfl := hcases <;> simp [upd]

/-- Whether no message of the exciter is arriving. -/
def Collector.quiet : Collector → Bool
  | .collecting _ => false
  | .idle | .ignoring => true

/-- A link's first cycle: its send leaves at once, or waits while a message is arriving. -/
def Link.firstCycle (heard : List LineInput) (k : Link) : Link :=
  let collector := k.collector.hear heard
  { k with
    nextSend := 1, latest := some (0, false), refreshTimer := some 1000, counts := { k.counts with sends := 1 }, collector
    leaving := if collector.quiet then some (.settings 0 k.settings) else none
    waiting := if collector.quiet then [] else [.settings 0 k.settings] }

theorem firstCycle_eq {e : ResetEnd} {i : ScreenId} {s : State} {c : Collector} (h : s.links[i] = { Link.reset with collector := c }) :
    s.firstCycle e i = s.modLink i (Link.firstCycle e.heard[i]) := by
  have hheard : (s.modLink i (·.hear e.heard[i])).links[i] = { Link.reset with collector := c.hear e.heard[i] } := by
    rw [State.modLink_links, upd_get_self, h]
    rfl
  have hdown : ¬(((s.modLink i (·.hear e.heard[i])).links[i]).state = .up ∧ 4 ≤ ((s.modLink i (·.hear e.heard[i])).links[i]).unanswered) := by
    rw [hheard]
    intro hup
    have hstate : LinkState.down = .up := hup.1
    contradiction
  have hsend : { (({ Link.reset with collector := c }).hear e.heard[i]).makeSend with refreshTimer := some 1000 } =
      Link.firstCycle e.heard[i] { Link.reset with collector := c } := by
    unfold Link.hear Link.firstCycle
    dsimp only
    cases c.hear e.heard[i] <;> rfl
  unfold State.firstCycle State.cycle
  dsimp only
  rw [if_neg hdown]
  refine congrArg (fun v => { s with links := v }) ((upd_upd _ _ _ _).trans (upd_congr ?_))
  rw [h]
  exact hsend

theorem firstCycles_eq {e : ResetEnd} {s : State}
    (h : ∀ i : ScreenId, s.links[i] = { Link.reset with collector := (s.links[i]).collector }) :
    (((s.firstCycle e 0).firstCycle e 1).firstCycle e 2).firstCycle e 3 =
      { s with links := Vector.ofFn fun i => Link.firstCycle e.heard[i] s.links[i] } := by
  have hkept (i j : ScreenId) (hij : i ≠ j) (f : Link → Link) (t : State) : (t.modLink i f).links[j] = t.links[j] :=
    upd_get_ne _ _ _ _ hij
  rw [firstCycle_eq (h 0), firstCycle_eq (i := 1) (c := (s.links[(1 : ScreenId)]).collector), firstCycle_eq (i := 2) (c := (s.links[(2 : ScreenId)]).collector),
    firstCycle_eq (i := 3) (c := (s.links[(3 : ScreenId)]).collector)]
  · exact congrArg (fun v => { s with links := v }) (upd_four s.links fun i => Link.firstCycle e.heard[i])
  · rw [hkept 2 3 (by decide), hkept 1 3 (by decide), hkept 0 3 (by decide)]
    exact h 3
  · rw [hkept 1 2 (by decide), hkept 0 2 (by decide)]
    exact h 2
  · rw [hkept 0 1 (by decide)]
    exact h 1

/-- Settles O52. -/
theorem resetAndStartup : Obligations.ResetAndStartup := by
  unfold Obligations.ResetAndStartup
  intro entryLoops exitLoops e header s level valid roleOf
  refine ⟨rfl, fun hr hlinks => ?_, fun hs hr => ?_⟩
  · refine congrArg Host.Outcome.next (a₁ := if s.inReset then s.endReset e else s) ?_
    have hreset (i : ScreenId) : State.reset.links[i] = Link.reset := Vector.getElem_replicate _
    have hports := upd_three s.ports fun i => Port.strap e.straps[i]
    rw [if_pos hr, State.endReset]
    refine (firstCycles_eq fun i => ?_).trans ?_
    · exact (hlinks i).trans (by rw [hreset]; rfl)
    · exact (congrArg (fun v => ({ s with
        inReset := false, blink := some 0, ports := v, links := Vector.ofFn fun i => Link.firstCycle e.heard[i] s.links[i] } : State))
        hports).trans rfl
  · refine congrArg Host.Outcome.next (a₁ := if s.startup && !s.inReset then s.startupDone header else s) ?_
    have hports := upd_three s.ports fun _ => Port.endStartupHold
    have hmap : (Vector.ofFn fun i : Fin 3 => (s.ports[i]).endStartupHold) = s.ports.map Port.endStartupHold := by
      ext k hk
      simp
    have hdone : s.startupDone header = State.startAll { s with
        startup := false, dir := s.dir.complete header
        ports := upd (upd (upd s.ports 0 Port.endStartupHold) 1 Port.endStartupHold) 2 Port.endStartupHold } := rfl
    rw [if_pos (by rw [hs, hr]; rfl), hdone, hports, hmap, Directory.complete_eq header s.dir]
    exact congrArg State.startAll rfl

end Sys2Proof.Machine

/-! SET_KITCHEN and PLACE_ORDER (O45). -/

namespace Sys2Proof.Machine

/-! ### The number of a new order (R157) -/

theorem numberPlaying_iff (n : Nat) (s : State) :
    s.numberPlaying n = true ↔ ∃ (i : ScreenId) (q : Playing), (s.calls[i]).slot = some q ∧ q.entry = .orderCall n := by
  have hone (c : CallUnit) : (match c.slot with | some p => p.entry == .orderCall n | none => false) = true ↔
      ∃ q, c.slot = some q ∧ q.entry = .orderCall n := by
    cases c.slot with
    | none => simp
    | some q => simp
  unfold State.numberPlaying
  rw [toList_eq_finRange, List.any_map, List.any_eq_true]
  constructor
  · rintro ⟨i, -, hi⟩
    exact ⟨i, (hone _).mp hi⟩
  · rintro ⟨i, hi⟩
    exact ⟨i, List.mem_finRange i, (hone _).mpr hi⟩

/-- A number that neither a live order nor a call in a slot has. -/
def State.freeNumber (s : State) (n : Nat) : Prop :=
  (∀ o ∈ s.orders.table, o.number ≠ n) ∧ ∀ i : ScreenId, ∀ q, (s.calls[i]).slot = some q → q.entry ≠ .orderCall n

theorem freeNumber_iff (s : State) (n : Nat) : ((s.order? n).isNone && !s.numberPlaying n) = true ↔ s.freeNumber n := by
  rw [Bool.and_eq_true, Bool.not_eq_true', ← Bool.not_eq_true, numberPlaying_iff]
  refine and_congr ?_ ?_
  · simp only [State.order?, Option.isNone_iff_eq_none, List.find?_eq_none, beq_iff_eq]
  · exact ⟨fun h i q hq he => h ⟨i, q, hq, he⟩, fun h ⟨i, q, hq, he⟩ => h i q hq he⟩

/-- The first free number, counting from the sequence. -/
theorem nextOrderNumber_eq {s : State} {j : Nat} (hj : j < 999) (hfree : s.freeNumber (numberAfter s.orders.seq j))
    (hbefore : ∀ k < j, ¬s.freeNumber (numberAfter s.orders.seq k)) : s.nextOrderNumber = numberAfter s.orders.seq j := by
  have hfind : ((List.range 999).find? fun k => (s.order? (numberAfter s.orders.seq k)).isNone &&
      !s.numberPlaying (numberAfter s.orders.seq k)) = some j := by
    rw [List.find?_range_eq_some]
    refine ⟨(freeNumber_iff s _).mpr hfree, List.mem_range.mpr hj, fun k hk => ?_⟩
    rw [Bool.not_eq_true', ← Bool.not_eq_true, freeNumber_iff]
    exact hbefore k hk
  unfold State.nextOrderNumber
  rw [List.find?_map]
  exact congrArg (fun x : Option Nat => (x.map (numberAfter s.orders.seq)).getD s.orders.seq) hfind

theorem ticket?_number {n : Nat} {t : Ticket} {s : State} (h : s.ticket? n = some t) : t.number = n := by
  have hp := List.find?_some (p := fun t : Ticket => t.number == n) h
  exact beq_iff_eq.mp hp

/-! ### PLACE_ORDER (R160 to R162) -/

/-- The crossings where the fill does not fall. -/
theorem postCrossings_rise {before : Nat} {s : State} (h : before ≤ s.orders.kitchen.length) : s.postCrossings before =
    State.postIf (before = 0 ∧ 0 < s.orders.kitchen.length) .kitchenWork (.fill s.orders.kitchen.length)
      (State.postIf (before < s.orders.settings.high ∧ s.orders.settings.high ≤ s.orders.kitchen.length) .kitchenHigh
        (.fill s.orders.kitchen.length) s) := by
  have hkept {c : Prop} [Decidable c] (k : EventKind) (d : Detail) : (if c then s.post k d else s).orders = s.orders := by split <;> rfl
  have hlow : ¬(s.orders.settings.low < before ∧ s.orders.fill ≤ s.orders.settings.low) := by
    unfold OrderUnit.fill
    omega
  unfold State.postCrossings State.postIf
  dsimp only
  simp only [hkept, if_neg hlow, decide_eq_true_eq]
  rfl

/-- The state that R161 gives to a new order, which is QUEUED or HELD. -/
theorem firstState_eq (pickup : Pickup) (i : ScreenId) (s : State) : s.firstState pickup i =
    if pickup = .now ∨ (s.orders.released[i] = true ∧ s.orders.kitchen.length < 48) then .queued else .held s.orders.released[i] := by
  unfold State.firstState
  cases pickup with
  | now => rfl
  | atBreak =>
    cases hr : s.orders.released[i] with
    | false => rfl
    | true =>
      dsimp only
      by_cases hf : s.orders.kitchen.length < 48
      · exact (if_neg (by decide)).trans ((if_pos hf).trans (if_pos (.inr ⟨rfl, hf⟩)).symm)
      · exact (if_neg (by decide)).trans ((if_neg hf).trans (if_neg (by simp [hf])).symm)

/-- A conditional post, where its detail matters only when it is made. -/
theorem postIf_congr_detail {c d : Bool} {k : EventKind} {x y : Detail} {s t : State} (hc : c = d) (hx : d = true → x = y) (h : s = t) :
    State.postIf c k x s = State.postIf d k y t := by
  subst hc h
  cases c with
  | false => rfl
  | true => rw [hx rfl]

theorem postCrossings_orders (n : Nat) (s : State) : (s.postCrossings n).orders = s.orders := by
  unfold State.postCrossings
  dsimp only
  split <;> split <;> split <;> rfl

/-- Settles O45. -/
theorem placeOrder : Obligations.PlaceOrder := by
  unfold Obligations.PlaceOrder
  intro p tag n items prep pickup t k s byte payload settings u fill refused
  refine ⟨fun ha hh1 hh2 hl hu1 hu2 hr1 hr2 hm1 hm2 => ?_, fun ha hn1 hn2 hi1 hi2 hp1 hp2 => ?_⟩
  · exact serve_ok ha rolesK_of_contains rfl (setKitchenArgs_payload ⟨hh1, hh2⟩ hl ⟨hu1, hu2⟩ ⟨hr1, hr2⟩ ⟨hm1, hm2⟩) rfl
  have hargs : placeOrderArgs payload = some { ticket := n, pickup, items, prep } := by
    have h := placeOrderArgs_payload (a := { ticket := n, pickup, items, prep }) ⟨hn1, hn2⟩ ⟨hi1, hi2⟩ ⟨hp1, hp2⟩
    cases pickup <;> exact h
  have refuses {st : Status} (h : State.placeOrderBody p { ticket := n, pickup, items, prep } (s.taken p) = (s.taken p, .refuse st)) :
      refused st := serve_refused ha rolesGK_of_contains rfl hargs h
  have checked {t : Ticket} {st : Status} (ht : s.ticket? n = some t) (h : s.placeCheck pickup t = some st) : refused st := by
    have ht' : (s.taken p).ticket? n = some t := ht
    have h' : (s.taken p).placeCheck pickup t = some st := h
    refine refuses ?_
    rw [State.placeOrderBody, ht']
    dsimp only
    rw [h']
  refine ⟨fun ht => ?_, fun ht h4 => ?_, fun ht h4 hp hw => ?_, fun ht h4 hp hfull => ?_, fun ht h4 hopen => ⟨fun hfull => ?_, ?_⟩⟩
  · have ht' : (s.taken p).ticket? n = none := ht
    refine refuses ?_
    rw [State.placeOrderBody, ht']
  · refine checked ht ?_
    rw [State.placeCheck, if_neg (Nat.not_lt.mpr h4)]
    rfl
  · refine checked ht ?_
    rw [State.placeCheck, if_pos h4, hp, State.pickupCheck, hw]
    rfl
  · refine checked ht ?_
    have hhigh : s.orders.isHigh = true := decide_eq_true hfull
    rw [State.placeCheck, if_pos h4, hp, State.pickupCheck, if_pos hhigh]
    rfl
  all_goals
    have hpickup : s.pickupCheck pickup t.screen = none := by
      obtain ⟨hp, hw⟩ | ⟨hp, hroom⟩ := hopen
      · rw [hp]
        exact if_pos hw
      · rw [hp]
        exact if_neg (by simp only [OrderUnit.isHigh, decide_eq_true_eq]; exact Nat.not_le.mpr hroom)
  · refine checked ht ?_
    rw [State.placeCheck, if_pos h4, hpickup, if_neg (Nat.not_lt.mpr hfull)]
    rfl
  · intro j hj hsize numberOf free number hfree hbefore queued first order units
    have hnumber : (s.taken p).nextOrderNumber = number := nextOrderNumber_eq (s := s.taken p) hj hfree hbefore
    have hfirst : (s.taken p).firstState pickup t.screen = first := firstState_eq pickup t.screen (s.taken p)
    have hcheck : (s.taken p).placeCheck pickup t = none := by
      have hpickup' : (s.taken p).pickupCheck pickup t.screen = none := hpickup
      have hsize' : (s.taken p).orders.table.length < 256 := hsize
      rw [State.placeCheck, if_pos h4, hpickup', if_pos hsize']
      rfl
    have ht' : (s.taken p).ticket? n = some t := ht
    have horder : PlaceOrderArgs.order { ticket := n, pickup, items, prep } number t p first s.nightClock = order := by
      rw [PlaceOrderArgs.order, ticket?_number ht]
    have hbody : State.placeOrderBody p { ticket := n, pickup, items, prep } (s.taken p) = ((s.taken p).placeOrder order,
        .ok (u16 number ++ first.byte ++ flagByte first.isPending ++ u16 (((s.taken p).placeOrder order).quoteOf first))) := by
      rw [State.placeOrderBody, ht']
      dsimp only
      rw [hcheck, hnumber, hfirst]
      exact congrArg (fun o : Order => (((s.taken p).placeOrder o,
        .ok (u16 o.number ++ o.state.byte ++ flagByte o.state.isPending ++ u16 (((s.taken p).placeOrder o).quoteOf o.state))) : State × Reply)) horder
    have hqueued : first.isQueued = decide queued := by
      simp only [first]
      by_cases hq : queued
      · rw [if_pos hq, decide_eq_true hq]; rfl
      · rw [if_neg hq, decide_eq_false hq]; rfl
    refine (serve_ok ha rolesGK_of_contains rfl hargs hbody).trans ?_
    let entered : State := ((s.taken p).modOrders (·.place order)).modTicket n fun r => { r with openOrders := r.openOrders + 1 }
    have hkitchen : entered.orders.kitchen = if queued then u.kitchen ++ [number] else u.kitchen :=
      (congrArg (fun b : Bool => if b then u.kitchen ++ [number] else u.kitchen) hqueued).trans (if_congr decide_eq_true_iff rfl rfl)
    have hlen : entered.orders.kitchen.length = if queued then fill + 1 else fill := by
      rw [hkitchen]
      split
      · exact List.length_append
      · rfl
    have hplaced : (s.taken p).placeOrder order = entered.postCrossings fill := rfl
    have horders : ((s.taken p).placeOrder order).orders = entered.orders := postCrossings_orders fill entered
    refine congrArg₂ (fun b x => Host.Outcome.next (State.replied p 0x30 tag b x)) ?_ ?_
    · have hquote : ((s.taken p).placeOrder order).quoteOf first = if queued then min 5999 (units * u.settings.unitSeconds) else 0 := by
        rw [State.quoteOf, horders, hqueued]
        refine ite_congr (propext decide_eq_true_iff) (fun hq => ?_) fun _ => rfl
        have hfilter : [order].filter Order.inKitchen = [order] := by
          have hstate : order.state = .queued := if_pos hq
          simp only [List.filter_cons, Order.inKitchen, hstate, if_true, List.filter_nil]
        have htable : entered.orders.table = u.table ++ [order] := rfl
        rw [OrderUnit.quote, htable, List.filter_append, hfilter, List.map_append, List.sum_append]
        rfl
      have hbyte : first.byte = u8 (if queued then 1 else 0) := by
        simp only [first]
        split <;> rfl
      have hpending : first.isPending = (!decide queued && u.released[t.screen]) := by
        simp only [first]
        by_cases hq : queued
        · rw [if_pos hq, decide_eq_true hq]; rfl
        · rw [if_neg hq, decide_eq_false hq]; rfl
      rw [hquote, hbyte, hpending]
    · have hsettings : entered.orders.settings = u.settings := rfl
      rw [hplaced, postCrossings_rise (by rw [hlen]; split <;> omega), hlen, hsettings]
      refine postIf_congr_detail (decide_eq_decide.mpr ?_) (fun h => ?_) (postIf_congr_detail (decide_eq_decide.mpr ?_) (fun h => ?_) ?_)
      · by_cases hq : queued <;> simp only [hq, if_true, if_false, true_and, false_and, iff_false] <;> omega
      · obtain ⟨hq, h0⟩ := of_decide_eq_true h
        rw [if_pos hq, h0]
      · by_cases hq : queued <;> simp only [hq, if_true, if_false, true_and, false_and, iff_false]
        omega
      · rw [if_pos (of_decide_eq_true h).1]
      · have hplace : u.place order = { u.place order with kitchen := if queued then u.kitchen ++ [number] else u.kitchen } :=
          congrArg (fun k => { u.place order with kitchen := k }) hkitchen
        refine (congrArg (fun o => { entered with orders := o }) hplace).trans ?_
        simp only [entered, State.modTicket]
        rfl

end Sys2Proof.Machine

/-! What the rise and the fall of SOUND_UP and the opening of a call window leave (for O41, O42, O43, O44). -/

namespace Sys2Proof.Machine

/-! ### Flags after posts -/

theorem Posts.keptBut {ks : List EventKind} {s t : State} (h : Posts ks s t) : s.flagsKeptBut ks t := fun _ hk j => h.flag hk j

theorem Posts.kept {ks : List EventKind} {s t : State} {k : EventKind} (h : Posts ks s t) (hk : k ∉ ks) : s.flagKept k t := fun j => h.flag hk j

theorem Posts.portsKept {ks : List EventKind} {s t : State} (h : Posts ks s t) : s.portsKept t := h.port

theorem post_flag (k : EventKind) (d : Detail) (j : PortId) (s : State) : ((s.post k d).ports[j]).flag k = Flag.post d ((s.ports[j]).flag k) := by
  have hget : (s.post k d).ports[j] = (s.ports[j]).post k d := by fin_cases j <;> rfl
  rw [hget]
  exact upd_get_self _ _ _

/-- The flag of a kind posted once among posts of other kinds. -/
theorem flagPosted_of_posts {ks ls : List EventKind} {k : EventKind} {d : Detail} {s t u : State} (hbefore : Posts ks s t) (hk : k ∉ ks)
    (hafter : Posts ls (t.post k d) u) (hl : k ∉ ls) : s.flagPosted k d u := by
  intro j
  rw [hafter.flag hl, post_flag, hbefore.flag hk]
  rfl

/-! ### The owed orders once some have been called (R132) -/

theorem owedNow_congr {i : ScreenId} {s t : State} (h : t.orders = s.orders) : t.owedNow i = s.owedNow i := by
  unfold State.owedNow State.order?
  rw [h]

/-- With the marks of the first owed orders cleared, the others remain. -/
theorem owedNow_unowed_take (k : Nat) (i : ScreenId) (s : State) :
    ({ s with orders := s.orders.unowed ((s.owedNow i).take k) } : State).owedNow i = (s.owedNow i).drop k := by
  induction k generalizing s with
  | zero => rw [List.take_zero, OrderUnit.unowed_nil, List.drop_zero]
  | succ k ih =>
    cases hl : s.owedNow i with
    | nil => rw [List.take_nil, OrderUnit.unowed_nil, List.drop_nil]; exact hl
    | cons n l =>
      have hrest := owedNow_unowed hl
      have hnext := ih { s with orders := s.orders.unowed [n] }
      rw [hrest] at hnext
      rw [List.take_succ_cons, OrderUnit.unowed_cons, List.drop_succ_cons]
      exact hnext

/-! ### A call that enters the slot -/

theorem entered_of_sameButReads {e : CallEntry} {seq : List SeqClip} {m : MixSettings} {d : DuckState} {queue : List CallEntry}
    {c u : CallUnit} (h : CallUnit.sameButReads { c with queue, duckState := d, slot := some (.atStart e seq m) } u) :
    CallUnit.entered e seq m d queue c u := by
  obtain ⟨hu, -, hslot⟩ := h
  obtain ⟨nextRead, readPending, hq⟩ := hslot _ rfl
  refine ⟨nextRead, readPending, ?_⟩
  rw [hu, hq]
  rfl

theorem CallUnit.sameButReads_of_slot_none {c u : CallUnit} (h : c.sameButReads u) (hc : c.slot = none) : u = c := by
  obtain ⟨hu, hnone, -⟩ := h
  rw [hu, hnone hc, ← hc]

/-! ### Calls resumed (R129, R132, R135, R151) -/

/-- The owed fill, the start of the head call and the reads they ask for. -/
def State.resumeCalls (i : ScreenId) (s : State) : State := ((s.owedFill i).startScreen i).serveReads

theorem resumeCalls_frame (i : ScreenId) (s : State) : (s.resumeCalls i).clearCalls = s.clearCalls :=
  (serveReads_frame _).trans ((startScreen_frame i _).trans (owedFill_frame i s))

theorem resumeCalls_resumed {i : ScreenId} {isOpen up : Bool} {s t : State}
    (hcalls : t.calls = upd s.calls i fun c => { c with callWindow := isOpen }) (horders : t.orders = s.orders) (hdir : t.dir = s.dir)
    (hup : (t.links[i]).soundUp = up) : s.callsResumed i isOpen up (t.resumeCalls i) := by
  have hunit : t.calls[i] = { s.calls[i] with callWindow := isOpen } := by rw [hcalls]; exact upd_get_self _ _ _
  have howed : t.owedNow i = s.owedNow i := owedNow_congr horders
  have hothers (j : ScreenId) (hj : j ≠ i) : t.calls[j] = s.calls[j] := by rw [hcalls]; exact upd_get_ne _ _ _ _ hj.symm
  have hlen : (t.calls[i]).queue.length = (s.calls[i]).queue.length := by rw [hunit]
  have hfill := owedFill_eq i t
  rw [howed, horders, hlen] at hfill
  have hfilled : (t.owedFill i).calls[i] = { s.calls[i] with
      callWindow := isOpen
      queue := (s.calls[i]).queue ++ ((s.owedNow i).take (16 - (s.calls[i]).queue.length)).map CallEntry.orderCall } := by
    rw [hfill]
    exact (upd_get_self _ _ _).trans (by rw [hunit])
  have hready : (t.owedFill i).ready i ↔ isOpen = true ∧ up = true ∧ s.dir.reading = false ∧ (s.calls[i]).slot = none ∧
      (s.calls[i]).duckState = .up := by
    unfold State.ready
    rw [hfilled, hfill]
    dsimp only
    rw [hup, hdir]
  unfold State.callsResumed
  intro c room owed queue starts
  refine ⟨fun j hj => ?_, fun hstop => ?_, ?_⟩
  · have hkept : ((t.owedFill i).startScreen i).calls[j] = s.calls[j] :=
      ((startScreen_callsOn i _).1 j hj).trans (((owedFill_callsOn i t).1 j hj).trans (hothers j hj))
    rw [← hkept]
    exact serveReads_readsOnly _ j
  · have hstays : (t.owedFill i).startScreen i = t.owedFill i := by
      refine startScreen_of_not fun ⟨hr, hq⟩ => ?_
      rw [hfilled] at hq
      exact hstop.elim (fun hn => hn (hready.mp hr)) hq
    unfold State.resumeCalls
    rw [hstays]
    refine ⟨?_, ?_⟩
    · have hreads := serveReads_readsOnly (t.owedFill i) i
      rw [hfilled] at hreads
      exact hreads
    · rw [serveReads_orders, hfill]
  · intro e rest hstarts hqueue hseq _ more
    have hhead : ((t.owedFill i).calls[i]).queue = e :: rest := by rw [hfilled]; exact hqueue
    have hdir' : (t.owedFill i).dir = s.dir := by rw [hfill]; exact hdir
    have hmore : (t.owedFill i).owedNow i = owed.drop room := by
      refine (owedNow_congr (s := { s with orders := s.orders.unowed (owed.take room) }) ?_).trans (owedNow_unowed_take room i s)
      rw [hfill]
    have hstart := startScreen_of_start (hready.mpr hstarts) hhead (by rw [hdir']; exact hseq)
    rw [takeHead_eq hhead (by rw [hdir']; exact hseq), hmore, hdir'] at hstart
    unfold State.resumeCalls
    rw [hstart]
    refine ⟨entered_of_sameButReads ?_, ?_⟩
    · have hreads := serveReads_readsOnly ((t.owedFill i).startScreen i) i
      have hself : ((t.owedFill i).startScreen i).calls[i] = { c with
          queue := rest ++ more.map CallEntry.orderCall, duckState := .rampDown 0, slot := some (.atStart e (e.composed s.dir) c.settings) } := by
        rw [hstart]
        refine (upd_get_self _ _ _).trans ?_
        rw [hfilled]
      rw [hself, hstart] at hreads
      exact hreads
    · rw [serveReads_orders, OrderUnit.unowed_append]
      have horders' : (t.owedFill i).orders = s.orders.unowed (owed.take room) := by rw [hfill]
      rw [← horders']

/-! ### A call cut (R138, R141) -/

theorem markOwed_eq (e : CallEntry) (s : State) : s.markOwed e = { s with
    orders := { s.orders with table := s.orders.table.map fun o => if e == .orderCall o.number then { o with owed := true } else o } } := by
  cases e with
  | announce clips =>
    have hkept : (s.orders.table.map fun o => if CallEntry.announce clips == .orderCall o.number then { o with owed := true } else o) =
        s.orders.table := by simp
    rw [hkept]
    rfl
  | orderCall n =>
    have hnumber (o : Order) : (CallEntry.orderCall n == CallEntry.orderCall o.number) = decide (o.number = n) := by
      rw [Bool.eq_iff_iff, beq_iff_eq, decide_eq_true_iff, CallEntry.orderCall.injEq, eq_comm]
    simp only [hnumber, decide_eq_true_iff]
    rfl

theorem cutCall_eq (i : ScreenId) (s : State) : s.cutCall i = { s with
    calls := upd s.calls i fun c => if c.slot.isSome then { c with slot := none, duckState := .rampUp c.gain 0, cut := inc16 c.cut } else c
    orders := { s.orders with
      table := s.orders.table.map fun o => if (s.calls[i]).slot.any (·.entry == .orderCall o.number) then { o with owed := true } else o }
    reader := { s.reader with inFlight := s.reader.inFlight.map fun f =>
      { f with live := f.live && !((s.calls[i]).slot.isSome && f.screen == i) } } } := by
  unfold State.cutCall
  split
  · next hslot =>
    have hcalls : upd s.calls i (fun c => if c.slot.isSome then { c with slot := none, duckState := .rampUp c.gain 0, cut := inc16 c.cut }
        else c) = s.calls := upd_eq_self (by rw [hslot]; rfl)
    rw [hcalls, hslot]
    simp
  · next q hslot =>
    have hcalls : upd s.calls i (fun c => if c.slot.isSome then { c with slot := none, duckState := .rampUp c.gain 0, cut := inc16 c.cut }
        else c) = upd s.calls i fun c => { c with slot := none, duckState := .rampUp c.gain 0, cut := inc16 c.cut } :=
      upd_congr (by rw [hslot]; rfl)
    have horphan : s.reader.orphan i = { s.reader with inFlight := s.reader.inFlight.map fun f =>
        { f with live := f.live && !(true && f.screen == i) } } := by
      refine congrArg (fun x => { s.reader with inFlight := x }) (congrArg (s.reader.inFlight.map ·) (funext fun f => ?_))
      by_cases hf : f.screen = i
      · simp [hf]
      · have hne : (f.screen == i) = false := beq_eq_false_iff_ne.mpr hf
        simp [hf, hne]
    rw [hcalls, hslot]
    dsimp only [Option.isSome_some, Option.any_some]
    rw [← horphan]
    rw [markOwed_eq]
    rfl

theorem cutCall_cut {i : ScreenId} {s t : State} (hcalls : t.calls = s.calls) (horders : t.orders = s.orders) (hreader : t.reader = s.reader) :
    s.callCut i (t.cutCall i).serveReads := by
  have hcut := cutCall_eq i t
  rw [hcalls, horders, hreader] at hcut
  have hself : (t.cutCall i).calls[i] = if (s.calls[i]).slot.isSome then
      { s.calls[i] with slot := none, duckState := .rampUp (s.calls[i]).gain 0, cut := inc16 (s.calls[i]).cut } else s.calls[i] := by
    rw [hcut]
    exact upd_get_self _ _ _
  have hempty : ((t.cutCall i).calls[i]).slot = none := by
    rw [hself]
    split
    · rfl
    · next h => exact Option.not_isSome_iff_eq_none.mp h
  refine ⟨?_, ?_, fun j hj => ?_, fun f hf => ?_⟩
  · rw [CallUnit.sameButReads_of_slot_none (serveReads_readsOnly _ i) hempty, hself]
  · rw [serveReads_orders, hcut]
  · have hkept : (t.cutCall i).calls[j] = s.calls[j] := by
      rw [hcut]
      exact upd_get_ne _ _ _ _ hj.symm
    rw [← hkept]
    exact serveReads_readsOnly _ j
  · have hreader' : (t.cutCall i).reader = { s.reader with inFlight := some { f with
        live := f.live && !((s.calls[i]).slot.isSome && f.screen == i) } } := by rw [hcut, hf]; rfl
    rw [serveReads_reader (f := { f with live := f.live && !((s.calls[i]).slot.isSome && f.screen == i) }) (by rw [hreader']), hreader']

/-! ### A fall of SOUND_UP (R63, R138, R151) -/

/-- What follows a fall of SOUND_UP. -/
def State.soundFall (i : ScreenId) (s : State) : State := ((s.soundLossHold i).cutCall i).serveReads

theorem soundLossHold_eq (i : ScreenId) (s : State) : s.soundLossHold i =
    if (s.shows[i]).state = .running ∧ (s.shows[i]).settings.holdOnLoss = true then
      { s with
        shows := upd s.shows i fun w => { w with state := .held, holdReason := some .sound, pause := true, framesStopped := false }
        ports := (s.post .showHeld (.held i .sound)).ports }
    else s := by
  unfold State.soundLossHold
  split
  · next h =>
    have hshows : (upd s.shows i fun w =>
          { w with state := .held, holdReason := some .sound, pause := true, framesStopped := w.state == .lost }) =
        upd s.shows i fun w => { w with state := .held, holdReason := some .sound, pause := true, framesStopped := false } :=
      upd_congr (by rw [h.1]; rfl)
    exact congrArg (fun v => ({ s with shows := v, ports := (s.post .showHeld (.held i .sound)).ports } : State)) hshows
  · rfl

theorem soundFall_fell {i : ScreenId} {cause : SoundCause} {s t : State}
    (ht : t = { s with links := t.links, ports := (s.post .soundLost (.sound i cause)).ports }) : s.soundFell i cause (t.soundFall i) := by
  have hports : t.ports = (s.post .soundLost (.sound i cause)).ports := by rw [ht]
  have hshows : t.shows = s.shows := by rw [ht]
  have hlost : Posts [.soundLost] s t := (post_posts (.sound i cause) s (by simp)).trans (.of_ports hports)
  have hheld : Posts [.showHeld] t (t.soundLossHold i) := by
    unfold State.soundLossHold State.holdShow
    exact posts_ite (fun _ => (post_posts _ _ (by simp)).after rfl) fun _ => .refl _ t
  have hcut : Posts [] (t.soundLossHold i) (t.soundFall i) := .trans (clearCalls_posts (cutCall_frame i _)) (clearCalls_posts (serveReads_frame _))
  have hframe : (t.soundFall i).clearCalls = (t.soundLossHold i).clearCalls := (serveReads_frame _).trans (cutCall_frame i _)
  have hhold := soundLossHold_eq i t
  refine ⟨?_, ?_, ?_, ?_, ?_⟩
  · refine flagPosted_of_posts (ks := []) (ls := [.showHeld]) (t := s) (.refl _ s) (by simp) ?_ (by simp)
    exact .trans (.of_ports hports) (hheld.trans (hcut.mono (by simp)))
  · exact ((hlost.mono (by simp)).trans ((hheld.mono (by simp)).trans (hcut.mono (by simp)))).keptBut
  · refine cutCall_cut ?_ ?_ ?_ <;> rw [hhold] <;> split <;> rw [ht]
  · have hwhole := eq_of_clearCalls hframe
    rw [hwhole, hhold]
    split <;> rw [ht]
  · have hkept : (t.soundFall i).shows = (t.soundLossHold i).shows := onlyIn_of_clearCalls hframe .shows (by simp)
    by_cases hc : (s.shows[i]).state = .running ∧ (s.shows[i]).settings.holdOnLoss = true
    · rw [if_pos hc, hkept, hhold, if_pos (by rw [hshows]; exact hc)]
      refine ⟨by rw [hshows], ?_⟩
      refine flagPosted_of_posts hlost (by simp) (ls := []) ?_ (by simp)
      refine .trans (.of_ports ?_) hcut
      rw [hhold, if_pos (by rw [hshows]; exact hc)]
    · rw [if_neg hc, hkept, hhold, if_neg (by rw [hshows]; exact hc)]
      refine ⟨hshows, (hlost.trans ?_).kept (by simp)⟩
      refine .trans (.of_ports ?_) (hcut.mono (by simp))
      rw [hhold, if_neg (by rw [hshows]; exact hc)]

/-! ### SOUND_UP derived anew -/

theorem deriveSound_fall {i : ScreenId} {s : State} (hwas : (s.links[i]).soundUp = true) (hnow : (s.links[i]).deriveSound = false) :
    s.deriveSound i = (s.modLink i fun k => { k with soundUp := false }).soundFall i := by
  unfold State.deriveSound
  dsimp only
  rw [hwas, hnow]
  rfl

theorem deriveSound_rise {i : ScreenId} {s : State} (hwas : (s.links[i]).soundUp = false) (hnow : (s.links[i]).deriveSound = true) :
    s.deriveSound i = (s.modLink i fun k => { k with soundUp := true }).resumeCalls i := by
  unfold State.deriveSound
  dsimp only
  rw [hwas, hnow]
  rfl

theorem deriveSound_same {i : ScreenId} {s : State} (h : (s.links[i]).deriveSound = (s.links[i]).soundUp) : s.deriveSound i = s := by
  have hlinks : (upd s.links i fun k => { k with soundUp := (s.links[i]).soundUp }) = s.links := upd_eq_self rfl
  unfold State.deriveSound
  dsimp only
  rw [h, State.modLink, hlinks]
  cases (s.links[i]).soundUp <;> rfl

end Sys2Proof.Machine

/-! The settings exchange with the exciters (O42). -/

namespace Sys2Proof.Machine

/-! ### Flags and answers -/

/-- Two states whose event flags agree. -/
def SameFlags (s t : State) : Prop := ∀ (j : PortId) (k : EventKind), (t.ports[j]).flag k = (s.ports[j]).flag k

theorem flagPosted_congr {s s' u u' : State} {k : EventKind} {d : Detail} (hs : SameFlags s s') (hu : SameFlags u u')
    (h : s'.flagPosted k d u) : s.flagPosted k d u' := fun j => by rw [hu, h j, hs]

theorem flagKept_congr {s s' u u' : State} {k : EventKind} (hs : SameFlags s s') (hu : SameFlags u u') (h : s'.flagKept k u) :
    s.flagKept k u' := fun j => by rw [hu, h j, hs]

theorem flagsKeptBut_congr {s s' u u' : State} {ks : List EventKind} (hs : SameFlags s s') (hu : SameFlags u u')
    (h : s'.flagsKeptBut ks u) : s.flagsKeptBut ks u' := fun k hk => flagKept_congr hs hu (h k hk)

theorem modPort_sameFlags (p : PortId) {f : Port → Port} {s : State} (h : (f s.ports[p]).flags = (s.ports[p]).flags) :
    SameFlags s (s.modPort p f) := by
  intro j k
  by_cases hj : j = p
  · subst hj
    have hself : (s.modPort j f).ports[j] = f s.ports[j] := upd_get_self _ _ _
    rw [hself]
    exact congrArg (fun v : Vector Flag 21 => v[k.index]) h
  · rw [State.modPort_ports, upd_get_ne _ _ _ _ (Ne.symm hj)]

theorem taken_sameFlags (p : PortId) (s : State) : SameFlags s (s.taken p) := modPort_sameFlags p rfl

theorem replied_sameFlags (p : PortId) (code tag : Byte) (b : List Byte) (s : State) : SameFlags s (State.replied p code tag b s) :=
  modPort_sameFlags p rfl

/-- The ports after a request's handling has posted events and its reply has joined. -/
theorem answeredAt_of_posts {ks : List EventKind} {p : PortId} {code tag : Byte} {b : List Byte} {s t : State}
    (h : Posts ks (s.taken p) t) : s.answeredAt p code tag .ok b (State.replied p code tag b t) := by
  intro j
  obtain ⟨flags, attention, hj⟩ := h.port j
  refine ⟨flags, attention, ?_⟩
  have hreplied : (State.replied p code tag b t).ports = upd t.ports p (·.reply (replyFrame code tag Status.ok.code b)) := rfl
  have hexpected : ((s.taken p).modPort p (·.reply (replyFrame code tag Status.ok.code b))).ports =
      upd (s.taken p).ports p (·.reply (replyFrame code tag Status.ok.code b)) := rfl
  rw [hreplied, hexpected]
  by_cases hjp : j = p
  · subst hjp
    rw [upd_get_self, upd_get_self, hj]
    rfl
  · rw [upd_get_ne _ _ _ _ (Ne.symm hjp), upd_get_ne _ _ _ _ (Ne.symm hjp), hj]

/-! ### A link lost (R148) -/

theorem Link.deriveSound_of_lost {k : Link} (h : k.state = .lost) : k.deriveSound = false := by
  unfold Link.deriveSound
  rw [h]
  rfl

/-- The record of a link declared lost. -/
def Link.lose (k : Link) : Link := { k with state := .lost, soundUp := false, counts := { k.counts with losses := inc16 k.counts.losses } }

theorem loseLink_links (i : ScreenId) (s : State) : (s.loseLink i).links = upd s.links i Link.lose := by
  have hlost : (((s.modLink i fun k => { k with state := .lost }.count fun c => { c with losses := inc16 c.losses }).post
      .soundLost (.sound i .link)).links[i]).deriveSound = false :=
    Link.deriveSound_of_lost (congrArg Link.state (upd_get_self s.links i _))
  unfold State.loseLink
  rw [deriveSound_links, hlost]
  exact (upd_upd s.links i (fun k => { k with state := .lost }.count fun c => { c with losses := inc16 c.losses })
    fun k => { k with soundUp := false }).trans (upd_congr (g := Link.lose) rfl)

theorem loseLink_lost {i : ScreenId} {s : State} : s.linkLost i (s.loseLink i) := by
  let lost : State := (s.modLink i fun k => { k with state := .lost }.count fun c => { c with losses := inc16 c.losses }).post
    .soundLost (.sound i .link)
  have hself : lost.links[i] = { s.links[i] with state := .lost, counts := { (s.links[i]).counts with losses := inc16 (s.links[i]).counts.losses } } :=
    upd_get_self _ _ _
  have hderive : (lost.links[i]).deriveSound = false := by rw [hself]; exact Link.deriveSound_of_lost rfl
  have hlose : s.loseLink i = lost.deriveSound i := rfl
  rw [hlose]
  unfold State.linkLost
  split
  · next hup =>
    rw [deriveSound_fall (by rw [hself]; exact hup) hderive]
    exact soundFall_fell rfl
  · next hup =>
    rw [deriveSound_same (by rw [hderive, hself]; exact (Bool.not_eq_true _ ▸ hup).symm)]
    exact ⟨flagPosted_of_posts (ks := []) (ls := []) (t := s) (.refl _ s) (by simp) (.of_ports rfl) (by simp),
      (Posts.after (u := s) (post_posts (.sound i .link) s (by simp)) rfl).keptBut, rfl⟩

/-- The loss of a link is not told by the links themselves, nor by what of the ports is no flag. -/
theorem linkLost_congr {i : ScreenId} {s u : State} {l l' : Vector Link 4} {q q' : Vector Port 3}
    (hsound : (l[i]).soundUp = (s.links[i]).soundUp) (hs : SameFlags s { s with links := l, ports := q })
    (hu : SameFlags u { u with links := l', ports := q' }) (h : ({ s with links := l, ports := q } : State).linkLost i u) :
    s.linkLost i { u with links := l', ports := q' } := by
  have hframe {x : State} (hx : u = x) : ({ u with links := l', ports := q' } : State) = { x with links := l', ports := q' } := by rw [hx]
  unfold State.linkLost at h ⊢
  dsimp only at h
  rw [hsound] at h
  split
  · next hup =>
    rw [if_pos hup] at h
    obtain ⟨hlost, hkept, hcut, hwhole, hshow⟩ := h
    refine ⟨flagPosted_congr hs hu hlost, flagsKeptBut_congr hs hu hkept, hcut, hframe hwhole, ?_⟩
    dsimp only at hshow ⊢
    by_cases hc : (s.shows[i]).state = .running ∧ (s.shows[i]).settings.holdOnLoss = true
    · rw [if_pos hc] at hshow ⊢
      exact ⟨hshow.1, flagPosted_congr hs hu hshow.2⟩
    · rw [if_neg hc] at hshow ⊢
      exact ⟨hshow.1, flagKept_congr hs hu hshow.2⟩
  · next hup =>
    rw [if_neg hup] at h
    obtain ⟨hlost, hkept, hwhole⟩ := h
    have hwhole' := hframe hwhole
    exact ⟨flagPosted_congr hs hu hlost, flagsKeptBut_congr hs hu hkept, hwhole'⟩

/-! ### A SETTINGS send and a cycle (R146, R149) -/

theorem quiet_iff (k : Link) : (match k.collector with | .collecting _ => false | .idle | .ignoring => true) = true ↔ k.receiving = false := by
  unfold Link.receiving
  cases k.collector <;> simp

/-- A message made by the part (R146). -/
theorem emit_eq (m : LineMessage) (k : Link) : k.emit m =
    if k.leaving = none ∧ k.waiting = [] ∧ k.receiving = false then { k with leaving := some m, waiting := [] }
    else { k with waiting := k.waiting ++ [m] } := by
  obtain ⟨hl, hr, hw, he⟩ | ⟨hbusy, he⟩ := emit_cases m k
  · rw [he, if_pos ⟨hl, hw, hr⟩, ← hw]
  · rw [he, if_neg]
    rintro ⟨hl, hw, hr⟩
    obtain h | h | h := hbusy
    · exact h hl
    · rw [hr] at h
      contradiction
    · exact h hw

/-- The record of a link that makes a send, its message apart. -/
def Link.sent (k : Link) : Link :=
  { k with
    nextSend := k.nextSend + 1, latest := some (k.nextSend, false), ackTimer := none
    unanswered := if k.state = .up then k.unanswered + 1 else k.unanswered, counts := { k.counts with sends := inc16 k.counts.sends } }

/-- The send of a cycle. -/
def Link.cycleSend (k : Link) : Link := { k.makeSend with refreshTimer := some 1000 }

theorem cycleSend_eq (k : Link) :
    let free := k.leaving = none ∧ k.waiting = [] ∧ k.receiving = false
    k.cycleSend = { k with
      nextSend := k.nextSend + 1, latest := some (k.nextSend, false), ackTimer := none, refreshTimer := some 1000
      unanswered := if k.state = .up then k.unanswered + 1 else k.unanswered
      counts := { k.counts with sends := inc16 k.counts.sends }
      leaving := if free then some (.settings k.nextSend k.settings) else k.leaving
      waiting := if free then [] else k.waiting ++ [.settings k.nextSend k.settings] } := by
  intro free
  by_cases hf : free
  · have hsend : k.makeSend = { k.sent with leaving := some (.settings k.nextSend k.settings), waiting := [] } :=
      (emit_eq _ k.sent).trans (if_pos hf)
    rw [Link.cycleSend, hsend, if_pos hf, if_pos hf]
    rfl
  · have hsend : k.makeSend = { k.sent with waiting := k.waiting ++ [.settings k.nextSend k.settings] } :=
      (emit_eq _ k.sent).trans (if_neg hf)
    rw [Link.cycleSend, hsend, if_neg hf, if_neg hf]
    rfl

/-- A cycle leaves what SET_EXCITER answers as it was. -/
theorem cycleSend_kept (k : Link) : k.cycleSend.settings = k.settings ∧ k.cycleSend.state = k.state ∧ k.cycleSend.last = k.last ∧
    k.cycleSend.soundUp = k.soundUp := by
  rw [cycleSend_eq]
  exact ⟨rfl, rfl, rfl, rfl⟩

theorem cycle_of_not_late {i : ScreenId} {s : State} (h : ¬((s.links[i]).state = .up ∧ 4 ≤ (s.links[i]).unanswered)) :
    s.cycle i = s.modLink i Link.cycleSend := by
  unfold State.cycle
  dsimp only
  rw [if_neg h]
  rfl

theorem cycle_of_late {i : ScreenId} {s : State} (h : (s.links[i]).state = .up ∧ 4 ≤ (s.links[i]).unanswered) :
    s.cycle i = (s.loseLink i).modLink i Link.cycleSend := by
  unfold State.cycle
  dsimp only
  rw [if_pos h]
  rfl

/-- A cycle that falls due with 4 sends unanswered, over a link as some of its inputs and settings have left it. -/
theorem cycle_late {i : ScreenId} {f : Link → Link} {s : State} (hf : (f s.links[i]).soundUp = (s.links[i]).soundUp)
    (h : (f s.links[i]).state = .up ∧ 4 ≤ (f s.links[i]).unanswered) :
    ((s.modLink i f).cycle i).links = (upd s.links i fun k => (f k).lose.cycleSend) ∧ s.linkLost i ((s.modLink i f).cycle i) ∧
      Posts [.soundLost, .showHeld] s ((s.modLink i f).cycle i) := by
  have hself : (s.modLink i f).links[i] = f s.links[i] := upd_get_self _ _ _
  have hcycle := cycle_of_late (s := s.modLink i f) (i := i) (by rw [hself]; exact h)
  have hlinks := loseLink_links i (s.modLink i f)
  rw [hcycle]
  refine ⟨?_, ?_, ?_⟩
  · rw [State.modLink_links, hlinks, State.modLink_links, upd_upd, upd_upd]
  · exact linkLost_congr (l := (s.modLink i f).links) (q := s.ports) (u := (s.modLink i f).loseLink i) (q' := ((s.modLink i f).loseLink i).ports)
      (by rw [hself]; exact hf) (fun _ _ => rfl) (fun _ _ => rfl) loseLink_lost
  · exact (loseLink_posts i (s.modLink i f)).after rfl

/-- Settles O42. -/
theorem settingsCycles : Obligations.SettingsCycles := by
  unfold Obligations.SettingsCycles
  intro p tag i t heard s payload k hears send lost late status settings
  have hsend (k : Link) : send k = k.cycleSend := by
    have hfree : (k.leaving = none ∧ k.waiting = [] ∧ k.receiving = false) ↔ (k.leaving = none ∧ k.waiting = [] ∧
        (match k.collector with | .collecting _ => false | .idle | .ignoring => true) = true) := by rw [quiet_iff]
    rw [cycleSend_eq]
    simp only [hfree] <;> rfl
  have hreply (l : Link) : l.replyBytes = (flagByte l.settings.mute ++ flagByte l.settings.mono ++ u8 l.settings.deviation) ++ status l := by
    simp only [Link.replyBytes, ExciterSettings.bytes, linkStateByte_eq, optStatus_eq, offOn, stereoMono, enumByte_false_true,
      List.append_assoc] <;> rfl
  have hstatus (l : Link) : status l.cycleSend = status l := by
    obtain ⟨-, hstate, hlast, hup⟩ := cycleSend_kept l
    simp only [status, hstate, hlast, hup]
  simp only [hsend]
  refine ⟨fun ha hd => ?_, fun ht => ⟨fun hlate => ?_, fun hlate => ?_⟩, fun ht => ?_⟩
  · have hargs : setExciterArgs payload = some (i, t) := setExciterArgs_payload i hd
    let f : Link → Link := fun k => { k.hear heard with settings := t }
    have handled {v : State} (hv : (s.taken p).setExciter heard i t = v) {l : Link} (hl : v.links[i] = l) (hlt : l.settings = t)
        {st : List Byte} (hst : status l = st) :
        exec (.setExciter p tag ⟨payload, heard⟩) s = .next (State.replied p 0x2A tag (settings ++ st) v) := by
      refine serve_ok (a := (i, t)) (t := v) ha rolesB_of_contains rfl hargs ?_
      have hbody : State.setExciterBody heard (i, t) (s.taken p) =
          ((s.taken p).setExciter heard i t, .ok (((s.taken p).setExciter heard i t).links[i]).replyBytes) := rfl
      rw [hbody, hv, hl, hreply, hlt, hst]
    refine ⟨fun ht => ?_, fun ht hlate => ?_, fun ht hlate => ?_⟩
    · exact handled (if_pos ht) rfl ht rfl
    · have hcycle : (s.taken p).setExciter heard i t = (s.taken p).modLink i fun k => (f k).cycleSend := by
        refine (if_neg ht).trans ((cycle_of_not_late ?_).trans ?_)
        · rw [State.modLink_links, upd_get_self]
          exact hlate
        · exact congrArg (fun v => ({ s.taken p with links := v } : State)) (upd_upd s.links i f Link.cycleSend)
      exact handled hcycle (upd_get_self _ _ _) (cycleSend_kept _).1 (hstatus _)
    · obtain ⟨hlinks, hlost, hposts⟩ := cycle_late (s := s.taken p) (i := i) (f := f) rfl hlate
      have hcycle : (s.taken p).setExciter heard i t = ((s.taken p).modLink i f).cycle i := if_neg ht
      have hlink : (((s.taken p).modLink i f).cycle i).links[i] = (f k).lose.cycleSend := by
        rw [hlinks]
        exact upd_get_self _ _ _
      refine ⟨_, handled hcycle hlink (cycleSend_kept _).1 (hstatus _), hlinks, ?_, answeredAt_of_posts hposts⟩
      exact linkLost_congr (l := s.links) (q := (s.taken p).ports) (l' := (((s.taken p).modLink i f).cycle i).links) rfl (taken_sameFlags p s)
        (replied_sameFlags p 0x2A tag _ _) hlost
  all_goals
    have hexec : exec (.refreshTimerExpiry i heard) s =
        .next (if (s.links[i]).refreshTimer.isSome then (s.modLink i (·.hear heard)).cycle i else s) := rfl
    rw [hexec]
  · rw [if_pos (Option.isSome_iff_ne_none.mpr ht), cycle_of_not_late (by rw [State.modLink_links, upd_get_self]; exact hlate)]
    exact congrArg (fun v => Host.Outcome.next ({ s with links := v } : State)) (upd_upd s.links i (·.hear heard) Link.cycleSend)
  · obtain ⟨hlinks, hlost, hposts⟩ := cycle_late (s := s) (i := i) (f := (·.hear heard)) rfl hlate
    rw [if_pos (Option.isSome_iff_ne_none.mpr ht)]
    exact ⟨_, rfl, hlinks, hlost, hposts.portsKept⟩
  · have hnone : s.links[i].refreshTimer = none := ht
    rw [hnone]
    rfl

end Sys2Proof.Machine

/-! What the exciters answer and report (O43, O44). -/

namespace Sys2Proof.Machine

/-! ### SOUND_UP after a change of one link -/

section Derived

variable {i : ScreenId} {s : State} {l : Vector Link 4} {q : Vector Port 3}

/-- The part with other links and ports. -/
def State.withLinks (l : Vector Link 4) (q : Vector Port 3) (s : State) : State := { s with links := l, ports := q }

theorem withLinks_fell {cause : SoundCause} (hwas : (l[i]).soundUp = true) (hnow : (l[i]).deriveSound = false)
    (hq : q = (s.post .soundLost (.sound i cause)).ports) : s.soundFell i cause ((s.withLinks l q).deriveSound i) := by
  have hfall : (s.withLinks l q).deriveSound i = _ := deriveSound_fall hwas hnow
  rw [hfall]
  refine soundFall_fell ?_
  subst hq
  rfl

theorem withLinks_rose (hwas : (l[i]).soundUp = false) (hnow : (l[i]).deriveSound = true) :
    s.soundRose i ((s.withLinks l q).deriveSound i) ∧ ((s.withLinks l q).deriveSound i).ports = q := by
  have hrise : (s.withLinks l q).deriveSound i = _ := deriveSound_rise hwas hnow
  have hcalls : (upd s.calls i fun c => { c with callWindow := (s.calls[i]).callWindow }) = s.calls := upd_eq_self rfl
  have hup : ((((s.withLinks l q).modLink i fun k => { k with soundUp := true }).links)[i]).soundUp = true :=
    congrArg Link.soundUp (upd_get_self _ _ _)
  have hframe := resumeCalls_frame i ((s.withLinks l q).modLink i fun k => { k with soundUp := true })
  have hports := onlyIn_of_clearCalls hframe .ports (by simp)
  have hwhole := eq_of_clearCalls hframe
  rw [hrise]
  refine ⟨⟨resumeCalls_resumed hcalls.symm rfl rfl hup, ?_⟩, hports⟩
  rw [links_of_clearCalls hframe, show State.ports _ = _ from hports]
  exact hwhole

theorem withLinks_links : ((s.withLinks l q).deriveSound i).links = upd l i fun k => { k with soundUp := (l[i]).deriveSound } :=
  deriveSound_links i _

theorem withLinks_same (h : (l[i]).deriveSound = (l[i]).soundUp) : (s.withLinks l q).deriveSound i = s.withLinks l q := deriveSound_same h

end Derived

/-! ### A status taken in UP (R150 to R152) -/

/-- Whether a status taken lets the sound up. -/
def ExciterStatus.sound (t : ExciterStatus) : Bool := t.carrier && !t.fault

theorem Link.deriveSound_of_up {k : Link} {t : ExciterStatus} (hs : k.state = .up) (hl : k.last = some t) : k.deriveSound = t.sound := by
  unfold Link.deriveSound
  rw [hs, hl]
  rfl

/-- The cause of a fall of SOUND_UP in UP (the table of R152). -/
def fallCause (old : Option ExciterStatus) (t : ExciterStatus) : SoundCause :=
  if (∀ c ∈ old, c.fault = false) ∧ t.fault = true then .rfFault else .carrier

/-- The cause of a rise of SOUND_UP in UP (the table of R152). -/
def riseCause (old : Option ExciterStatus) (t : ExciterStatus) : SoundCause :=
  if (∀ c ∈ old, c.carrier = false) ∧ t.carrier = true then .carrier else .rfFault

theorem postStatusChange_fall (i : ScreenId) (old : Option ExciterStatus) (t : ExciterStatus) (s : State) :
    s.postStatusChange i old (some t) true false = s.post .soundLost (.sound i (fallCause old t)) := by
  have hcause : (if (!(match old with | some t => t.fault | none => false) && t.fault) = true then SoundCause.rfFault else .carrier) =
      fallCause old t := by
    unfold fallCause
    refine if_congr ?_ rfl rfl
    cases old <;> simp
  rw [← hcause]
  rfl

theorem postStatusChange_rise (i : ScreenId) (old : Option ExciterStatus) (t : ExciterStatus) (s : State) :
    s.postStatusChange i old (some t) false true = s.post .soundRestored (.sound i (riseCause old t)) := by
  have hcause : (if (!(match old with | some t => t.carrier | none => false) && t.carrier) = true then SoundCause.carrier else .rfFault) =
      riseCause old t := by
    unfold riseCause
    refine if_congr ?_ rfl rfl
    cases old <;> simp
  rw [← hcause]
  rfl

theorem postStatusChange_same (i : ScreenId) (old : Option ExciterStatus) (t : ExciterStatus) (b : Bool) (s : State) :
    s.postStatusChange i old (some t) b b = s := by
  cases b <;> rfl

/-- What a status taken leaves of a link: the status, and in UP the signal that follows it. -/
def Link.takeStatus (t : ExciterStatus) (k : Link) : Link :=
  { k with last := some t, soundUp := if k.state = .up then t.sound else k.soundUp }

section Taken

variable {i : ScreenId} {t : ExciterStatus} {s : State} {f : Link → Link}

theorem takeStatus_of_not_up (h : (f s.links[i]).state ≠ .up) :
    (s.modLink i f).takeStatus i t = { s with links := upd s.links i fun k => (f k).takeStatus t } := by
  have hself : ((s.modLink i f).modLink i fun k => { k with last := some t }).links[i] = { f s.links[i] with last := some t } := by
    rw [State.modLink_links, upd_get_self, State.modLink_links, upd_get_self]
  unfold State.takeStatus
  dsimp only
  rw [if_neg (by rw [hself]; exact h)]
  refine congrArg (fun v => ({ s with links := v } : State)) ((upd_upd s.links i f _).trans (upd_congr ?_))
  unfold Link.takeStatus
  rw [if_neg h]

/-- The status taken in UP: SOUND_UP derived anew behind the post that its change asks for. -/
theorem takeStatus_of_up (h : (f s.links[i]).state = .up) :
    (s.modLink i f).takeStatus i t = State.deriveSound i (s.withLinks (upd s.links i fun k => { f k with last := some t })
      (s.postStatusChange i (f s.links[i]).last (some t) (f s.links[i]).soundUp t.sound).ports) := by
  have hself : ((s.modLink i f).modLink i fun k => { k with last := some t }).links[i] = { f s.links[i] with last := some t } := by
    rw [State.modLink_links, upd_get_self, State.modLink_links, upd_get_self]
  have hfound : (s.modLink i f).links[i] = f s.links[i] := upd_get_self _ _ _
  have hlinks : ((s.modLink i f).modLink i fun k => { k with last := some t }) =
      s.withLinks (upd s.links i fun k => { f k with last := some t }) s.ports :=
    congrArg (fun v => ({ s with links := v } : State)) (upd_upd s.links i f _)
  have hpost (old new : Option ExciterStatus) (was now : Bool) (v : Vector Link 4) :
      (s.withLinks v s.ports).postStatusChange i old new was now = s.withLinks v (s.postStatusChange i old new was now).ports := by
    unfold State.postStatusChange
    dsimp only
    split
    · rfl
    · split <;> rfl
  have hderive : ({ f s.links[i] with last := some t } : Link).deriveSound = t.sound := Link.deriveSound_of_up h rfl
  unfold State.takeStatus
  dsimp only
  rw [if_pos (by rw [hself]; exact h), hself, hfound, hderive, hlinks, hpost]

/-- What a status taken in UP leaves, by the change of SOUND_UP. -/
theorem takeStatus_up (h : (f s.links[i]).state = .up) (hup : (f s.links[i]).soundUp = (s.links[i]).soundUp)
    (hlast : (f s.links[i]).last = (s.links[i]).last) : let u := (s.modLink i f).takeStatus i t
    u.links = (upd s.links i fun k => (f k).takeStatus t) ∧ s.portsKept u ∧
      ((s.links[i]).soundUp = t.sound → u = { s with links := u.links }) ∧
      ((s.links[i]).soundUp = true → t.sound = false → s.soundFell i (fallCause (s.links[i]).last t) u) ∧
      ((s.links[i]).soundUp = false → t.sound = true → s.soundRose i u ∧ s.flagsKeptBut [.soundRestored] u ∧
        s.flagPosted .soundRestored (.sound i (riseCause (s.links[i]).last t)) u) := by
  intro u
  have hu : u = _ := takeStatus_of_up (t := t) h
  rw [hup, hlast] at hu
  have hself : (upd s.links i fun k => { f k with last := some t })[i] = { f s.links[i] with last := some t } := upd_get_self _ _ _
  have hnow : ((upd s.links i fun k => { f k with last := some t })[i]).deriveSound = t.sound := by
    rw [hself]
    exact Link.deriveSound_of_up h rfl
  have hwas : ((upd s.links i fun k => { f k with last := some t })[i]).soundUp = (s.links[i]).soundUp := by
    rw [hself]
    exact hup
  have hlinks : u.links = upd s.links i fun k => (f k).takeStatus t := by
    rw [hu, withLinks_links, hnow]
    refine (upd_upd s.links i (fun k => { f k with last := some t }) fun k => { k with soundUp := t.sound }).trans (upd_congr ?_)
    unfold Link.takeStatus
    rw [if_pos h]
  have hposted : Posts [.soundLost, .soundRestored] s (s.postStatusChange i (s.links[i]).last (some t) (s.links[i]).soundUp t.sound) := by
    unfold State.postStatusChange
    exact posts_ite (fun _ => post_posts _ s (by simp)) fun _ => posts_ite (fun _ => post_posts _ s (by simp)) fun _ => .refl _ s
  refine ⟨hlinks, ?_, fun hsame => ?_, fun hw hn => ?_, fun hw hn => ?_⟩
  · have hposts : Posts [.soundLost, .soundRestored, .showHeld] s u := by
      rw [hu]
      exact (hposted.mono (by simp)).trans (.after ((deriveSound_posts i _).mono (by simp)) rfl)
    exact hposts.portsKept
  · rw [hsame, postStatusChange_same, withLinks_same (by rw [hnow, hwas, hsame])] at hu
    rw [hu]
    rfl
  · rw [hu, hw, hn, postStatusChange_fall]
    exact withLinks_fell (hwas.trans hw) (hnow.trans hn) rfl
  · rw [hw, hn, postStatusChange_rise] at hu
    obtain ⟨hrose, hports⟩ := withLinks_rose (s := s) (q := (s.post .soundRestored (.sound i (riseCause (s.links[i]).last t))).ports)
      (hwas.trans hw) (hnow.trans hn)
    have hafter : Posts [] (s.post .soundRestored (.sound i (riseCause (s.links[i]).last t))) u := .of_ports (by rw [hu]; exact hports)
    refine ⟨by rw [hu]; exact hrose, ?_, flagPosted_of_posts (.refl [] s) (by simp) hafter (by simp)⟩
    exact ((post_posts _ s (by simp)).trans (hafter.mono (by simp))).keptBut

end Taken

/-! ### The line free of a message (R146) -/

theorem modLink_modLink (i : ScreenId) (f g : Link → Link) (s : State) : (s.modLink i f).modLink i g = s.modLink i fun k => g (f k) :=
  congrArg (fun v => ({ s with links := v } : State)) (upd_upd s.links i f g)

/-- A message ended touches of a link only its control line. -/
theorem received_kept (c : Collector) (k : Link) :
    k.received c = { k with collector := c, leaving := (k.received c).leaving, waiting := (k.received c).waiting } := by
  obtain ⟨h, -⟩ | ⟨m, rest, -, -, -, h⟩ := release_cases { k with collector := c }
  · have hr : k.received c = { k with collector := c } := h
    rw [hr]
  · have hr : k.received c = { k with collector := c, leaving := some m, waiting := rest } := h
    rw [hr]

/-- With nothing being collected the first waiting message leaves a free line. -/
theorem received_idle (k : Link) : k.received .idle = match k.leaving, k.waiting with
    | none, m :: rest => { k with collector := .idle, leaving := some m, waiting := rest }
    | _, _ => { k with collector := .idle } := by
  unfold Link.received Link.release
  dsimp only [Link.receiving]
  cases hl : k.leaving with
  | some m => rfl
  | none => cases hw : k.waiting <;> rfl

/-! ### Acknowledgements (R147) -/

/-- The record of a link whose latest send is answered. -/
def Link.acked (number : Byte) (k : Link) : Link :=
  { k with latest := some (number, true), ackTimer := none, unanswered := 0, counts := { k.counts with valid := inc16 k.counts.valid } }

/-- The record of a link that a valid ACK has brought UP, SOUND_UP apart. -/
def Link.brought (number : Byte) (t : ExciterStatus) (k : Link) : Link :=
  { (k.received .idle).acked number with state := .up, last := some t }

theorem acked_kept (number : Byte) (k : Link) : ((k.received .idle).acked number).state = k.state ∧
    ((k.received .idle).acked number).soundUp = k.soundUp ∧ ((k.received .idle).acked number).last = k.last := by
  have h := received_kept .idle k
  unfold Link.acked
  rw [h]
  exact ⟨rfl, rfl, rfl⟩

theorem validAck_up {i : ScreenId} {number : Byte} {t : ExciterStatus} {s : State} (h : (s.links[i]).state = .up) :
    (s.modLink i (·.received .idle)).validAck i number t = (s.modLink i fun k => (k.received .idle).acked number).takeStatus i t := by
  have hfound : ((s.modLink i (·.received .idle)).links[i]).state = .up := by
    rw [State.modLink_links, upd_get_self, received_kept]
    exact h
  unfold State.validAck
  dsimp only
  rw [hfound, modLink_modLink]
  rfl

/-- A valid ACK in DOWN, and in LOST behind the post of its restoration. -/
theorem validAck_brings {i : ScreenId} {number : Byte} {t : ExciterStatus} {s : State} (h : (s.links[i]).state ≠ .up) :
    (s.modLink i (·.received .idle)).validAck i number t = (s.withLinks (upd s.links i (·.brought number t))
      (s.postIf ((s.links[i]).state = .lost) .soundRestored (.sound i .link)).ports).deriveSound i := by
  have hfound : ((s.modLink i (·.received .idle)).links[i]).state = (s.links[i]).state := by
    rw [State.modLink_links, upd_get_self, received_kept]
  unfold State.validAck
  dsimp only
  rw [hfound, modLink_modLink, modLink_modLink]
  cases hs : (s.links[i]).state with
  | up => exact absurd hs h
  | down => rfl
  | lost => rfl

/-- Settles O43. -/
theorem exciterAcks : Obligations.ExciterAcks := by
  unfold Obligations.ExciterAcks
  intro i heard number flags s k t sound freed answered
  have hexec : exec (.exciterAck ⟨i, heard⟩ number flags) s = .next (match (s.links[i]).collector.ends heard with
    | some (c, e) => if e = .ack number flags then (s.modLink i (·.received c)).takeAck i number t else s
    | none => s) := rfl
  have hfreed (k : Link) : k.received .idle = freed k := by
    rw [received_idle] <;> rfl
  refine ⟨fun hnone => ?_, fun hends => ?_⟩
  · rw [hexec]
    cases hends : (s.links[i]).collector.ends heard with
    | none => rfl
    | some x =>
      obtain ⟨c, e⟩ := x
      refine congrArg Host.Outcome.next (if_neg fun he => hnone c ?_)
      rw [← he]
      exact hends
  · have hends' : (s.links[i]).collector.ends heard = some (.idle, .ack number flags) := hends
    rw [hends'] at hexec
    dsimp only at hexec
    rw [if_pos rfl] at hexec
    have hlatest : ((s.modLink i (·.received .idle)).links[i]).latest = k.latest := by
      rw [State.modLink_links, upd_get_self, received_kept]
    refine ⟨fun hstale => ?_, fun hvalid => ?_⟩
    · rw [hexec, State.takeAck, if_neg (by rw [hlatest]; exact hstale), modLink_modLink]
      refine congrArg (fun v => Host.Outcome.next ({ s with links := v } : State)) (upd_congr ?_)
      rw [← hfreed, received_kept]
      rfl
    · rw [State.takeAck, if_pos (by rw [hlatest]; exact hvalid)] at hexec
      refine ⟨_, hexec, ?_⟩
      have hanswered : { (k.received .idle).acked number with state := .up, last := some t, soundUp := sound } = answered k := by
        have h : answered k = { k.received .idle with
            latest := some (number, true), ackTimer := none, unanswered := 0, state := .up, last := some t, soundUp := sound
            counts := { k.counts with valid := inc16 k.counts.valid } } := by rw [hfreed]
        rw [h, received_kept]
        rfl
      obtain ⟨hkstate, hkup, hklast⟩ := acked_kept number k
      by_cases hup : k.state = .up
      · obtain ⟨hlinks, hports, hsame, hfell, hrose⟩ := takeStatus_up (t := t) (f := fun k => (k.received .idle).acked number)
          (hkstate.trans hup) hkup hklast
        rw [validAck_up hup]
        have hother {x : LinkState} {P : Prop} (hx : x ≠ .up) (h : k.state = x) : P := absurd (h.symm.trans hup) hx
        refine ⟨hlinks.trans (upd_congr ?_), hports, hother (by decide), hother (by decide), fun _ => hsame, fun hf hn => ?_, fun _ => hfell,
          fun _ hf hn => (hrose hf hn).2, fun hf hn => (hrose hf hn).1⟩
        · rw [Link.takeStatus, if_pos (hkstate.trans hup)]
          refine .trans ?_ hanswered
          exact congrArg (fun st => { (k.received .idle).acked number with state := st, last := some t, soundUp := sound }) (hkstate.trans hup)
        · have hw := hsame (hf.trans hn.symm)
          have hp := congrArg State.ports hw
          rw [hp]
          exact hw
      · let L := upd s.links i (·.brought number t)
        let Q := (s.postIf (k.state = .lost) .soundRestored (.sound i .link)).ports
        have hself : L[i] = k.brought number t := upd_get_self _ _ _
        have hnow : (L[i]).deriveSound = sound := by
          rw [hself]
          exact Link.deriveSound_of_up rfl rfl
        have hwas : (L[i]).soundUp = k.soundUp := by
          rw [hself]
          exact hkup
        have hposts : Posts [.soundRestored] s (s.withLinks L Q) := by
          refine .trans ?_ (.of_ports (s := s.postIf (k.state = .lost) .soundRestored (.sound i .link)) rfl)
          exact posts_ite (fun _ => post_posts _ s (by simp)) fun _ => .refl _ s
        have hderived := deriveSound_posts i (s.withLinks L Q)
        have hplain (hf : k.soundUp = false) : ((s.withLinks L Q).deriveSound i).ports = Q := by
          cases hsound : sound with
          | false => rw [withLinks_same (by rw [hnow, hwas, hf, hsound])]; rfl
          | true => exact (withLinks_rose (hwas.trans hf) (hnow.trans hsound)).2
        have hup' {P : Prop} (h : k.state = .up) : P := absurd h hup
        rw [validAck_brings hup]
        refine ⟨?_, ((hposts.mono (by simp)).trans (hderived.mono (by simp)) : Posts [.soundRestored, .showHeld] s _).portsKept,
          fun hl hf => ⟨?_, ?_⟩, fun hd hf => ?_, hup', fun hf hn => ?_, hup', hup', fun hf hn => (withLinks_rose (hwas.trans hf) (hnow.trans hn)).1⟩
        · rw [withLinks_links, hnow]
          exact (upd_upd s.links i (·.brought number t) fun k => { k with soundUp := sound }).trans (upd_congr hanswered)
        · have hlost : Q = (s.post .soundRestored (.sound i .link)).ports := congrArg State.ports (if_pos (decide_eq_true hl))
          exact flagPosted_of_posts (.refl [] s) (by simp) (ls := []) (.of_ports ((hplain hf).trans hlost)) (by simp)
        · exact (hposts.trans ((Posts.of_ports (hplain hf)).mono (List.nil_subset _))).keptBut
        · have hdown : Q = s.ports := by
            have hnot : k.state ≠ .lost := by rw [hd]; decide
            exact congrArg State.ports (if_neg (by rw [decide_eq_false hnot]; exact Bool.false_ne_true))
          exact (Posts.of_ports (ks := []) ((hplain hf).trans hdown)).keptBut
        · rw [withLinks_same (by rw [hnow, hwas, hf, hn])]
          rfl

end Sys2Proof.Machine

/-! The timers and messages of the exciter links (O44). -/

namespace Sys2Proof.Machine

/-! ### The control line (R146) -/

/-- A message made by the part touches of its link only what leaves and what waits. -/
theorem emit_kept (m : LineMessage) (k : Link) :
    k.emit m = { k with leaving := (k.emit m).leaving, waiting := (k.emit m).waiting } := by
  obtain ⟨-, -, -, h⟩ | ⟨-, h⟩ := emit_cases m k
  · rw [h]
  · rw [h]

/-- A count of the link does not matter to a message made by the part. -/
theorem emit_count (f : LinkCounts → LinkCounts) (m : LineMessage) (k : Link) : (k.emit m).count f = (k.count f).emit m :=
  apply_ite (Link.count f) _ _ _

/-- The record of a link with a status received and answered, the status itself apart (R150). -/
def Link.statused (number : Byte) (k : Link) : Link :=
  ((k.received .idle).emit (.statusAck number)).count fun c => { c with statuses := inc16 c.statuses }

theorem statused_kept (number : Byte) (k : Link) :
    (k.statused number).state = k.state ∧ (k.statused number).soundUp = k.soundUp ∧ (k.statused number).last = k.last := by
  have h := received_kept .idle k
  unfold Link.statused
  rw [emit_kept, h]
  exact ⟨rfl, rfl, rfl⟩

/-- A link declared lost, over a link as some of its inputs have left it. -/
theorem loseLink_modLink {i : ScreenId} {f : Link → Link} {s : State} (hf : (f s.links[i]).soundUp = (s.links[i]).soundUp) :
    ((s.modLink i f).loseLink i).links = (upd s.links i fun k => (f k).lose) ∧ s.linkLost i ((s.modLink i f).loseLink i) ∧
      s.portsKept ((s.modLink i f).loseLink i) := by
  have hself : (s.modLink i f).links[i] = f s.links[i] := upd_get_self _ _ _
  refine ⟨(loseLink_links i _).trans (upd_upd s.links i f Link.lose), ?_, ?_⟩
  · exact linkLost_congr (l := (s.modLink i f).links) (q := s.ports) (u := (s.modLink i f).loseLink i)
      (l' := ((s.modLink i f).loseLink i).links) (q' := ((s.modLink i f).loseLink i).ports) (by rw [hself]; exact hf) (fun _ _ => rfl)
      (fun _ _ => rfl) loseLink_lost
  · exact ((loseLink_posts i (s.modLink i f)).after rfl).portsKept

/-- The ack timer's expiry over a link as some of its inputs have left it. -/
theorem ackExpiry_hear {i : ScreenId} {heard : List LineInput} {s : State} (h : (s.links[i]).ackTimer ≠ none) :
    (s.modLink i (·.hear heard)).ackExpiry i =
      let t := s.modLink i fun k => { k.hear heard with ackTimer := none }
      if (s.links[i]).state = .up then
        if (s.links[i]).unanswered < 4 then t.modLink i fun k => k.makeSend.count fun c => { c with retries := inc16 c.retries }
        else t.loseLink i
      else t := by
  have hself : (s.modLink i (·.hear heard)).links[i] = (s.links[i]).hear heard := upd_get_self _ _ _
  have hrunning : ¬((s.links[i]).hear heard).ackTimer.isNone = true := by
    rw [Option.isNone_iff_eq_none]
    exact h
  have hstopped : (s.modLink i (·.hear heard)).modLink i (fun k => { k with ackTimer := none }) =
      s.modLink i fun k => { k.hear heard with ackTimer := none } := modLink_modLink i _ _ s
  unfold State.ackExpiry
  dsimp only
  rw [hself, if_neg hrunning, hstopped, hear_state, hear_unanswered]

/-! ### Collection of the exciter's messages (R201) -/

section Collection

variable {c d : Collector} {x : LineInput} {xs : List LineInput}

theorem ends_cons_of_none (h : c.take x = (d, none)) : c.ends (x :: xs) = d.ends xs := by
  rw [Collector.ends, h]

theorem hear_cons_of_none (h : c.take x = (d, none)) : c.hear (x :: xs) = d.hear xs := by
  rw [Collector.hear, h]

/-- What an input leaves that ends nothing by itself. -/
theorem take_of_ends_none (h : c.ends [x] = none) : ∃ d, c.take x = (d, none) := by
  rw [Collector.ends] at h
  cases ht : c.take x with
  | mk d m =>
    cases m with
    | none => exact ⟨d, rfl⟩
    | some m => rw [ht] at h; contradiction

/-- What is heard in parts is collected as one, where the first part ends no message. -/
theorem collector_append (first later : List LineInput) (c : Collector) (h : ∀ before, before <+: first → c.ends before = none) :
    c.ends (first ++ later) = (c.hear first).ends later ∧ c.hear (first ++ later) = (c.hear first).hear later := by
  induction first generalizing c with
  | nil => exact ⟨rfl, rfl⟩
  | cons x xs ih =>
    obtain ⟨d, hd⟩ := take_of_ends_none (h [x] (List.prefix_append [x] xs))
    have hrest := ih d fun before hb => by
      rw [← ends_cons_of_none hd]
      exact h _ ((List.prefix_cons_inj x).mpr hb)
    rw [List.cons_append, ends_cons_of_none hd, hear_cons_of_none hd, hear_cons_of_none hd]
    exact hrest

/-- Inputs other than a start byte are passed over while nothing is collected. -/
theorem idle_junk {junk : List LineInput} (h : ∀ x ∈ junk, x ≠ .byte 0xE7#8) (later : List LineInput) :
    Collector.idle.ends (junk ++ later) = Collector.idle.ends later ∧ Collector.idle.hear (junk ++ later) = Collector.idle.hear later := by
  induction junk with
  | nil => exact ⟨rfl, rfl⟩
  | cons x xs ih =>
    have htake : Collector.idle.take x = (.idle, none) := by
      cases x with
      | silence => rfl
      | byte b =>
        have hb : b ≠ 0xE7#8 := fun hb => h (.byte b) (by simp) (by rw [hb])
        rw [Collector.take, if_neg hb]
    rw [List.cons_append, ends_cons_of_none htake, hear_cons_of_none htake]
    exact ih fun y hy => h y (List.mem_cons_of_mem x hy)

/-- With a message of an unknown kind abandoned, bytes are ignored. -/
theorem ignoring_bytes (bytes : List Byte) (later : List LineInput) :
    Collector.ignoring.ends (bytes.map .byte ++ later) = Collector.ignoring.ends later ∧
      Collector.ignoring.hear (bytes.map .byte ++ later) = Collector.ignoring.hear later := by
  induction bytes with
  | nil => exact ⟨rfl, rfl⟩
  | cons b bs ih =>
    have htake : Collector.ignoring.take (.byte b) = (.ignoring, none) := rfl
    rw [List.map_cons, List.cons_append, ends_cons_of_none htake, hear_cons_of_none htake]
    exact ih

theorem exciterMessage_of_check {kind number flags hi lo : Byte} (hkind : kind = 0x90#8 ∨ kind = 0x91#8)
    (h : checkBytes [kind, number, flags] = [hi, lo]) : exciterMessage [kind, number, flags, hi, lo] =
      if kind = 0x90#8 then .ack number flags else .status number flags := by
  rw [exciterMessage, checkAgrees, h, if_pos (beq_self_eq_true _)]
  obtain rfl | rfl := hkind
  · rfl
  · rfl

theorem exciterMessage_of_not_check {kind number flags hi lo : Byte} (h : checkBytes [kind, number, flags] ≠ [hi, lo]) :
    exciterMessage [kind, number, flags, hi, lo] = .bad := by
  rw [exciterMessage, checkAgrees, beq_eq_false_iff_ne.mpr h, if_neg Bool.false_ne_true]

/-- A message of five bytes, heard while nothing is collected. -/
theorem idle_ends_message {kind : Byte} (hkind : kind = 0x90#8 ∨ kind = 0x91#8) (number flags hi lo : Byte) :
    Collector.idle.ends ((0xE7#8 :: [kind, number, flags, hi, lo]).map .byte) =
      some (.idle, exciterMessage [kind, number, flags, hi, lo]) := by
  obtain rfl | rfl := hkind
  · rfl
  · rfl

/-- The part of a message of a known kind before its last byte: collected, and damaged by a silence. -/
theorem idle_message_part {kind : Byte} (hkind : kind = 0x90#8 ∨ kind = 0x91#8) (number flags hi lo : Byte) {n : ℕ} (hn : n ≤ 4) :
    let part := (0xE7#8 :: [kind, number, flags, hi, lo].take n).map LineInput.byte
    Collector.idle.hear part = .collecting ([kind, number, flags, hi, lo].take n) ∧
      Collector.idle.ends (part ++ [.silence]) = some (.idle, .bad) := by
  have hn' : n = 0 ∨ n = 1 ∨ n = 2 ∨ n = 3 ∨ n = 4 := by omega
  obtain rfl | rfl := hkind
  all_goals
    obtain rfl | rfl | rfl | rfl | rfl := hn'
    all_goals exact ⟨rfl, rfl⟩

theorem idle_ends_unknown {kind : Byte} (h : ¬(kind = 0x90#8 ∨ kind = 0x91#8)) :
    Collector.idle.ends ((0xE7#8 :: [kind]).map .byte) = some (.ignoring, .bad) := by
  have hstart : Collector.idle.take (.byte 0xE7#8) = (.collecting [], none) := rfl
  have hkind : (Collector.collecting []).take (.byte kind) = (.ignoring, some .bad) := by
    rw [not_or] at h
    have hunknown : exciterKind kind = false := by
      rw [exciterKind, beq_eq_false_iff_ne.mpr h.1, beq_eq_false_iff_ne.mpr h.2, Bool.or_false]
    rw [Collector.take, hunknown]
    rfl
  rw [List.map_cons, ends_cons_of_none hstart, List.map_cons, List.map_nil, Collector.ends, hkind]
  rfl

end Collection

/-- Settles O44. -/
theorem linkTimersAndMessages : Obligations.LinkTimersAndMessages := by
  unfold Obligations.LinkTimersAndMessages
  refine ⟨?_, ?_, fun bytes => ?_, fun c first later h => collector_append first later c h⟩
  · intro i number flags heard s k t sound hears quiet queued next latest retry statusTaken
    have hqueued (m : LineMessage) (k : Link) : queued m k = k.emit m := by
      have hiff : (k.leaving = none ∧ quiet k = true ∧ k.waiting = []) ↔ k.leaving = none ∧ k.receiving = false ∧ k.waiting = [] :=
        and_congr_right fun _ => and_congr_left' (quiet_iff k)
      obtain ⟨hl, hr, hw, he⟩ | ⟨hbusy, he⟩ := emit_cases m k
      · exact (if_pos (hiff.mpr ⟨hl, hr, hw⟩)).trans he.symm
      · refine (if_neg fun hfree => ?_).trans he.symm
        obtain ⟨hl, hr, hw⟩ := hiff.mp hfree
        obtain h | h | h := hbusy
        · exact h hl
        · exact absurd (hr.symm.trans h) Bool.false_ne_true
        · exact h hw
    have hnext (k : Link) : next k = k.release := by
      have hiff : (k.leaving = none ∧ quiet k = true) ↔ k.leaving = none ∧ k.receiving = false := and_congr_right fun _ => quiet_iff k
      obtain ⟨he, hbusy⟩ | ⟨m, rest, hl, hr, hw, he⟩ := release_cases k
      · rw [he]
        obtain ⟨_, _, _, _, _, _, _, _, _, _, _, waiting, _⟩ := k
        cases waiting with
        | nil => rfl
        | cons m rest =>
          refine if_neg fun hfree => ?_
          obtain ⟨hl, hr⟩ := hiff.mp hfree
          obtain h | h | h := hbusy
          · exact h hl
          · exact absurd (hr.symm.trans h) Bool.false_ne_true
          · contradiction
      · rw [he]
        obtain ⟨_, _, _, _, _, _, _, _, _, _, _, waiting, _⟩ := k
        have hwaiting : waiting = m :: rest := hw
        subst hwaiting
        exact if_pos (hiff.mpr ⟨hl, hr⟩)
    have hretry (k : Link) (h : k.state = .up) : retry k = k.makeSend.count fun c => { c with retries := inc16 c.retries } := by
      have hsend : k.makeSend = k.sent.emit (.settings k.nextSend k.settings) := rfl
      rw [hsend, emit_count]
      refine (hqueued _ _).trans (congrArg (Link.emit _) ?_)
      rw [Link.sent, if_pos h]
      rfl
    have hstatus (k : Link) : statusTaken k = (k.statused number).takeStatus t := by
      have hbefore : queued (.statusAck number) (next { k with collector := .idle }) = (k.received .idle).emit (.statusAck number) := by
        rw [hqueued, hnext]
        rfl
      have htaken : statusTaken k = _ := congrArg (fun k => ({ k with
        last := some t, soundUp := if k.state = .up then sound else k.soundUp
        counts := { k.counts with statuses := inc16 k.counts.statuses } } : Link)) hbefore
      rw [htaken]
      rfl
    have hack : exec (.ackTimerExpiry i heard) s = .next (if (s.links[i]).ackTimer.isSome then (s.modLink i (·.hear heard)).ackExpiry i else s) :=
      rfl
    have hstatusRow : exec (.exciterStatus ⟨i, heard⟩ number flags) s = .next (match (s.links[i]).collector.ends heard with
      | some (c, e) => if e = .status number flags then (s.modLink i (·.received c)).takeStatusMessage i number t else s
      | none => s) := rfl
    have hbadRow : exec (.exciterBadMessage ⟨i, heard⟩) s = .next (match (s.links[i]).collector.ends heard with
      | some (c, .bad) => s.modLink i (·.badMessage c)
      | _ => s) := rfl
    have hsettingsRow : exec (.settingsSendEnd ⟨i, heard⟩) s = .next (match (s.links[i]).leaving with
      | some (.settings _ _) => s.modLink i fun k => (k.hear heard).settingsSendEnd
      | _ => s) := rfl
    have hackRow : exec (.statusAckSendEnd ⟨i, heard⟩) s = .next (match (s.links[i]).leaving with
      | some (.statusAck _) => s.modLink i fun k => (k.hear heard).statusAckSendEnd
      | _ => s) := rfl
    refine ⟨fun ht => ?_, fun ht => ⟨fun hup hfew => ?_, fun hup hmany => ?_, fun hdown => ?_⟩, fun hnone => ?_, fun hends => ?_,
      fun hnone => ?_, fun c hends => ?_, fun hnone => ?_, fun n e hleaving => ?_, fun hnone => ?_, fun n hleaving => ?_⟩
    · rw [hack, show (s.links[i]).ackTimer = none from ht]
      rfl
    · rw [hack, if_pos (Option.isSome_iff_ne_none.mpr ht), ackExpiry_hear ht]
      dsimp only
      rw [if_pos hup, if_pos hfew, modLink_modLink]
      refine congrArg (fun v => Host.Outcome.next ({ s with links := v } : State)) (upd_congr ?_)
      exact (hretry { k.hear heard with ackTimer := none } hup).symm
    · obtain ⟨hlinks, hlost, hkept⟩ := loseLink_modLink (i := i) (s := s) (f := fun k => { k.hear heard with ackTimer := none }) rfl
      refine ⟨_, hack.trans ?_, hkept, hlost, hlinks⟩
      rw [if_pos (Option.isSome_iff_ne_none.mpr ht), ackExpiry_hear ht]
      dsimp only
      rw [if_pos hup, if_neg (Nat.not_lt.mpr hmany)]
    · rw [hack, if_pos (Option.isSome_iff_ne_none.mpr ht), ackExpiry_hear ht]
      dsimp only
      rw [if_neg hdown]
      rfl
    · cases hends : (s.links[i]).collector.ends heard with
      | none => exact hstatusRow.trans (by rw [hends])
      | some x =>
        obtain ⟨c, e⟩ := x
        refine hstatusRow.trans ?_
        rw [hends]
        refine congrArg Host.Outcome.next (if_neg fun he => hnone c ?_)
        rw [← he]
        exact hends
    · have hends' : (s.links[i]).collector.ends heard = some (.idle, .status number flags) := hends
      have hrow : exec (.exciterStatus ⟨i, heard⟩ number flags) s = .next ((s.modLink i (·.statused number)).takeStatus i t) := by
        refine hstatusRow.trans ?_
        rw [hends']
        dsimp only
        rw [if_pos rfl, State.takeStatusMessage, modLink_modLink]
        rfl
      obtain ⟨hstate, hsound, hlast⟩ := statused_kept number k
      have hlinksOf : (upd s.links i fun k => (k.statused number).takeStatus t) = upd s.links i statusTaken := upd_congr (hstatus k).symm
      by_cases hup : k.state = .up
      · obtain ⟨hlinks, hports, hsame, hfell, hrose⟩ := takeStatus_up (t := t) (f := (·.statused number)) (hstate.trans hup) hsound hlast
        refine ⟨_, hrow, hlinks.trans hlinksOf, hports, fun h => hsame ?_, fun _ => hfell, fun _ => hrose⟩
        exact h.resolve_left fun hnot => hnot hup
      · have htaken := takeStatus_of_not_up (i := i) (t := t) (s := s) (f := (·.statused number)) (fun h => hup (hstate.symm.trans h))
        rw [htaken] at hrow
        exact ⟨_, hrow, hlinksOf, (Posts.of_ports (ks := []) rfl).portsKept, fun _ => rfl, fun h => absurd h hup, fun h => absurd h hup⟩
    · cases hends : (s.links[i]).collector.ends heard with
      | none => exact hbadRow.trans (by rw [hends])
      | some x =>
        obtain ⟨c, e⟩ := x
        refine hbadRow.trans ?_
        rw [hends]
        cases e with
        | bad => exact absurd hends (hnone c)
        | ack n f => rfl
        | status n f => rfl
    · have hends' : (s.links[i]).collector.ends heard = some (c, .bad) := hends
      refine hbadRow.trans ?_
      rw [hends']
      refine congrArg (fun v => Host.Outcome.next ({ s with links := v } : State)) (upd_congr ?_)
      rw [hnext]
      have hcounts : (k.received c).counts = k.counts := by rw [received_kept]
      exact congrArg (fun n => ({ k.received c with counts := { n with bad := inc16 n.bad } } : Link)) hcounts
    · cases hl : (s.links[i]).leaving with
      | none => exact hsettingsRow.trans (by rw [hl])
      | some m =>
        refine hsettingsRow.trans ?_
        rw [hl]
        cases m with
        | settings n e => exact absurd hl (hnone n e)
        | statusAck n => rfl
    · have hl : (s.links[i]).leaving = some (.settings n e) := hleaving
      refine hsettingsRow.trans ?_
      rw [hl]
      refine congrArg (fun v => Host.Outcome.next ({ s with links := v } : State)) (upd_congr ?_)
      rw [hnext, Link.settingsSendEnd, hear_leaving, hl]
      rfl
    · cases hl : (s.links[i]).leaving with
      | none => exact hackRow.trans (by rw [hl])
      | some m =>
        refine hackRow.trans ?_
        rw [hl]
        cases m with
        | statusAck n => exact absurd hl (hnone n)
        | settings n e => rfl
    · have hl : (s.links[i]).leaving = some (.statusAck n) := hleaving
      refine hackRow.trans ?_
      rw [hl]
      refine congrArg (fun v => Host.Outcome.next ({ s with links := v } : State)) (upd_congr ?_)
      rw [hnext, Link.statusAckSendEnd, hear_leaving, hl]
      rfl
  · intro junk kind number flags hi lo hjunk sent known body
    have hsent (bytes : List Byte) : Collector.idle.ends (sent bytes) = Collector.idle.ends ((0xE7#8 :: bytes).map .byte) ∧
        Collector.idle.hear (sent bytes) = Collector.idle.hear ((0xE7#8 :: bytes).map .byte) := idle_junk hjunk _
    have halone := idle_junk hjunk []
    rw [List.append_nil] at halone
    refine ⟨halone.1, halone.2, fun hk hc => ?_, fun hk hc => ?_, fun hk n hn => ⟨?_, ?_⟩, fun hk => ?_⟩
    · exact (hsent _).1.trans ((idle_ends_message hk number flags hi lo).trans (by rw [exciterMessage_of_check hk hc]))
    · exact (hsent _).1.trans ((idle_ends_message hk number flags hi lo).trans (by rw [exciterMessage_of_not_check hc]))
    · exact (hsent _).2.trans (idle_message_part hk number flags hi lo hn).1
    · have hjoined : sent ((body ++ [hi, lo]).take n) ++ [.silence] =
          junk ++ ((0xE7#8 :: (body ++ [hi, lo]).take n).map LineInput.byte ++ [.silence]) := List.append_assoc ..
      rw [hjoined, (idle_junk hjunk _).1]
      exact (idle_message_part hk number flags hi lo hn).2
    · exact (hsent _).1.trans (idle_ends_unknown hk)
  · have hpart := ignoring_bytes bytes []
    rw [List.append_nil] at hpart
    exact ⟨hpart.2, hpart.1, (ignoring_bytes bytes [.silence]).2⟩

end Sys2Proof.Machine

/-! The opening of a call window, the start of a call and the clip reader (O41). -/

namespace Sys2Proof.Machine

/-! ### Requests of the clip reader renewed (R141) -/

/-- Whether a call has a request outstanding, or a free buffer place and blocks not yet asked for. -/
def Playing.asks (q : Playing) : Bool := q.readPending || decide (q.buffer.length < 2 ∧ q.nextRead < totalBlocks q.sequence)

theorem Playing.ask_free (q : Playing) : q.ask false = { q with readPending := q.asks } := by
  obtain ⟨entry, sequence, duck, level, lead, block, sample, skipping, buffer, nextRead, readPending⟩ := q
  unfold Playing.ask Playing.asks
  cases readPending with
  | true => rfl
  | false =>
    rw [Bool.decide_and]
    cases decide (buffer.length < 2) with
    | false => rfl
    | true => cases decide (nextRead < totalBlocks sequence) <;> rfl

/-- Every screen's request renewed. -/
def State.renewReads (s : State) : State := (((s.askRead 0).askRead 1).askRead 2).askRead 3

theorem renewReads_get {s : State} (h : s.reader.inFlight = none) (j : ScreenId) :
    s.renewReads.calls[j] = { s.calls[j] with slot := (s.calls[j]).slot.map fun q => { q with readPending := q.asks } } := by
  have hserves (i : ScreenId) : s.reader.serves i = false := by
    unfold ClipReader.serves
    rw [h]
  have hcalls : s.renewReads.calls = Vector.ofFn fun i => { s.calls[i] with slot := (s.calls[i]).slot.map (·.ask (s.reader.serves i)) } :=
    upd_four s.calls fun i c => { c with slot := c.slot.map (·.ask (s.reader.serves i)) }
  have hget : s.renewReads.calls[j] = { s.calls[j] with slot := (s.calls[j]).slot.map (·.ask (s.reader.serves j)) } := by
    rw [hcalls]
    simp
  rw [hget, hserves]
  exact congrArg (fun g : Playing → Playing => ({ s.calls[j] with slot := (s.calls[j]).slot.map g } : CallUnit)) (funext Playing.ask_free)

theorem renewReads_wanted {s : State} (h : s.reader.inFlight = none) (j : ScreenId) :
    s.renewReads.readWanted j = (s.calls[j]).slot.any Playing.asks := by
  unfold State.readWanted
  rw [renewReads_get h]
  cases (s.calls[j]).slot <;> rfl

/-! ### The grant (R141) -/

/-- The block of a call that stands at a place of one of its clips. -/
theorem blockAt_append {x : SeqClip} {n : Nat} (before after : List SeqClip) (h : n < x.clip.blocks) :
    blockAt (before ++ x :: after) (totalBlocks before + n) = some (x.clip.start + 480 * n, min 240 (x.clip.length - 240 * n)) := by
  induction before with
  | nil =>
    rw [List.nil_append, blockAt, totalBlocks, List.map_nil, List.sum_nil, Nat.zero_add, if_pos h]
  | cons y ys ih =>
    have hsum : totalBlocks (y :: ys) = y.clip.blocks + totalBlocks ys := rfl
    rw [List.cons_append, blockAt, if_neg (by omega)]
    refine .trans (congrArg (blockAt (ys ++ x :: after)) ?_) ih
    omega

theorem screen_cases (k : ScreenId) : k = 0 ∨ k = 1 ∨ k = 2 ∨ k = 3 := by
  revert k
  decide

theorem round_places (l : ScreenId) : l + 1 + 0 = l + 1 ∧ l + 1 + 1 = l + 2 ∧ l + 1 + 2 = l + 3 ∧ l + 1 + 3 = l := by
  revert l
  decide

/-- The first screen that asks, in the round after the one last served. -/
theorem find?_round {P : ScreenId → Bool} {l k : ScreenId} (hbefore : ∀ m < k, P (l + 1 + m) = false) (hk : P (l + 1 + k) = true) :
    [l + 1, l + 2, l + 3, l].find? P = some (l + 1 + k) := by
  obtain ⟨h0, h1, h2, h3⟩ := round_places l
  have first : 0 < k → P (l + 1) = false := fun h => h0 ▸ hbefore 0 h
  have second : 1 < k → P (l + 2) = false := fun h => h1 ▸ hbefore 1 h
  have third : 2 < k → P (l + 3) = false := fun h => h2 ▸ hbefore 2 h
  obtain rfl | rfl | rfl | rfl := screen_cases k
  · rw [h0] at hk ⊢
    rw [List.find?_cons, hk]
  · rw [h1] at hk ⊢
    rw [List.find?_cons, first (by decide), List.find?_cons, hk]
  · rw [h2] at hk ⊢
    rw [List.find?_cons, first (by decide), List.find?_cons, second (by decide), List.find?_cons, hk]
  · rw [h3] at hk ⊢
    rw [List.find?_cons, first (by decide), List.find?_cons, second (by decide), List.find?_cons, third (by decide), List.find?_cons, hk]

/-- A read in flight after a grant is that of a live call, whose next block follows it. -/
theorem grantRead_inFlight {s : State} {f : ClipRead} (hfree : s.reader.inFlight = none) (h : s.grantRead.reader.inFlight = some f) :
    f.live = true ∧ ∃ q, (s.grantRead.calls[f.screen]).slot = some q ∧ q.nextRead = f.index + 1 := by
  have kept {P : Prop} (hs : s.reader.inFlight = some f) : P := absurd (hfree.symm.trans hs) (by simp)
  have granted (i : ScreenId) (hg : (s.grant i).reader.inFlight = some f) :
      f.live = true ∧ ∃ q, ((s.grant i).calls[f.screen]).slot = some q ∧ q.nextRead = f.index + 1 := by
    unfold State.grant at hg ⊢
    split at hg
    · exact kept hg
    · next p hp =>
      split at hg
      · exact kept hg
      · next start count hb =>
        cases hg
        refine ⟨rfl, { p with readPending := false, nextRead := p.nextRead + 1 }, ?_, rfl⟩
        exact congrArg CallUnit.slot (upd_get_self _ _ _)
  unfold State.grantRead at h ⊢
  split at h
  · exact kept h
  · next hc =>
    rw [if_neg hc]
    split at h
    · next i hi => exact granted i h
    · exact kept h

theorem grantRead_of_reading {s : State} (h : s.dir.reading = true) : s.grantRead = s := by
  unfold State.grantRead
  rw [h, Bool.or_true, if_pos rfl]

theorem grantRead_of_none {s : State} (h : ∀ j : ScreenId, s.readWanted j = false) : s.grantRead = s := by
  have hfind : [s.reader.last + 1, s.reader.last + 2, s.reader.last + 3, s.reader.last].find? (fun i => s.readWanted i) = none :=
    List.find?_eq_none.mpr fun j _ => by rw [h j]; exact Bool.false_ne_true
  unfold State.grantRead
  rw [hfind]
  split <;> rfl

theorem grantRead_of_some {s : State} {k : ScreenId} (hfree : s.reader.inFlight = none) (hdir : s.dir.reading = false)
    (hbefore : ∀ m < k, s.readWanted (s.reader.last + 1 + m) = false) (hk : s.readWanted (s.reader.last + 1 + k) = true) :
    s.grantRead = s.grant (s.reader.last + 1 + k) := by
  unfold State.grantRead
  rw [hfree, hdir, find?_round (P := fun i => s.readWanted i) hbefore hk]
  rfl

theorem CallUnit.sameButReads.slot_none_iff {c u : CallUnit} (h : c.sameButReads u) : u.slot = none ↔ c.slot = none := by
  obtain ⟨-, hnone, hsome⟩ := h
  refine ⟨fun hu => ?_, hnone⟩
  cases hc : c.slot with
  | none => rfl
  | some q =>
    obtain ⟨_, _, hq⟩ := hsome q hc
    exact absurd (hq.symm.trans hu) (by simp)

/-! ### A completed read (R141) -/

/-- The call in a slot as a completed read leaves it. -/
def Playing.delivered (f : ClipRead) (samples : List Sample) (j : ScreenId) (q : Playing) : Playing :=
  if j = f.screen ∧ f.live = true ∧ (q.block < f.index ∨ (q.block = f.index ∧ q.skipping = false)) then
    { q with buffer := q.buffer ++ [{ index := f.index, samples := samples }] }
  else q

theorem deliver_get (f : ClipRead) (samples : List Sample) (j : ScreenId) (s : State) :
    (s.deliver f samples).calls[j] = { s.calls[j] with slot := (s.calls[j]).slot.map (·.delivered f samples j) } := by
  have hwants (q : Playing) : (f.live && q.wants f.index) = true ↔
      f.live = true ∧ (q.block < f.index ∨ (q.block = f.index ∧ q.skipping = false)) := by
    unfold Playing.wants
    simp
  by_cases hj : j = f.screen
  · subst hj
    have hmap : (fun q : Playing => if (f.live && q.wants f.index) = true then
          { q with buffer := q.buffer ++ [{ index := f.index, samples := samples }] } else q) = (·.delivered f samples f.screen) :=
      funext fun q => if_congr ((hwants q).trans (and_iff_right rfl).symm) rfl rfl
    rw [State.deliver, modCalls_get_self, hmap]
  · have hmap : (fun q : Playing => q.delivered f samples j) = id := funext fun q => if_neg fun h => hj h.1
    rw [State.deliver, modCalls_get_ne hj, hmap, Option.map_id]
    rfl

/-- The part once a read has completed, the requests it leaves ungranted. -/
theorem readComplete_eq {f : ClipRead} {bytes : List Byte} {s : State} (hf : s.reader.inFlight = some f) (hb : bytes.length = 2 * f.count) :
    s.readComplete bytes = ((s.modReader fun r => { r with inFlight := none }).deliver f (samplesOf bytes)).renewReads.grantRead := by
  unfold State.readComplete
  rw [hf]
  exact if_pos hb

/-! ### A call whose sequence is empty (R135, log 16) -/

theorem owedNow_of_none {s : State} (i : ScreenId) (h : ∀ o ∈ s.orders.table, o.owed = false) : s.owedNow i = [] := by
  have hfilter : s.orders.shelf.filter (s.owes i) = [] := by
    refine List.filter_eq_nil_iff.mpr fun n _ => ?_
    unfold State.owes
    cases ho : s.order? n with
    | none => exact Bool.false_ne_true
    | some o =>
      have hmem : o ∈ s.orders.table := List.mem_of_find?_eq_some ho
      rw [Option.any_some, h o hmem]
      exact Bool.false_ne_true
  exact congrArg List.eraseDups hfilter

theorem owedFill_of_none {s : State} {i : ScreenId} (h : s.owedNow i = []) : s.owedFill i = s := by
  have hcalls : (upd s.calls i fun c => { c with queue := c.queue ++ ([] : List Nat).map CallEntry.orderCall }) = s.calls :=
    upd_eq_self (by rw [List.map_nil, List.append_nil])
  rw [owedFill_eq, h, List.take_nil, hcalls, OrderUnit.unowed_nil]

theorem reportPlayed_owed {e : CallEntry} {s : State} (h : ∀ o ∈ s.orders.table, o.owed = false) :
    ∀ o ∈ (s.reportPlayed e).orders.table, o.owed = false := by
  cases e with
  | announce clips => exact h
  | orderCall n =>
    intro o ho
    obtain ⟨r, hr, rfl⟩ := List.mem_map.mp ho
    split
    · dsimp only
      split
      · exact h r hr
      · exact h r hr
    · exact h r hr

/-- With no order owed, a head call alone in the queue whose sequence is empty ends at once. -/
theorem startScreen_of_empty {i : ScreenId} {e : CallEntry} {s : State} (hr : s.ready i) (hq : (s.calls[i]).queue = [e])
    (hc : e.composed s.dir = []) (howed : ∀ o ∈ s.orders.table, o.owed = false) :
    (s.startScreen i).calls[i] = { s.calls[i] with queue := [], played := inc16 (s.calls[i]).played } := by
  have hempty : (s.dir.compose e).isEmpty = true := by rw [← CallEntry.composed_eq, hc]; rfl
  have htake : s.takeHead i (s.calls[i]).settings (.rampDown 0) = ((s.modCalls i fun c => { c with queue := [] }).reportPlayed e).countPlayed i := by
    unfold State.takeHead
    rw [hq]
    dsimp only
    have hdir : (s.modCalls i fun c => { c with queue := [] }).dir = s.dir := rfl
    rw [hdir, hempty, if_pos rfl]
    exact owedFill_of_none (owedNow_of_none i (reportPlayed_owed (s := s.modCalls i fun c => { c with queue := [] }) (e := e) howed))
  have hself : (s.takeHead i (s.calls[i]).settings (.rampDown 0)).calls[i] =
      { s.calls[i] with queue := [], played := inc16 (s.calls[i]).played } := by
    rw [htake, State.countPlayed, modCalls_get_self, reportPlayed_calls, modCalls_get_self]
  have hstart : s.canStart i = true := (canStart_iff i s).2 ⟨hr, by rw [hq]; exact List.cons_ne_nil _ _⟩
  have hstops (k : Nat) : State.startCalls k i (s.takeHead i (s.calls[i]).settings (.rampDown 0)) =
      s.takeHead i (s.calls[i]).settings (.rampDown 0) := by
    cases k with
    | zero => rfl
    | succ k =>
      refine if_neg fun hcan => ?_
      obtain ⟨-, hqueue⟩ := (canStart_iff i _).1 hcan
      rw [hself] at hqueue
      exact hqueue rfl
  have hfuel : s.callFuel i = s.orders.shelf.length + 1 := by
    rw [State.callFuel, hq, List.length_singleton, Nat.add_comm]
  rw [State.startScreen, hfuel, State.startCalls, if_pos hstart, hstops, hself]

/-! ### A window opened (R129) -/

theorem callsResumed_congr {i : ScreenId} {isOpen up : Bool} {s u u' : State} (hc : u'.calls = u.calls) (ho : u'.orders = u.orders)
    (h : s.callsResumed i isOpen up u) : s.callsResumed i isOpen up u' := by
  unfold State.callsResumed
  rw [hc, ho]
  exact h

/-- What CALLS_OPEN of a CLOSED window leaves before its reply. -/
def State.windowOpened (i : ScreenId) (s : State) : State := (s.modCalls i fun c => { c with callWindow := true }).resumeCalls i

theorem openCalls_of_closed {i : ScreenId} {s : State} (h : (s.calls[i]).callWindow = false) : s.openCalls i = s.windowOpened i := by
  unfold State.openCalls
  rw [h]
  rfl

theorem windowOpened_frame (i : ScreenId) (s : State) : (s.windowOpened i).clearCalls = s.clearCalls :=
  (resumeCalls_frame i _).trans rfl

theorem windowOpened_window (i : ScreenId) (s : State) : ((s.windowOpened i).calls[i]).callWindow = true := by
  have hon : CallsOn i (s.modCalls i fun c => { c with callWindow := true })
      (((s.modCalls i fun c => { c with callWindow := true }).owedFill i).startScreen i) := (owedFill_callsOn i _).trans (startScreen_callsOn i _)
  have hfixed := (serveReads_readsOnly (((s.modCalls i fun c => { c with callWindow := true }).owedFill i).startScreen i) i).fixed.trans hon.2
  have hwindow := congrArg CallUnit.callWindow hfixed
  rw [modCalls_get_self] at hwindow
  exact hwindow

theorem windowOpened_empty {i : ScreenId} {e : CallEntry} {s : State} (hup : (s.links[i]).soundUp = true) (hdir : s.dir.reading = false)
    (hslot : (s.calls[i]).slot = none) (hduck : (s.calls[i]).duckState = .up) (hq : (s.calls[i]).queue = [e]) (hc : e.composed s.dir = [])
    (howed : ∀ o ∈ s.orders.table, o.owed = false) :
    (s.windowOpened i).calls[i] = { s.calls[i] with callWindow := true, queue := [], played := inc16 (s.calls[i]).played } := by
  let t := s.modCalls i fun c => { c with callWindow := true }
  have hunit : t.calls[i] = { s.calls[i] with callWindow := true } := modCalls_get_self _ _ _
  have hready : t.ready i := by
    unfold State.ready
    rw [hunit]
    exact ⟨rfl, hup, hdir, hslot, hduck⟩
  have hstarted := startScreen_of_empty (s := t) hready (by rw [hunit]; exact hq) hc howed
  rw [hunit] at hstarted
  unfold State.windowOpened State.resumeCalls
  rw [owedFill_of_none (owedNow_of_none (s := t) i howed),
    CallUnit.sameButReads_of_slot_none (serveReads_readsOnly _ i) (by rw [hstarted]; exact hslot), hstarted]

/-- Settles O41. -/
theorem callStartAndClipReads : Obligations.CallStartAndClipReads := by
  unfold Obligations.CallStartAndClipReads
  intro p tag i e rest f q bytes s c
  have hread : exec (.clipReadComplete bytes) s = .next (s.readComplete bytes) := rfl
  refine ⟨fun ha => ⟨fun hopen => ?_, fun hclosed => ?_⟩, fun hf hb => ?_, fun hf => ?_⟩
  · refine serve_ok ha rolesB_of_contains rfl (indexArg_u8 i (by omega)) ?_
    rw [State.callsOpenBody, State.openCalls]
    exact congrArg (·, Reply.ok (u8 0)) (if_pos hopen)
  · have hbody : State.callsOpenBody i (s.taken p) = ((s.taken p).windowOpened i, .ok (u8 0)) :=
      congrArg (·, Reply.ok (u8 0)) (openCalls_of_closed hclosed)
    have hframe := windowOpened_frame i (s.taken p)
    refine ⟨_, serve_ok ha rolesB_of_contains rfl (indexArg_u8 i (by omega)) hbody, ?_⟩
    have hwhole := eq_of_clearCalls hframe
    have hports : ((s.taken p).windowOpened i).ports = (s.taken p).ports := onlyIn_of_clearCalls hframe .ports (by simp)
    have hwindow := windowOpened_window i (s.taken p)
    have hresumed : s.callsResumed i true (s.links[i]).soundUp ((s.taken p).windowOpened i) :=
      resumeCalls_resumed (s := s) (t := (s.taken p).modCalls i fun c => { c with callWindow := true }) rfl rfl rfl rfl
    have hempty := windowOpened_empty (i := i) (e := e) (s := s.taken p)
    generalize (s.taken p).windowOpened i = v at hwhole hports hwindow hresumed hempty ⊢
    have hcalls : (State.replied p 0x24 tag (u8 0) v).calls = v.calls := rfl
    have hreplied (x : State) : (State.replied p 0x24 tag (u8 0) x).ports = upd x.ports p (·.reply (replyFrame 0x24 tag Status.ok.code (u8 0))) :=
      rfl
    refine ⟨?_, by rw [hreplied, hreplied, hports], by rw [hcalls]; exact hwindow, callsResumed_congr rfl rfl hresumed, ?_⟩
    · rw [hwhole]
      rfl
    · intro hup hdir hslot hduck hq _ hc hrest howed
      rw [hcalls, hempty hup hdir hslot hduck (by rw [← hrest]; exact hq) hc howed]
      exact ⟨hslot, hduck, rfl, rfl⟩
  · intro blocks delivered asks asking asked
    let d := (s.modReader fun r => { r with inFlight := none }).deliver f (samplesOf bytes)
    have hcomplete := readComplete_eq hf hb
    have hfree : d.reader.inFlight = none := rfl
    have hdelivered (j : ScreenId) : d.calls[j] = { s.calls[j] with slot := delivered j } := deliver_get f (samplesOf bytes) j _
    have hrenewed (j : ScreenId) : d.renewReads.calls[j] = { s.calls[j] with slot := (delivered j).map fun q => { q with readPending := asks q } } := by
      rw [renewReads_get hfree, hdelivered]
      rfl
    have hwanted (j : ScreenId) : d.renewReads.readWanted j = (delivered j).any asks := by
      rw [renewReads_wanted hfree, hdelivered]
      rfl
    have hreads (j : ScreenId) : CallUnit.sameButReads { s.calls[j] with slot := delivered j } ((s.readComplete bytes).calls[j]) := by
      rw [hcomplete, ← hdelivered]
      exact serveReads_readsOnly d j
    have hframe := readComplete_frame bytes s
    have horders : (s.readComplete bytes).orders = s.orders := by
      rw [hcomplete]
      exact serveReads_orders d
    refine ⟨_, hread, ?_, ?_, fun j => ⟨?_, ?_⟩, fun hslot => ?_, fun hstop => ?_, ?_⟩
    · have hwhole := eq_of_clearCalls hframe
      rw [horders] at hwhole
      exact hwhole
    · intro f' hf'
      rw [hcomplete] at hf' ⊢
      exact grantRead_inFlight hfree hf'
    · have hqueue := (hreads j).1
      rw [hqueue]
    · rw [(hreads j).slot_none_iff]
      exact Option.map_eq_none_iff
    · have hq : delivered f.screen = some (q.delivered f (samplesOf bytes) f.screen) := congrArg (Option.map _) hslot
      obtain ⟨nextRead, readPending, hu⟩ := (hreads f.screen).2.2 _ hq
      have hdeliver (hl : f.live = true) (hw : q.block < f.index ∨ (q.block = f.index ∧ q.skipping = false)) :
          q.delivered f (samplesOf bytes) f.screen = { q with buffer := q.buffer ++ [{ index := f.index, samples := samplesOf bytes }] } :=
        if_pos ⟨rfl, hl, hw⟩
      have hfields : (q.delivered f (samplesOf bytes) f.screen).entry = q.entry ∧ (q.delivered f (samplesOf bytes) f.screen).block = q.block ∧
          (q.delivered f (samplesOf bytes) f.screen).sample = q.sample := by
        unfold Playing.delivered
        split <;> exact ⟨rfl, rfl, rfl⟩
      refine ⟨_, hu, hfields.1, hfields.2.1, hfields.2.2, fun hl hw => ?_, fun hl => ?_⟩
      · rw [hdeliver hl hw]
      · rw [Playing.delivered, if_neg (by rw [hl]; exact fun h => Bool.false_ne_true h.2.1)]
    · have hgrant : d.renewReads.grantRead = d.renewReads := by
        obtain hdir | hnone := hstop
        · exact grantRead_of_reading hdir
        · refine grantRead_of_none fun j => ?_
          rw [hwanted]
          exact Bool.eq_false_iff.mpr (hnone j)
      have hu := hcomplete.trans hgrant
      refine ⟨by rw [hu]; rfl, fun k => ?_⟩
      exact (congrArg (fun v : State => v.calls[k]) hu).trans (hrenewed k)
    · intro k q before after x n j hdir hbefore hself hasks hseq hnext hn
      have hgrant : d.renewReads.grantRead = d.renewReads.grant j :=
        grantRead_of_some (k := k) hfree hdir (fun m hm => by
          rw [hwanted]
          exact Bool.eq_false_iff.mpr (hbefore m hm)) (by
          rw [hwanted]
          exact (congrArg (Option.any asks) hself).trans hasks)
      have hplace : blockAt q.sequence q.nextRead = some (x.clip.start + 480 * n, min 240 (x.clip.length - 240 * n)) := by
        rw [hseq, hnext]
        exact blockAt_append before after hn
      have hslot : (d.renewReads.calls[j]).slot = some { q with readPending := asks q } := by rw [hrenewed, hself]; rfl
      have hgranted : d.renewReads.grant j =
          (d.renewReads.modCalls j fun c => { c with slot := some { q with readPending := false, nextRead := q.nextRead + 1 } }).modReader fun _ =>
            { last := j, inFlight := some {
              screen := j, index := q.nextRead, start := x.clip.start + 480 * n, count := min 240 (x.clip.length - 240 * n), live := true } } := by
        unfold State.grant
        rw [hslot]
        dsimp only
        rw [hplace]
      rw [hcomplete, hgrant, hgranted]
      refine ⟨rfl, ?_, fun m hm => ?_⟩
      · refine (modCalls_get_self j _ _).trans ?_
        rw [hrenewed]
      · exact (modCalls_get_ne hm _ _).trans (hrenewed m)
  · rw [hread, State.readComplete, hf]

end Sys2Proof.Machine

/-! TAKE_ORDER and MARK_READY (O46), with what the start of the calls leaves of one screen (for O10, O15, O17, O26, O32, O38, O47). -/

namespace Sys2Proof.Machine

/-! ### Owed orders of one screen while calls start on another (R132) -/

/-- The orders that a screen is owed stand as before. -/
def OwesSame (i : ScreenId) (s t : State) : Prop := t.orders.shelf = s.orders.shelf ∧ ∀ n, t.owes i n = s.owes i n

theorem OwesSame.refl (i : ScreenId) (s : State) : OwesSame i s s := ⟨rfl, fun _ => rfl⟩

theorem OwesSame.trans {i : ScreenId} {s t u : State} (h : OwesSame i s t) (h' : OwesSame i t u) : OwesSame i s u :=
  ⟨h'.1.trans h.1, fun n => (h'.2 n).trans (h.2 n)⟩

theorem OwesSame.of_orders {i : ScreenId} {s t : State} (h : t.orders = s.orders) : OwesSame i s t := by
  refine ⟨by rw [h], fun n => ?_⟩
  unfold State.owes State.order?
  rw [h]

theorem OwesSame.owedNow {i : ScreenId} {s t : State} (h : OwesSame i s t) : t.owedNow i = s.owedNow i := by
  have howed (u : State) : u.owedNow i = (u.orders.shelf.filter (u.owes i)).eraseDups := rfl
  rw [howed, howed, h.1, funext h.2]

/-- A change of orders that does not touch what the screen is owed. -/
theorem modOrder_owesSame {i : ScreenId} {n : Nat} {f : Order → Order} {s : State} (hn : ∀ o, (f o).number = o.number)
    (hf : ∀ o, s.order? n = some o → ((f o).owed && (f o).screen == i) = (o.owed && o.screen == i)) : OwesSame i s (s.modOrder n f) := by
  refine ⟨rfl, fun m => ?_⟩
  unfold State.owes
  rw [order?_modOrder n m f hn]
  cases ho : s.order? m with
  | none => rfl
  | some o =>
    have hm := order?_number ho
    rw [Option.map_some, Option.any_some, Option.any_some]
    split
    · next he => exact hf o (by rw [← he, hm]; exact ho)
    · rfl

theorem modOrder_unowed_owesSame {i j : ScreenId} (hj : j ≠ i) {n : Nat} {s : State} (h : s.owes j n = true) :
    OwesSame i s (s.modOrder n fun o => { o with owed := false }) := by
  refine modOrder_owesSame (fun _ => rfl) fun o ho => ?_
  unfold State.owes at h
  rw [ho, Option.any_some, Bool.and_eq_true] at h
  have hscreen : (o.screen == i) = false := by
    rw [beq_iff_eq.mp h.2]
    exact beq_eq_false_iff_ne.mpr hj
  dsimp only
  rw [hscreen, Bool.and_false, Bool.and_false]

theorem nextOwed_owes {i : ScreenId} {n : Nat} {s : State} (h : s.nextOwed i = some n) : s.owes i n = true := by
  have hmem : n ∈ s.owedNow i := by
    rw [nextOwed_eq] at h
    exact List.mem_of_mem_head? h
  have hfilter : n ∈ s.orders.shelf.filter (s.owes i) := List.mem_eraseDups.mp hmem
  exact (List.mem_filter.mp hfilter).2

theorem owedFillFor_owesSame {i j : ScreenId} (hj : j ≠ i) (k : Nat) (s : State) : OwesSame i s (State.owedFillFor k j s) := by
  induction k generalizing s with
  | zero => exact .refl i s
  | succ k ih =>
    unfold State.owedFillFor
    split
    · split
      · next n hn => exact ((modOrder_unowed_owesSame hj (nextOwed_owes hn)).trans (.of_orders rfl)).trans (ih _)
      · exact .refl i s
    · exact .refl i s

theorem reportPlayed_owesSame (i : ScreenId) (e : CallEntry) (s : State) : OwesSame i s (s.reportPlayed e) := by
  cases e with
  | announce clips => exact .refl i s
  | orderCall n =>
    refine modOrder_owesSame (fun o => ?_) fun o _ => ?_
    · split <;> rfl
    · split <;> rfl

theorem takeHead_owesSame {i j : ScreenId} (hj : j ≠ i) (m : MixSettings) (d : DuckState) (s : State) : OwesSame i s (s.takeHead j m d) := by
  unfold State.takeHead
  split
  · exact .refl i s
  · next e rest hq =>
    refine OwesSame.trans (t := s.modCalls j fun c => { c with queue := rest }) (.of_orders rfl) (.trans ?_ (owedFillFor_owesSame hj 16 _))
    split
    · exact (reportPlayed_owesSame i e _).trans (.of_orders rfl)
    · exact .of_orders rfl

theorem startScreen_owesSame {i j : ScreenId} (hj : j ≠ i) (s : State) : OwesSame i s (s.startScreen j) := by
  have hcalls (k : Nat) (s : State) : OwesSame i s (State.startCalls k j s) := by
    induction k generalizing s with
    | zero => exact .refl i s
    | succ k ih =>
      unfold State.startCalls
      split
      · exact (takeHead_owesSame hj _ _ s).trans (ih _)
      · exact .refl i s
  exact hcalls _ s

/-! ### One screen while every screen's calls start (R135) -/

/-- What the start of a screen's calls turns on: its call unit, the links, the directory and the orders it is owed. -/
structure ScreenSame (i : ScreenId) (s t : State) : Prop where
  unit : t.calls[i] = s.calls[i]
  links : t.links = s.links
  dir : t.dir = s.dir
  owes : OwesSame i s t

theorem ScreenSame.refl (i : ScreenId) (s : State) : ScreenSame i s s := ⟨rfl, rfl, rfl, .refl i s⟩

theorem ScreenSame.trans {i : ScreenId} {s t u : State} (h : ScreenSame i s t) (h' : ScreenSame i t u) : ScreenSame i s u :=
  ⟨h'.unit.trans h.unit, h'.links.trans h.links, h'.dir.trans h.dir, h.owes.trans h'.owes⟩

theorem startScreen_screenSame {i j : ScreenId} (hj : j ≠ i) (s : State) : ScreenSame i s (s.startScreen j) where
  unit := (startScreen_callsOn j s).1 i hj.symm
  links := links_of_clearCalls (startScreen_frame j s)
  dir := onlyIn_of_clearCalls (startScreen_frame j s) .dir (by simp)
  owes := startScreen_owesSame hj s

/-- A screen's unit once the calls of every screen have started: its own calls start over what it was. -/
theorem startAll_unit (i : ScreenId) (s : State) :
    ∃ t, ScreenSame i s t ∧ ((t.startScreen i).calls[i]).sameButReads (s.startAll.calls[i]) := by
  have kept {j : ScreenId} (hj : j ≠ i) (u : State) : (u.startScreen j).calls[i] = u.calls[i] := (startScreen_callsOn j u).1 i hj.symm
  have hreads := serveReads_readsOnly ((((s.startScreen 0).startScreen 1).startScreen 2).startScreen 3) i
  have hall : s.startAll = ((((s.startScreen 0).startScreen 1).startScreen 2).startScreen 3).serveReads := rfl
  rw [hall]
  obtain rfl | rfl | rfl | rfl := screen_cases i
  · refine ⟨s, .refl 0 s, ?_⟩
    rw [kept (by decide), kept (by decide), kept (by decide)] at hreads
    exact hreads
  · refine ⟨s.startScreen 0, startScreen_screenSame (by decide) s, ?_⟩
    rw [kept (by decide), kept (by decide)] at hreads
    exact hreads
  · refine ⟨(s.startScreen 0).startScreen 1, (startScreen_screenSame (by decide) s).trans (startScreen_screenSame (by decide) _), ?_⟩
    rw [kept (by decide)] at hreads
    exact hreads
  · exact ⟨((s.startScreen 0).startScreen 1).startScreen 2,
      ((startScreen_screenSame (by decide) s).trans (startScreen_screenSame (by decide) _)).trans (startScreen_screenSame (by decide) _), hreads⟩

theorem ScreenSame.ready_iff {i : ScreenId} {s t : State} (h : ScreenSame i s t) : t.ready i ↔ s.ready i := by
  unfold State.ready
  rw [h.unit, h.links, h.dir]

/-- Where no call of the screen can start, its unit is kept but for its reads. -/
theorem startAll_stays {i : ScreenId} {s : State} (h : ¬s.ready i) : (s.calls[i]).sameButReads (s.startAll.calls[i]) := by
  obtain ⟨t, hsame, hreads⟩ := startAll_unit i s
  rw [startScreen_of_not fun hr => h (hsame.ready_iff.mp hr.1), hsame.unit] at hreads
  exact hreads

/-- Where a call of the screen can start, the head of its queue enters the slot and the owed fill runs behind it (log 24). -/
theorem startAll_enters {i : ScreenId} {e : CallEntry} {rest : List CallEntry} {s : State} (h : s.ready i) (hq : (s.calls[i]).queue = e :: rest)
    (hc : e.composed s.dir ≠ []) : CallUnit.entered e (e.composed s.dir) (s.calls[i]).settings (.rampDown 0)
      (rest ++ ((s.owedNow i).take (16 - rest.length)).map CallEntry.orderCall) s.calls[i] (s.startAll.calls[i]) := by
  obtain ⟨t, hsame, hreads⟩ := startAll_unit i s
  have hqueue : (t.calls[i]).queue = e :: rest := by rw [hsame.unit]; exact hq
  have hseq : e.composed t.dir ≠ [] := by rw [hsame.dir]; exact hc
  rw [startScreen_of_start (hsame.ready_iff.mpr h) hqueue hseq, takeHead_eq hqueue hseq, hsame.dir, hsame.owes.owedNow] at hreads
  refine entered_of_sameButReads ?_
  have hself := upd_get_self t.calls i fun c => { c with
    queue := rest ++ ((s.owedNow i).take (16 - rest.length)).map CallEntry.orderCall
    slot := some (.atStart e (e.composed s.dir) (t.calls[i]).settings), duckState := .rampDown 0 }
  rw [hsame.unit] at hself
  rw [← hself]
  rw [hsame.unit] at hreads
  exact hreads

/-! ### Service steps (R164) -/

/-- The order that the next service step takes. -/
def OrderUnit.nextServed (u : OrderUnit) : Option Order :=
  [u.pointer + 1, u.pointer + 2, u.pointer + 3, u.pointer].findSome? fun i => (u.table.filter Order.isPending).find? (·.screen == i)

theorem Order.isHeld_of_isPending {o : Order} (h : o.isPending = true) : o.isHeld = true := by
  unfold Order.isPending at h
  unfold Order.isHeld
  cases ho : o.state with
  | held b => rfl
  | _ => rw [ho] at h; contradiction

theorem oldestPending_eq (i : ScreenId) (u : OrderUnit) : u.oldestPending i = (u.table.filter Order.isPending).find? (·.screen == i) := by
  unfold OrderUnit.oldestPending OrderUnit.heldList
  rw [List.find?_filter, List.find?_filter]
  refine congrArg (fun p => u.table.find? p) (funext fun o => ?_)
  cases hp : o.isPending with
  | false => simp
  | true => simp [Order.isHeld_of_isPending hp]

/-- The first value that a function gives along a list, by its first argument. -/
theorem find?_of_findSome? {α β : Type} (g : α → Option β) (l : List α) :
    (l.findSome? g = none → l.find? (fun a => (g a).isSome) = none) ∧
      ∀ b, l.findSome? g = some b → ∃ a, l.find? (fun a => (g a).isSome) = some a ∧ g a = some b := by
  induction l with
  | nil => exact ⟨fun _ => rfl, fun b h => by contradiction⟩
  | cons a l ih =>
    cases hg : g a with
    | none => simpa [hg] using ih
    | some c => simp [hg]

theorem serviceStep_of_none {s : State} (h : s.orders.nextServed = none) : s.serviceStep = s := by
  have hfind : [s.orders.pointer + 1, s.orders.pointer + 2, s.orders.pointer + 3, s.orders.pointer].find? (fun i =>
      (s.orders.oldestPending i).isSome) = none := by
    simp only [oldestPending_eq]
    exact (find?_of_findSome? _ _).1 h
  unfold State.serviceStep
  dsimp only
  rw [hfind]

theorem serviceStep_of_some {s : State} {o : Order} (h : s.orders.nextServed = some o) :
    s.serviceStep = (s.joinKitchen o.number).modOrders fun u => { u with pointer := o.screen } := by
  obtain ⟨i, hfind, hi⟩ := (find?_of_findSome? _ _).2 o h
  have hscreen : o.screen = i := beq_iff_eq.mp (List.find?_some (p := fun o : Order => o.screen == i) hi)
  rw [← oldestPending_eq] at hi
  simp only [← oldestPending_eq] at hfind
  unfold State.serviceStep
  dsimp only
  rw [hfind]
  dsimp only
  rw [hi, hscreen]

/-- The first value in the round after the screen last served. -/
theorem findSome?_round {β : Type} {g : ScreenId → Option β} {l k : ScreenId} {b : β} (hbefore : ∀ m < k, g (l + 1 + m) = none)
    (hk : g (l + 1 + k) = some b) : [l + 1, l + 2, l + 3, l].findSome? g = some b := by
  have hround := find?_round (P := fun i => (g i).isSome) (l := l) (k := k) (fun m hm => by rw [hbefore m hm]; rfl) (by rw [hk]; rfl)
  cases hg : [l + 1, l + 2, l + 3, l].findSome? g with
  | none => exact absurd (((find?_of_findSome? g _).1 hg).symm.trans hround) (by simp)
  | some c =>
    obtain ⟨a, ha, hc⟩ := (find?_of_findSome? g _).2 c hg
    rw [Option.some.inj (ha.symm.trans hround), hk] at hc
    rw [hc]

/-- The oldest release-pending order of the first screen after the pointer that has one, in a list that leaves out none but orders not
pending. -/
theorem pending_round {u : OrderUnit} {k : ScreenId} {before after : List Order} {r : Order} (htable : u.table = before ++ r :: after)
    (hearlier : ∀ j < k, ∀ q ∈ u.table, q.screen = u.pointer + 1 + j → q.isPending = false) (hr : r.isPending = true)
    (hscreen : r.screen = u.pointer + 1 + k) (hfirst : ∀ q ∈ before, q.screen = u.pointer + 1 + k → q.isPending = false) :
    u.nextServed = some r := by
  refine findSome?_round (k := k) (fun m hm => ?_) ?_
  · rw [List.find?_eq_none]
    intro q hq hs
    obtain ⟨hq, hp⟩ := List.mem_filter.mp hq
    rw [hearlier m hm q hq (beq_iff_eq.mp hs)] at hp
    exact Bool.false_ne_true hp
  · have hnone : (before.filter Order.isPending).find? (·.screen == u.pointer + 1 + k) = none := by
      rw [List.find?_eq_none]
      intro q hq hs
      obtain ⟨hq, hp⟩ := List.mem_filter.mp hq
      rw [hfirst q hq (beq_iff_eq.mp hs)] at hp
      exact Bool.false_ne_true hp
    rw [htable, List.filter_append, List.find?_append, hnone, List.filter_cons, hr, if_pos rfl, List.find?_cons, hscreen, beq_self_eq_true]
    rfl

theorem nextServed_of_none {u : OrderUnit} (h : ∀ o ∈ u.table, o.isPending = false) : u.nextServed = none := by
  have hempty : u.table.filter Order.isPending = [] :=
    List.filter_eq_nil_iff.mpr fun o ho => by rw [h o ho]; exact Bool.false_ne_true
  unfold OrderUnit.nextServed
  rw [hempty]
  rfl

/-- The crossings where the fill does not rise. -/
theorem postCrossings_fall {before : Nat} {s : State} (h : s.orders.kitchen.length ≤ before) : s.postCrossings before =
    State.postIf (s.orders.settings.low < before ∧ s.orders.kitchen.length ≤ s.orders.settings.low) .kitchenLow
      (.fill s.orders.kitchen.length) s := by
  have hkept {c : Prop} [Decidable c] (k : EventKind) (d : Detail) : (if c then s.post k d else s).orders = s.orders := by split <;> rfl
  have hhigh : ¬(before < s.orders.settings.high ∧ s.orders.settings.high ≤ s.orders.fill) := by
    unfold OrderUnit.fill
    omega
  have hwork : ¬(before = 0 ∧ 0 < s.orders.fill) := by
    unfold OrderUnit.fill
    omega
  unfold State.postCrossings State.postIf
  dsimp only
  simp only [if_neg hhigh, if_neg hwork, decide_eq_true_eq]
  rfl

/-! ### TAKE_ORDER (R165) -/

theorem postIf_orders (c : Bool) (k : EventKind) (d : Detail) (s : State) : (State.postIf c k d s).orders = s.orders := by
  cases c <;> rfl

theorem replied_calls (p : PortId) (code tag : Byte) (b : List Byte) (s : State) : (State.replied p code tag b s).calls = s.calls := rfl

/-- The head of the kitchen queue taken, before any service. -/
def State.headTaken (n : Nat) (rest : List Nat) (s : State) : State :=
  { s with orders := { s.orders with
    kitchen := rest, table := s.orders.table.map fun r => if r.number = n then { r with state := .cooking } else r } }

theorem takeOrder_eq {n : Nat} {rest : List Nat} {s : State} (h : s.orders.kitchen = n :: rest) :
    s.takeOrder n = (s.headTaken n rest).serviceStep.postCrossings (rest.length + 1) := by
  have hmod : (s.modOrders fun u => { u with kitchen := u.kitchen.tail }).modOrder n (fun o => { o with state := .cooking }) = s.headTaken n rest := by
    have htail : s.orders.kitchen.tail = rest := by rw [h]; rfl
    exact congrArg (fun k => ({ s with orders := { s.orders with
      kitchen := k, table := s.orders.table.map fun r => if r.number = n then { r with state := .cooking } else r } } : State)) htail
  have hfill : s.orders.fill = rest.length + 1 := by rw [OrderUnit.fill, h]; rfl
  unfold State.takeOrder
  dsimp only
  rw [hmod, hfill]

theorem takeOrderBody_eq {n : Nat} {rest : List Nat} {o : Order} {s : State} (h : s.orders.kitchen = n :: rest) (ho : s.order? n = some o) (b : List Byte) :
    State.takeOrderBody b s = (s.takeOrder n, .ok (o.takenBytes (s.takeOrder n).orders.kitchen.length)) := by
  unfold State.takeOrderBody
  rw [h]
  dsimp only
  rw [ho]
  rfl

/-- TAKE_ORDER with no other order release pending. -/
theorem takeOrder_alone {n : Nat} {rest : List Nat} {s : State} (h : s.orders.kitchen = n :: rest)
    (hp : ∀ r ∈ s.orders.table, r.number ≠ n → r.isPending = false) : s.takeOrder n =
      State.postIf (s.orders.settings.low < rest.length + 1 ∧ rest.length ≤ s.orders.settings.low) .kitchenLow (.fill rest.length)
        (s.headTaken n rest) := by
  have hnone : (s.headTaken n rest).orders.nextServed = none := by
    refine nextServed_of_none fun q hq => ?_
    obtain ⟨r, hr, rfl⟩ := List.mem_map.mp hq
    split
    · rfl
    · next hne => exact hp r hr hne
  rw [takeOrder_eq h, serviceStep_of_none hnone, postCrossings_fall (Nat.le_succ rest.length)]
  rfl

/-- TAKE_ORDER with an order release pending, which the freed slot takes. -/
theorem takeOrder_served {n : Nat} {rest : List Nat} {r : Order} {s : State} (h : s.orders.kitchen = n :: rest)
    (hserved : (s.headTaken n rest).orders.nextServed = some r) : s.takeOrder n =
      ((s.headTaken n rest).joinKitchen r.number).modOrders fun u => { u with pointer := r.screen } := by
  have hlen : ((((s.headTaken n rest).joinKitchen r.number).modOrders fun u => { u with pointer := r.screen }).orders.kitchen).length =
      rest.length + 1 := List.length_append
  have hlow : ¬(s.orders.settings.low < rest.length + 1 ∧ rest.length + 1 ≤ s.orders.settings.low) := by omega
  rw [takeOrder_eq h, serviceStep_of_some hserved, postCrossings_fall hlen.le, hlen]
  exact if_neg (by rw [decide_eq_true_iff]; exact hlow)

/-! ### MARK_READY (R131, R166) -/

/-- A COOKING order made READY on the shelf, its call not yet asked for. -/
def State.shelved (n : Nat) (s : State) : State :=
  { s with orders := { s.orders with
    table := s.orders.table.map fun r => if r.number = n then { r with state := .ready s.nightClock } else r, shelf := s.orders.shelf ++ [n] } }

theorem markReadyBody_eq {n : Nat} {o : Order} {s : State} (ho : s.order? n = some o) (hc : o.state = .cooking) :
    State.markReadyBody n s = (((s.shelved n).enqueueCall o.screen n).startAll,
      .ok (u16 s.nightClock ++ flagByte (((s.shelved n).enqueueCall o.screen n).isOwed n))) := by
  have hn := order?_number ho
  have hcooking : o.isCooking = true := by rw [Order.isCooking_eq, hc]; rfl
  have hmade : s.makeReady o = (s.shelved n).enqueueCall o.screen n := by rw [← hn]; rfl
  unfold State.markReadyBody
  rw [ho]
  dsimp only
  rw [if_pos hcooking, hmade]

theorem shelved_order? {n : Nat} {o : Order} {s : State} (ho : s.order? n = some o) :
    (s.shelved n).order? n = some { o with state := .ready s.nightClock } := by
  have h := find?_map_number n n (fun r => { r with state := .ready s.nightClock }) (fun _ => rfl) s.orders.table
  have hshelved : (s.shelved n).order? n = _ := h
  have hfound : s.orders.table.find? (·.number == n) = some o := ho
  rw [hshelved, hfound, Option.map_some, if_pos (order?_number ho)]

/-- What asking for an order's call changes (R131). -/
theorem enqueueCall_eq (i : ScreenId) (n : Nat) (s : State) : s.enqueueCall i n = { s with
    calls := upd s.calls i fun c => { c with
      queue := if c.hasCallOf n = true ∨ 16 ≤ c.queue.length then c.queue else c.queue ++ [.orderCall n] }
    orders := { s.orders with table := s.orders.table.map fun r =>
      if r.number = n ∧ (s.calls[i]).hasCallOf n = false ∧ 16 ≤ (s.calls[i]).queue.length then { r with owed := true } else r } } := by
  have hsame (h : (s.calls[i]).hasCallOf n = true ∨ 16 ≤ (s.calls[i]).queue.length) : (upd s.calls i fun c => { c with
      queue := if c.hasCallOf n = true ∨ 16 ≤ c.queue.length then c.queue else c.queue ++ [.orderCall n] }) = s.calls :=
    upd_eq_self (by rw [if_pos h])
  have hkept (h : ¬((s.calls[i]).hasCallOf n = false ∧ 16 ≤ (s.calls[i]).queue.length)) : (s.orders.table.map fun r =>
      if r.number = n ∧ (s.calls[i]).hasCallOf n = false ∧ 16 ≤ (s.calls[i]).queue.length then { r with owed := true } else r) = s.orders.table :=
    (List.map_congr_left fun r _ => if_neg fun hr => h hr.2).trans (List.map_id _)
  unfold State.enqueueCall
  cases hcall : (s.calls[i]).hasCallOf n with
  | true =>
    rw [hcall] at hsame hkept
    rw [if_pos rfl, hsame (.inl rfl), hkept (by simp)]
  | false =>
    rw [if_neg Bool.false_ne_true]
    rw [hcall] at hsame hkept
    by_cases hroom : (s.calls[i]).queue.length < 16
    · rw [if_pos hroom, hkept fun h => by omega]
      refine congrArg (fun v => ({ s with calls := v } : State)) (upd_congr ?_)
      rw [hcall, if_neg (by simpa using hroom)]
      rfl
    · rw [if_neg hroom, hsame (.inr (by omega))]
      refine congrArg (fun l => ({ s with orders := { s.orders with table := l } } : State)) (List.map_congr_left fun r _ => ?_)
      exact if_congr ⟨fun h => ⟨h, rfl, by omega⟩, fun h => h.1⟩ rfl rfl

/-- Settles O46. -/
theorem takeAndMarkReady : Obligations.TakeAndMarkReady := by
  unfold Obligations.TakeAndMarkReady
  intro p tag n rest o s u set taken
  have hbytes (fill : Nat) : o.takenBytes fill = taken fill := by
    simp only [Order.takenBytes, pickupByte_eq] <;> rfl
  refine ⟨fun ha => ⟨fun hempty => ?_, fun hk ho hp => ?_, fun i k before after r hk ho _ hrn hi hbefore htable hrp hrs hfirst hop => ?_⟩,
    fun ha h1 h2 => ⟨fun hnone => ?_, fun ho hst => ?_, fun ho hst hcall => ?_, fun ho hst => ?_⟩⟩
  · have hempty' : (s.taken p).orders.kitchen = [] := hempty
    refine (serve_handled ha rolesK_of_contains rfl).trans ?_
    rw [State.takeOrderBody, hempty']
    rfl
  · have hserve := serve_handled (body := State.takeOrderBody) (lengthOk := lengthIs 0) ha rolesK_of_contains rfl
    rw [takeOrderBody_eq (s := s.taken p) hk ho, takeOrder_alone (s := s.taken p) hk hp] at hserve
    refine hserve.trans ?_
    rw [hbytes, postIf_orders]
    rfl
  · have hserve := serve_handled (body := State.takeOrderBody) (lengthOk := lengthIs 0) ha rolesK_of_contains rfl
    have hserved : ((s.taken p).headTaken n rest).orders.nextServed = some r := by
      let cooked : Order → Order := fun q => if q.number = n then { q with state := .cooking } else q
      have hcooked (q : Order) : (cooked q).screen = q.screen ∧ (q.isPending = false → (cooked q).isPending = false) := by
        simp only [cooked]
        split
        · exact ⟨rfl, fun _ => rfl⟩
        · exact ⟨rfl, id⟩
      have hmap : ((s.taken p).headTaken n rest).orders.table = before.map cooked ++ r :: after.map cooked := by
        have hr : cooked r = r := if_neg hrn
        rw [← hr, ← List.map_cons, ← List.map_append, ← htable]
        rfl
      refine pending_round (k := k) hmap (fun j hj q hq hs => ?_) hrp (hrs.trans hi) fun q hq hs => ?_
      · obtain ⟨v, hv, rfl⟩ := List.mem_map.mp hq
        exact (hcooked v).2 (hbefore j hj v hv ((hcooked v).1.symm.trans hs))
      · obtain ⟨v, hv, rfl⟩ := List.mem_map.mp hq
        exact (hcooked v).2 (hfirst v hv (((hcooked v).1.symm.trans hs).trans hi.symm))
    rw [takeOrderBody_eq (s := s.taken p) hk ho, takeOrder_served (s := s.taken p) hk hserved] at hserve
    refine hserve.trans ?_
    have hlen : ((((s.taken p).headTaken n rest).joinKitchen r.number).modOrders fun u => { u with pointer := r.screen }).orders.kitchen.length =
        rest.length + 1 := List.length_append
    rw [hbytes, hlen, hrs]
    rfl
  · have hnone' : (s.taken p).order? n = none := hnone
    refine serve_refused ha rolesK_of_contains rfl (orderArg_u16 ⟨h1, h2⟩) ?_
    rw [State.markReadyBody, hnone']
  · have ho' : (s.taken p).order? n = some o := ho
    refine serve_refused ha rolesK_of_contains rfl (orderArg_u16 ⟨h1, h2⟩) ?_
    rw [State.markReadyBody, ho']
    refine if_neg ?_
    rw [Order.isCooking_eq, beq_iff_eq]
    exact hst
  · intro ready
    have hbody := markReadyBody_eq (s := s.taken p) ho hst
    have hready : ((s.taken p).shelved n).order? n = some { o with state := .ready s.nightClock } := shelved_order? ho
    have hcall' : ¬(((s.taken p).shelved n).calls[o.screen]).hasCallOf n = true := by
      rw [show (((s.taken p).shelved n).calls[o.screen]).hasCallOf n = false from hcall]
      exact Bool.false_ne_true
    refine ⟨fun hroom => ?_, fun hfull => ?_⟩
    · have henqueued : ((s.taken p).shelved n).enqueueCall o.screen n = ((s.taken p).shelved n).modCalls o.screen (·.join (.orderCall n)) :=
        (if_neg hcall').trans (if_pos hroom)
      have howed : (((s.taken p).shelved n).modCalls o.screen (·.join (.orderCall n))).isOwed n = o.owed := by
        have hfound : (((s.taken p).shelved n).modCalls o.screen (·.join (.orderCall n))).order? n = _ := hready
        rw [State.isOwed, hfound]
      rw [henqueued, howed] at hbody
      exact serve_ok ha rolesK_of_contains rfl (orderArg_u16 ⟨h1, h2⟩) hbody
    · have henqueued : ((s.taken p).shelved n).enqueueCall o.screen n = ((s.taken p).shelved n).modOrder n fun o => { o with owed := true } :=
        (if_neg hcall').trans (if_neg (Nat.not_lt.mpr hfull))
      have howed : (((s.taken p).shelved n).modOrder n fun o => { o with owed := true }).isOwed n = true := by
        rw [State.isOwed, order?_modOrder n n (fun o => { o with owed := true }) fun _ => rfl, hready, Option.map_some, if_pos (order?_number ho)]
      rw [henqueued, howed] at hbody
      exact serve_ok ha rolesK_of_contains rfl (orderArg_u16 ⟨h1, h2⟩) hbody
  · have hbody := markReadyBody_eq (s := s.taken p) ho hst
    have hcall := enqueueCall_eq o.screen n ((s.taken p).shelved n)
    have hunit := (congrArg (fun x : State => x.calls[o.screen]) hcall).trans (upd_get_self _ _ _)
    have howed := owedNow_congr (i := o.screen) (congrArg State.orders hcall)
    have hlinks := congrArg State.links hcall
    have hdir := congrArg State.dir hcall
    generalize ((s.taken p).shelved n).enqueueCall o.screen n = t at hbody hunit howed hlinks hdir
    refine ⟨_, serve_ok ha rolesK_of_contains rfl (orderArg_u16 ⟨h1, h2⟩) hbody, ?_⟩
    generalize u16 s.nightClock ++ flagByte (t.isOwed n) = b
    intro c queue table owed starts
    have hready : t.ready o.screen ↔ starts := by
      unfold State.ready
      rw [hunit, hlinks, hdir]
      rfl
    rw [replied_calls]
    refine ⟨fun hnot => ?_, fun e rest hstarts hqueue hseq _ => ?_⟩
    · have hstays := startAll_stays fun h => hnot (hready.mp h)
      rw [hunit] at hstays
      exact hstays
    · have henters := startAll_enters (hready.mpr hstarts) (e := e) (rest := rest) (by rw [hunit]; exact hqueue)
        (by rw [hdir]; exact hseq)
      rw [hunit, hdir, howed] at henters
      exact henters

end Sys2Proof.Machine

/-! The removal of orders, written out (for O10, O15, O17, O26, O32, O47). -/

namespace Sys2Proof.Machine

/-! ### Orders out of the table (R169) -/

/-- The totals with an outcome counted a number of times. -/
def OrderTotals.countMany (out : OrderOutcome) (k : Nat) (t : OrderTotals) : OrderTotals := (OrderTotals.countOutcome out)^[k] t

/-- The ports once the removal of orders has posted its events, one by one. -/
def removalPorts (out : OrderOutcome) (os : List Order) (s : State) : Vector Port 3 :=
  (os.foldl (fun s o => s.postRemoval out o.number) s).ports

theorem postRemoval_eq (out : OrderOutcome) (n : Nat) (s : State) : s.postRemoval out n = { s with ports := (s.postRemoval out n).ports } := by
  cases out <;> rfl

theorem postRemoval_ports_congr (out : OrderOutcome) (n : Nat) {s t : State} (h : t.ports = s.ports) :
    (t.postRemoval out n).ports = (s.postRemoval out n).ports := by
  cases out <;> simp only [State.postRemoval, State.post, h]

theorem removalPorts_congr (out : OrderOutcome) (os : List Order) {s t : State} (h : t.ports = s.ports) :
    removalPorts out os t = removalPorts out os s := by
  unfold removalPorts
  induction os generalizing s t with
  | nil => exact h
  | cons o os ih => exact ih (postRemoval_ports_congr out o.number h)

/-- The part once orders have left their collections and the table, no slot yet served. -/
def State.ordersOut (out : OrderOutcome) (os : List Order) (s : State) : State :=
  { s with
    tickets := s.tickets.map fun t => { t with openOrders := t.openOrders - os.countP (·.ticket == t.number) }
    orders := { s.orders with
      table := s.orders.table.filter fun r => !(os.map (·.number)).contains r.number
      kitchen := s.orders.kitchen.filter fun n => !(os.map (·.number)).contains n
      shelf := s.orders.shelf.filter fun n => !(os.map (·.number)).contains n
      totals := s.orders.totals.countMany out os.length }
    calls := Vector.ofFn fun i => { s.calls[i] with
      queue := (s.calls[i]).queue.filter fun e => os.all fun o => !(o.screen == i && e == .orderCall o.number) }
    ports := removalPorts out os s }

/-- A part written out by the six fields that the removal of orders touches. -/
theorem removal_congr {s : State} {t t' : List Ticket} {b b' : OrderUnit} {c c' : Vector CallUnit 4} {q q' : Vector Port 3}
    (ht : t = t') (hb : b = b') (hc : c = c') (hq : q = q') :
    ({ s with tickets := t, orders := b, calls := c, ports := q } : State) = { s with tickets := t', orders := b', calls := c', ports := q' } := by
  rw [ht, hb, hc, hq]

theorem ordersOut_nil (out : OrderOutcome) (s : State) : s.ordersOut out [] = s := by
  refine removal_congr (s := s) (List.map_id _) ?_ ?_ rfl
  · simp [OrderTotals.countMany]
  · ext1 i hi
    simp

/-- One order leaves its collection and the table. -/
theorem removeOne_eq (out : OrderOutcome) (o : Order) (s : State) : s.removeOne out o = { s with
    tickets := s.tickets.map fun t => if t.number = o.ticket then { t with openOrders := t.openOrders - 1 } else t
    orders := { s.orders with
      table := s.orders.table.filter fun r => r.number != o.number, kitchen := s.orders.kitchen.filter (· != o.number)
      shelf := s.orders.shelf.filter (· != o.number), totals := s.orders.totals.countOutcome out }
    calls := upd s.calls o.screen fun c => { c with queue := c.queue.filter fun e => !(e == .orderCall o.number) }
    ports := (s.postRemoval out o.number).ports } := by
  cases out <;> rfl

theorem filter_numbers {α : Type} (f : α → Nat) (n : Nat) (ns : List Nat) (l : List α) :
    ((l.filter fun a => f a != n).filter fun a => !ns.contains (f a)) = l.filter fun a => !(n :: ns).contains (f a) := by
  rw [List.filter_filter]
  refine List.filter_congr fun a _ => ?_
  rw [List.contains_cons, Bool.not_or, Bool.and_comm]
  rfl

theorem removeOne_ordersOut (out : OrderOutcome) (o : Order) (os : List Order) (s : State) :
    (s.removeOne out o).ordersOut out os = s.ordersOut out (o :: os) := by
  have hports : removalPorts out os (s.removeOne out o) = removalPorts out (o :: os) s := by
    refine removalPorts_congr (s := s.postRemoval out o.number) (t := s.removeOne out o) out os ?_
    rw [removeOne_eq]
  unfold State.ordersOut
  rw [hports, removeOne_eq]
  refine removal_congr (s := s) ?_ ?_ ?_ rfl
  · rw [List.map_map]
    refine List.map_congr_left fun t _ => ?_
    simp only [Function.comp_apply, List.countP_cons]
    split
    · next h => simp [h, Nat.sub_sub, Nat.add_comm]
    · next h => simp [Ne.symm h]
  · simp only [List.map_cons, filter_numbers Order.number, filter_numbers (fun n => n), List.length_cons]
    rfl
  · refine congrArg Vector.ofFn (funext fun i => ?_)
    by_cases hi : i = o.screen
    · subst hi
      rw [upd_get_self]
      refine congrArg (fun q => ({ s.calls[o.screen] with queue := q } : CallUnit)) (List.filter_filter.trans (List.filter_congr fun e _ => ?_))
      rw [List.all_cons, beq_self_eq_true, Bool.true_and, Bool.and_comm]
    · rw [upd_get_ne _ _ _ _ (Ne.symm hi)]
      refine congrArg (fun q => ({ s.calls[i] with queue := q } : CallUnit)) (List.filter_congr fun e _ => ?_)
      rw [List.all_cons, beq_eq_false_iff_ne.mpr (Ne.symm hi)]
      rfl

theorem removeAll_eq (out : OrderOutcome) (os : List Order) (s : State) : os.foldl (State.removeOne out) s = s.ordersOut out os := by
  induction os generalizing s with
  | nil => exact (ordersOut_nil out s).symm
  | cons o os ih => exact (ih _).trans (removeOne_ordersOut out o os s)

/-! ### Service steps, written out (R164) -/

theorem servedBy_of_none {p : ScreenId} {pending : List Order}
    (h : [p + 1, p + 2, p + 3, p].findSome? (fun i => pending.find? (·.screen == i)) = none) (k : Nat) : servedBy k p pending = [] := by
  cases k with
  | zero => rfl
  | succ k => rw [servedBy, h]

theorem servedBy_length (k : Nat) (p : ScreenId) (pending : List Order) : (servedBy k p pending).length ≤ k := by
  induction k generalizing p pending with
  | zero => exact Nat.le_refl 0
  | succ k ih =>
    rw [servedBy]
    split
    · exact Nat.zero_le _
    · exact Nat.succ_le_succ (ih _ _)

/-- The Order Unit once a number of slots have been served. -/
def OrderUnit.afterService (k : Nat) (u : OrderUnit) : OrderUnit :=
  let served := servedBy k u.pointer (u.table.filter Order.isPending)
  { u with
    kitchen := u.kitchen ++ served.map (·.number)
    table := u.table.map fun r => if served.any (·.number == r.number) then { r with state := .queued } else r
    pointer := (served.getLast?.map (·.screen)).getD u.pointer }

/-- An order that has been QUEUED is no longer release pending. -/
theorem pending_of_queued (n : Nat) (l : List Order) : (l.map fun r => if r.number = n then { r with state := .queued } else r).filter Order.isPending =
    (l.filter Order.isPending).filter (·.number != n) := by
  induction l with
  | nil => rfl
  | cons r l ih =>
    rw [List.map_cons, List.filter_cons, ih, List.filter_cons]
    by_cases hr : r.number = n
    · have hq : ({ r with state := .queued } : Order).isPending = false := rfl
      rw [if_pos hr, hq]
      cases r.isPending with
      | false => rfl
      | true => simp [hr]
    · rw [if_neg hr]
      cases r.isPending with
      | false => rfl
      | true => simp [hr]

theorem orderUnit_congr {b : OrderUnit} {t t' : List Order} {k k' : List Nat} {p p' : ScreenId} (ht : t = t') (hk : k = k') (hp : p = p') :
    ({ b with table := t, kitchen := k, pointer := p } : OrderUnit) = { b with table := t', kitchen := k', pointer := p' } := by
  rw [ht, hk, hp]

theorem serviceSteps_eq (k : Nat) (s : State) : State.serviceSteps k s = { s with orders := s.orders.afterService k } := by
  have hnothing (k : Nat) (b : OrderUnit) (h : servedBy k b.pointer (b.table.filter Order.isPending) = []) : b.afterService k = b := by
    unfold OrderUnit.afterService
    simp [h]
  induction k generalizing s with
  | zero =>
    rw [hnothing 0 _ rfl]
    rfl
  | succ k ih =>
    cases hn : s.orders.nextServed with
    | none => rw [State.serviceSteps, serviceStep_of_none hn, ih, hnothing k _ (servedBy_of_none hn k),
        hnothing (k + 1) _ (servedBy_of_none hn (k + 1))]
    | some o =>
      rw [State.serviceSteps, serviceStep_of_some hn, ih]
      refine congrArg (fun b => ({ s with orders := b } : State)) ?_
      have hserved : servedBy (k + 1) s.orders.pointer (s.orders.table.filter Order.isPending) =
          o :: servedBy k o.screen ((s.orders.table.filter Order.isPending).filter (·.number != o.number)) := by
        rw [servedBy]
        rw [show [s.orders.pointer + 1, s.orders.pointer + 2, s.orders.pointer + 3, s.orders.pointer].findSome? (fun i =>
          (s.orders.table.filter Order.isPending).find? (·.screen == i)) = some o from hn]
      have hpending : (s.orders.table.map fun r => if r.number = o.number then { r with state := .queued } else r).filter Order.isPending =
          (s.orders.table.filter Order.isPending).filter (·.number != o.number) := pending_of_queued o.number s.orders.table
      have hjoined : (((s.joinKitchen o.number).modOrders fun u => { u with pointer := o.screen }).orders) = { s.orders with
          kitchen := s.orders.kitchen ++ [o.number], pointer := o.screen
          table := s.orders.table.map fun r => if r.number = o.number then { r with state := .queued } else r } := rfl
      rw [hjoined]
      unfold OrderUnit.afterService
      dsimp only
      rw [hserved, hpending]
      refine orderUnit_congr ?_ ?_ ?_
      · rw [List.map_map]
        refine List.map_congr_left fun r _ => ?_
        simp only [Function.comp_apply, List.any_cons]
        by_cases hr : r.number = o.number
        · simp [hr]
        · simp [hr, Ne.symm hr]
      · rw [List.append_assoc]
        rfl
      · simp [List.getLast?_cons]

/-! ### The removal, written out (R169) -/

/-- The part once orders have been removed, the freed slots served and the crossings posted. -/
def State.removalServed (out : OrderOutcome) (os : List Order) (s : State) : State :=
  let gone := s.ordersOut out os
  let u := gone.orders.afterService (s.orders.kitchen.length - gone.orders.kitchen.length)
  State.postIf (s.orders.settings.low < s.orders.kitchen.length ∧ u.kitchen.length ≤ s.orders.settings.low) .kitchenLow (.fill u.kitchen.length)
    { gone with orders := u }

/-- The call queues that have become shorter, refilled (R132, R134). -/
def State.refilled (before : ScreenId → Nat) (s : State) : State :=
  (((s.fillIfShrunk 0 (before 0)).fillIfShrunk 1 (before 1)).fillIfShrunk 2 (before 2)).fillIfShrunk 3 (before 3)

theorem removeOrders_eq (out : OrderOutcome) (os : List Order) (s : State) :
    s.removeOrders out os = (s.removalServed out os).refilled fun i => (s.calls[i]).queue.length := by
  have hrest : (s.ordersOut out os).orders.kitchen.length ≤ s.orders.kitchen.length := List.length_filter_le _ _
  have hfill : ((s.ordersOut out os).orders.afterService (s.orders.kitchen.length - (s.ordersOut out os).orders.kitchen.length)).kitchen.length ≤
      s.orders.kitchen.length := by
    unfold OrderUnit.afterService
    rw [List.length_append, List.length_map]
    have hserved := servedBy_length (s.orders.kitchen.length - (s.ordersOut out os).orders.kitchen.length) (s.ordersOut out os).orders.pointer
      ((s.ordersOut out os).orders.table.filter Order.isPending)
    omega
  have hcrossed : (State.serviceSteps (s.orders.fill - (s.ordersOut out os).orders.fill) (s.ordersOut out os)).postCrossings s.orders.fill =
      s.removalServed out os := by
    rw [serviceSteps_eq]
    exact postCrossings_fall hfill
  unfold State.removeOrders
  dsimp only
  rw [removeAll_eq, hcrossed]
  rfl

/-! ### Orders but for their calls -/

/-- An order but for its owed mark and its calls. -/
def Order.core (o : Order) : Order := { o with owed := false, callsPlayed := 0, lastCallEnd := none }

/-- The Order Unit but for the owed marks and the calls of its orders. -/
def OrderUnit.core (u : OrderUnit) : OrderUnit := { u with table := u.table.map Order.core }

/-- Two states whose orders differ in their owed marks and calls alone. -/
def SameCore (s t : State) : Prop := t.orders.core = s.orders.core

theorem SameCore.refl (s : State) : SameCore s s := rfl

theorem SameCore.trans {s t u : State} (h : SameCore s t) (h' : SameCore t u) : SameCore s u := Eq.trans h' h

theorem SameCore.of_orders {s t : State} (h : t.orders = s.orders) : SameCore s t := congrArg OrderUnit.core h

theorem modOrder_sameCore (n : Nat) {f : Order → Order} (hf : ∀ o, (f o).core = o.core) (s : State) : SameCore s (s.modOrder n f) := by
  refine congrArg (fun l => { s.orders with table := l }) ?_
  refine List.map_map.trans (List.map_congr_left fun o _ => ?_)
  rw [Function.comp_apply]
  split
  · exact hf o
  · rfl

theorem owedFillFor_sameCore (k : Nat) (i : ScreenId) (s : State) : SameCore s (State.owedFillFor k i s) := by
  induction k generalizing s with
  | zero => exact .refl s
  | succ k ih =>
    unfold State.owedFillFor
    split
    · split
      · next n _ => exact ((modOrder_sameCore n (f := fun o => { o with owed := false }) (fun _ => rfl) s).trans (.of_orders rfl)).trans (ih _)
      · exact .refl s
    · exact .refl s

theorem reportPlayed_sameCore (e : CallEntry) (s : State) : SameCore s (s.reportPlayed e) := by
  cases e with
  | announce clips => exact .refl s
  | orderCall n =>
    refine modOrder_sameCore n (fun o => ?_) s
    split <;> rfl

theorem takeHead_sameCore (i : ScreenId) (m : MixSettings) (d : DuckState) (s : State) : SameCore s (s.takeHead i m d) := by
  unfold State.takeHead
  split
  · exact .refl s
  · next e rest hq =>
    refine SameCore.trans (t := s.modCalls i fun c => { c with queue := rest }) (.of_orders rfl) (.trans ?_ (owedFillFor_sameCore 16 i _))
    split
    · exact (reportPlayed_sameCore e _).trans (.of_orders rfl)
    · exact .of_orders rfl

theorem startScreen_sameCore (i : ScreenId) (s : State) : SameCore s (s.startScreen i) := by
  have hcalls (k : Nat) (s : State) : SameCore s (State.startCalls k i s) := by
    induction k generalizing s with
    | zero => exact .refl s
    | succ k ih =>
      unfold State.startCalls
      split
      · exact (takeHead_sameCore i _ _ s).trans (ih _)
      · exact .refl s
  exact hcalls _ s

theorem startAll_sameCore (s : State) : SameCore s s.startAll :=
  (startScreen_sameCore 0 s).trans <| (startScreen_sameCore 1 _).trans <| (startScreen_sameCore 2 _).trans <|
    (startScreen_sameCore 3 _).trans (.of_orders (serveReads_orders _))

theorem fillIfShrunk_sameCore (i : ScreenId) (n : Nat) (s : State) : SameCore s (s.fillIfShrunk i n) := by
  unfold State.fillIfShrunk
  split
  · exact owedFillFor_sameCore 16 i s
  · exact .refl s

theorem refilled_sameCore (before : ScreenId → Nat) (s : State) : SameCore s (s.refilled before) :=
  (fillIfShrunk_sameCore 0 _ s).trans <| (fillIfShrunk_sameCore 1 _ _).trans <| (fillIfShrunk_sameCore 2 _ _).trans (fillIfShrunk_sameCore 3 _ _)

/-! ### One screen while the queues are refilled -/

theorem fillIfShrunk_screenSame {i j : ScreenId} (hj : j ≠ i) (n : Nat) (s : State) : ScreenSame i s (s.fillIfShrunk j n) := by
  unfold State.fillIfShrunk
  split
  · exact {
      unit := (owedFill_callsOn j s).1 i hj.symm
      links := links_of_clearCalls (owedFill_frame j s)
      dir := onlyIn_of_clearCalls (owedFill_frame j s) .dir (by simp)
      owes := owedFillFor_owesSame hj 16 s }
  · exact .refl i s

/-- A screen while every queue is refilled: its own refill over what it was. -/
theorem refilled_screen (before : ScreenId → Nat) (i : ScreenId) (s : State) :
    ∃ t, ScreenSame i s t ∧ ScreenSame i (t.fillIfShrunk i (before i)) (s.refilled before) := by
  unfold State.refilled
  obtain rfl | rfl | rfl | rfl := screen_cases i
  · exact ⟨s, .refl 0 s, (fillIfShrunk_screenSame (by decide) _ _).trans <| (fillIfShrunk_screenSame (by decide) _ _).trans
      (fillIfShrunk_screenSame (by decide) _ _)⟩
  · exact ⟨s.fillIfShrunk 0 (before 0), fillIfShrunk_screenSame (by decide) _ s,
      (fillIfShrunk_screenSame (by decide) _ _).trans (fillIfShrunk_screenSame (by decide) _ _)⟩
  · exact ⟨(s.fillIfShrunk 0 (before 0)).fillIfShrunk 1 (before 1),
      (fillIfShrunk_screenSame (by decide) _ s).trans (fillIfShrunk_screenSame (by decide) _ _), fillIfShrunk_screenSame (by decide) _ _⟩
  · exact ⟨((s.fillIfShrunk 0 (before 0)).fillIfShrunk 1 (before 1)).fillIfShrunk 2 (before 2),
      (fillIfShrunk_screenSame (by decide) _ s).trans <| (fillIfShrunk_screenSame (by decide) _ _).trans (fillIfShrunk_screenSame (by decide) _ _),
      .refl 3 _⟩

/-- What a screen is owed once the marks of some orders have been cleared. -/
theorem owes_unowed_list (i : ScreenId) (ns : List Nat) (m : Nat) (s : State) :
    ({ s with orders := s.orders.unowed ns } : State).owes i m = (s.owes i m && !ns.contains m) := by
  induction ns generalizing s with
  | nil =>
    rw [OrderUnit.unowed_nil]
    simp
  | cons n ns ih =>
    have hrest := ih { s with orders := s.orders.unowed [n] }
    rw [owes_unowed] at hrest
    rw [OrderUnit.unowed_cons]
    refine hrest.trans ?_
    rw [List.contains_cons, Bool.not_or, Bool.and_assoc]
    rfl

/-- The orders that join a screen's queue behind a withdrawal: all that there is room for (log 24). -/
def State.refill (i : ScreenId) (before : Nat) (s : State) : List Nat :=
  if (s.calls[i]).queue.length < before then (s.owedNow i).take (16 - (s.calls[i]).queue.length) else []

theorem fillIfShrunk_eq (i : ScreenId) (before : Nat) (s : State) : s.fillIfShrunk i before = { s with
    calls := upd s.calls i fun c => { c with queue := c.queue ++ (s.refill i before).map CallEntry.orderCall }
    orders := s.orders.unowed (s.refill i before) } := by
  unfold State.fillIfShrunk State.refill
  split
  · exact owedFill_eq i s
  · have hcalls : (upd s.calls i fun c => { c with queue := c.queue ++ ([] : List Nat).map CallEntry.orderCall }) = s.calls :=
      upd_eq_self (by rw [List.map_nil, List.append_nil])
    rw [hcalls, OrderUnit.unowed_nil]

/-- A screen's queue and what it is owed once every queue has been refilled. -/
theorem refilled_unit (before : ScreenId → Nat) (i : ScreenId) (s : State) :
    (s.refilled before).calls[i] = { s.calls[i] with
      queue := (s.calls[i]).queue ++ (s.refill i (before i)).map CallEntry.orderCall } ∧
    (s.refilled before).links = s.links ∧ (s.refilled before).dir = s.dir ∧
    ∀ n, (s.refilled before).owes i n = (s.owes i n && !(s.refill i (before i)).contains n) := by
  obtain ⟨t, hbefore, hafter⟩ := refilled_screen before i s
  have hrefill : t.refill i (before i) = s.refill i (before i) := by
    unfold State.refill
    rw [hbefore.unit, hbefore.owes.owedNow]
  have hfilled := fillIfShrunk_eq i (before i) t
  rw [hrefill] at hfilled
  refine ⟨?_, ?_, ?_, fun n => ?_⟩
  · rw [hafter.unit, hfilled]
    refine (upd_get_self _ _ _).trans ?_
    rw [hbefore.unit]
  · rw [hafter.links, hfilled]
    exact hbefore.links
  · rw [hafter.dir, hfilled]
    exact hbefore.dir
  · rw [hafter.owes.2, hfilled, ← hbefore.owes.2]
    exact owes_unowed_list i (s.refill i (before i)) n t

end Sys2Proof.Machine

/-! What the removal of orders leaves, as `ordersGone` and `cancelledPosted` name it (for O10, O17, O47). -/

namespace Sys2Proof.Machine

/-! ### Lists and orders by number -/

theorem eraseDups_of_nodup {l : List Nat} (h : l.Nodup) : l.eraseDups = l := by
  induction l with
  | nil => rfl
  | cons a l ih =>
    obtain ⟨ha, hl⟩ := List.nodup_cons.mp h
    have hkeep : (l.filter fun b => !b == a) = l := List.filter_eq_self.mpr fun b hb => by
      have hne : b ≠ a := fun he => ha (he ▸ hb)
      simp [hne]
    rw [List.eraseDups_cons, hkeep, ih hl]

theorem eq_of_order_number {l : List Order} (h : (l.map (·.number)).Nodup) {o r : Order} (ho : o ∈ l) (hr : r ∈ l) (hn : o.number = r.number) :
    o = r := List.inj_on_of_nodup_map h ho hr hn

theorem order?_of_mem {s : State} (h : (s.orders.table.map (·.number)).Nodup) {o : Order} (ho : o ∈ s.orders.table) : s.order? o.number = some o := by
  cases hf : s.order? o.number with
  | none => exact absurd (List.find?_eq_none.mp hf o ho) (by simp)
  | some r => rw [eq_of_order_number h (List.mem_of_find?_eq_some hf) ho (order?_number hf)]

theorem orderUnit_of_core {u v : OrderUnit} (h : u.core = v.core) : u = { v with table := u.table } := by
  obtain ⟨⟩ := u
  obtain ⟨⟩ := v
  simp only [OrderUnit.core, OrderUnit.mk.injEq] at h
  obtain ⟨-, rfl, rfl, rfl, rfl, rfl, rfl, rfl⟩ := h
  rfl

theorem core_table {u v : OrderUnit} (h : u.core = v.core) : u.table.map Order.core = v.table.map Order.core := congrArg OrderUnit.table h

theorem core_numbers {u v : OrderUnit} (h : u.core = v.core) : u.table.map (·.number) = v.table.map (·.number) := by
  have hnumber : (fun o : Order => o.number) = (fun o : Order => o.number) ∘ Order.core := rfl
  rw [hnumber, ← List.map_map, ← List.map_map, core_table h]

/-! ### A screen on which no call can start -/

theorem startScreen_screenSame_of_not {i : ScreenId} {s : State} (h : ¬s.ready i) (j : ScreenId) : ScreenSame i s (s.startScreen j) := by
  by_cases hj : j = i
  · subst hj
    rw [startScreen_of_not fun hr => h hr.1]
    exact .refl j s
  · exact startScreen_screenSame hj s

theorem startAll_owesSame {i : ScreenId} {s : State} (h : ¬s.ready i) : OwesSame i s s.startAll := by
  have h0 := startScreen_screenSame_of_not h 0
  have h1 := h0.trans (startScreen_screenSame_of_not (h0.ready_iff.not.mpr h) 1)
  have h2 := h1.trans (startScreen_screenSame_of_not (h1.ready_iff.not.mpr h) 2)
  have h3 := h2.trans (startScreen_screenSame_of_not (h2.ready_iff.not.mpr h) 3)
  exact h3.owes.trans (.of_orders (serveReads_orders _))

/-! ### The orders left (R169) -/

section Removal

variable {out : OrderOutcome} {os : List Order} {s : State}

/-- The orders of the table that stay. -/
def othersOf (os : List Order) (u : OrderUnit) : List Order := u.table.filter fun r => !(os.map (·.number)).contains r.number

/-- The orders that the freed slots take. -/
def servedOf (os : List Order) (u : OrderUnit) : List Order :=
  servedBy (u.kitchen.length - (u.kitchen.filter fun n => !(os.map (·.number)).contains n).length) u.pointer
    ((othersOf os u).filter Order.isPending)

theorem removalServed_orders (out : OrderOutcome) (os : List Order) (s : State) : (s.removalServed out os).orders = { s.orders with
    table := (othersOf os s.orders).map fun r => if (servedOf os s.orders).any (·.number == r.number) then { r with state := .queued } else r
    kitchen := (s.orders.kitchen.filter fun n => !(os.map (·.number)).contains n) ++ (servedOf os s.orders).map (·.number)
    shelf := s.orders.shelf.filter fun n => !(os.map (·.number)).contains n
    pointer := ((servedOf os s.orders).getLast?.map (·.screen)).getD s.orders.pointer
    totals := s.orders.totals.countMany out os.length } := by
  unfold State.removalServed
  dsimp only
  rw [postIf_orders]
  rfl

theorem removalServed_same (out : OrderOutcome) (os : List Order) (s : State) : (s.removalServed out os).links = s.links ∧
    (s.removalServed out os).dir = s.dir ∧ (s.removalServed out os).calls = (s.ordersOut out os).calls := by
  have hpost (c : Bool) (k : EventKind) (d : Detail) (t : State) : (State.postIf c k d t).links = t.links ∧ (State.postIf c k d t).dir = t.dir ∧
      (State.postIf c k d t).calls = t.calls := by cases c <;> exact ⟨rfl, rfl, rfl⟩
  unfold State.removalServed
  dsimp only
  rw [(hpost _ _ _ _).1, (hpost _ _ _ _).2.1, (hpost _ _ _ _).2.2]
  exact ⟨rfl, rfl, rfl⟩

theorem removalServed_order? {n : Nat} (hn : n ∉ os.map (·.number)) : ∃ g : Order → Order,
    (∀ o, (g o).owed = o.owed ∧ (g o).screen = o.screen) ∧ (s.removalServed out os).order? n = (s.order? n).map g := by
  let g : Order → Order := fun r => if (servedOf os s.orders).any (·.number == r.number) then { r with state := .queued } else r
  have hg (o : Order) : (g o).owed = o.owed ∧ (g o).screen = o.screen ∧ (g o).number = o.number := by
    simp only [g]
    split <;> exact ⟨rfl, rfl, rfl⟩
  refine ⟨g, fun o => ⟨(hg o).1, (hg o).2.1⟩, ?_⟩
  unfold State.order?
  rw [removalServed_orders]
  refine List.find?_map.trans (congrArg (Option.map g) ?_)
  rw [othersOf, List.find?_filter]
  refine congrArg (fun p => s.orders.table.find? p) (funext fun o => ?_)
  rw [Function.comp_apply, (hg o).2.2]
  by_cases ho : o.number = n
  · simp [ho, hn]
  · simp [ho]

theorem removalServed_owes (i : ScreenId) {n : Nat} (hn : n ∉ os.map (·.number)) : (s.removalServed out os).owes i n = s.owes i n := by
  obtain ⟨g, hg, hfound⟩ := removalServed_order? (out := out) (s := s) hn
  unfold State.owes
  rw [hfound]
  cases s.order? n with
  | none => rfl
  | some o =>
    rw [Option.map_some, Option.any_some, Option.any_some, (hg o).1, (hg o).2]

theorem removalServed_owedNow (i : ScreenId) (hshelf : s.orders.shelf.Nodup) :
    (s.removalServed out os).owedNow i = (s.owedNow i).filter fun n => !(os.map (·.number)).contains n := by
  have howed (u : State) : u.owedNow i = (u.orders.shelf.filter (u.owes i)).eraseDups := rfl
  have hshelf' : (s.removalServed out os).orders.shelf = s.orders.shelf.filter fun n => !(os.map (·.number)).contains n := by
    rw [removalServed_orders]
  rw [howed, howed, hshelf', eraseDups_of_nodup ((hshelf.filter _).filter _), eraseDups_of_nodup (hshelf.filter _), List.filter_filter,
    List.filter_filter]
  refine List.filter_congr fun n _ => ?_
  by_cases hn : n ∈ os.map (·.number)
  · simp [hn]
  · rw [removalServed_owes i hn, Bool.and_comm]

/-! ### Calls withdrawn (R134) -/

/-- In a book that keeps its laws an order is called on its own screen alone. -/
theorem withdrawn_queue (hlaw : s.bookLaws) (hos : ∀ o ∈ os, o ∈ s.orders.table) (i : ScreenId) :
    ((s.ordersOut out os).calls[i]).queue = (s.calls[i]).queue.filter fun e => (os.map (·.number)).all fun n => e != .orderCall n := by
  obtain ⟨hnodup, -, -, -, -, hcalls, -⟩ := hlaw
  have hunit : (s.ordersOut out os).calls[i] = { s.calls[i] with
      queue := (s.calls[i]).queue.filter fun e => os.all fun o => !(o.screen == i && e == .orderCall o.number) } := by
    unfold State.ordersOut
    simp
  rw [hunit]
  refine List.filter_congr fun e he => ?_
  rw [List.all_map, Bool.eq_iff_iff, List.all_eq_true, List.all_eq_true]
  refine forall₂_congr fun o ho => ?_
  rw [Function.comp_apply]
  by_cases hcall : e = .orderCall o.number
  · obtain ⟨r, hr, hn, -, hscreen⟩ := hcalls i o.number (hcall ▸ he)
    rw [← eq_of_order_number hnodup hr (hos o ho) hn, hscreen]
    simp [bne]
  · simp [hcall]

theorem bookLaws_congr {t : State} (ho : t.orders = s.orders) (hc : t.calls = s.calls) (h : s.bookLaws) : t.bookLaws := by
  unfold State.bookLaws
  rw [ho, hc]
  exact h

/-- Two states that agree in what the start of calls turns on. -/
structure CallsAlike (s t : State) : Prop where
  orders : t.orders = s.orders
  calls : t.calls = s.calls
  links : t.links = s.links
  dir : t.dir = s.dir

theorem CallsAlike.screenSame {t : State} (h : CallsAlike s t) (i : ScreenId) : ScreenSame i s t where
  unit := by rw [h.calls]
  links := h.links
  dir := h.dir
  owes := .of_orders h.orders

/-- The orders of the part after a removal and the calls it may have set going, but for their owed marks and calls. -/
theorem removed_core {z : State} (hz : CallsAlike (s.removeOrders out os) z) : z.startAll.orders.core = (s.removalServed out os).orders.core := by
  have hrefilled : SameCore (s.removalServed out os) (s.removeOrders out os) := by
    rw [removeOrders_eq]
    exact refilled_sameCore _ _
  exact (hrefilled.trans (.of_orders hz.orders)).trans (startAll_sameCore z)

theorem removed_bookLaws {z : State} (hlaw : s.bookLaws) (hos : os.Sublist s.orders.table) (hz : CallsAlike (s.removeOrders out os) z) :
    z.startAll.bookLaws := by
  have hkept : (s.removeOrders out os).bookLaws :=
    (bookLaws_iff _).mpr ((removeOrders_keeps out fun hn => .of_sublist hos hn).law ((bookLaws_iff s).mp hlaw))
  exact (bookLaws_iff _).mpr ((startAll_calls z).law ((bookLaws_iff z).mp (bookLaws_congr hz.orders hz.calls hkept)))

theorem removed_numbers {z : State} (hz : CallsAlike (s.removeOrders out os) z) :
    z.startAll.orders.table.map (·.number) = (othersOf os s.orders).map (·.number) := by
  rw [core_numbers (removed_core hz), removalServed_orders]
  refine List.map_map.trans (List.map_congr_left fun o _ => ?_)
  rw [Function.comp_apply]
  split <;> rfl

/-- An order that stays is found again, on its screen. -/
theorem removed_order {z : State} (hnodup : (s.orders.table.map (·.number)).Nodup) (hz : CallsAlike (s.removeOrders out os) z) {o : Order}
    (ho : o ∈ s.orders.table) (hout : o.number ∉ os.map (·.number)) :
    ∃ r ∈ z.startAll.orders.table, r.number = o.number ∧ r.screen = o.screen := by
  have hother : o ∈ othersOf os s.orders := List.mem_filter.mpr ⟨ho, by simpa using hout⟩
  have hmem : o.number ∈ z.startAll.orders.table.map (·.number) := by
    rw [removed_numbers hz]
    exact List.mem_map_of_mem hother
  obtain ⟨r, hr, hn⟩ := List.mem_map.mp hmem
  have hcore : r.core ∈ (s.removalServed out os).orders.table.map Order.core := by
    rw [← core_table (removed_core hz)]
    exact List.mem_map_of_mem hr
  rw [removalServed_orders] at hcore
  obtain ⟨r', hr', hcore'⟩ := List.mem_map.mp hcore
  obtain ⟨v, hv, rfl⟩ := List.mem_map.mp hr'
  have hvr : v.number = r.number ∧ v.screen = r.screen := by
    have hnumber := congrArg Order.number hcore'
    have hscreen := congrArg Order.screen hcore'
    split at hnumber
    · next h =>
      rw [if_pos h] at hscreen
      exact ⟨hnumber, hscreen⟩
    · next h =>
      rw [if_neg h] at hscreen
      exact ⟨hnumber, hscreen⟩
  have hvo : v = o := eq_of_order_number hnodup (List.mem_filter.mp hv).1 ho (hvr.1.trans hn)
  exact ⟨r, hr, hn, by rw [← hvo, hvr.2]⟩

/-- What a removal leaves of the call queues and the owed marks, the calls it may have set going included. -/
theorem removed_withdrawn {z : State} (hlaw : s.bookLaws) (hos : os.Sublist s.orders.table) (hz : CallsAlike (s.removeOrders out os) z) :
    s.withdrawnFill (os.map (·.number)) z.startAll := by
  have hkept := removed_bookLaws hlaw hos hz
  have hqueue := withdrawn_queue (out := out) hlaw fun o ho => hos.subset ho
  obtain ⟨hnodup', -, -, -, -, hcalls', -⟩ := hkept
  obtain ⟨hnodup, -, hshelf, -, -, -, -⟩ := hlaw
  have hnumbers := removed_numbers hz
  refine ⟨fun i n hn hcall => ?_, fun i hnot => ?_⟩
  · obtain ⟨o, ho, hon, -, -⟩ := hcalls' i n hcall
    have hmem : n ∈ (othersOf os s.orders).map (·.number) := by
      rw [← hnumbers, ← hon]
      exact List.mem_map_of_mem ho
    obtain ⟨r, hr, rfl⟩ := List.mem_map.mp hmem
    have hout := (List.mem_filter.mp hr).2
    simp [hn] at hout
  · intro queue rest joined
    obtain ⟨hlinks, hdir, hserved⟩ := removalServed_same out os s
    have hfixed (c : ScreenId → Nat) := refilled_unit c i (s.removalServed out os)
    obtain ⟨hunit, hlinks', hdir', howes⟩ := hfixed fun i => (s.calls[i]).queue.length
    rw [← removeOrders_eq] at hunit hlinks' hdir' howes
    have hunit0 : (s.removalServed out os).calls[i] = { s.calls[i] with queue := rest } := by
      have hout : (s.ordersOut out os).calls[i] = { s.calls[i] with queue := ((s.ordersOut out os).calls[i]).queue } := by
        unfold State.ordersOut
        simp
      rw [hserved, hout, hqueue i]
    have hjoined : (s.removalServed out os).refill i (s.calls[i]).queue.length = joined := by
      unfold State.refill
      rw [hunit0, removalServed_owedNow i hshelf]
    rw [hjoined, hunit0] at hunit
    rw [hjoined] at howes
    have hready : ¬z.ready i := by
      rw [(hz.screenSame i).ready_iff]
      unfold State.ready
      rw [hunit, hlinks', hdir', hlinks, hdir]
      exact hnot
    have hstays := startAll_stays hready
    rw [hz.calls, hunit] at hstays
    refine ⟨by rw [hstays.1], fun o ho hscreen hout => ?_⟩
    have howned : z.startAll.owes i o.number = (o.owed && !joined.contains o.number) := by
      rw [(startAll_owesSame hready).2, (hz.screenSame i).owes.2, howes, removalServed_owes i hout, State.owes, order?_of_mem hnodup ho,
        Option.any_some, hscreen, beq_self_eq_true, Bool.and_true]
    obtain ⟨r, hr, hn, hrs⟩ := removed_order hnodup hz ho hout
    rw [← hn, State.owes, order?_of_mem hnodup' hr, Option.any_some, hrs, hscreen, beq_self_eq_true, Bool.and_true, hn] at howned
    exact ⟨r, hr, hn, howned⟩

/-! ### The events of a removal (R162, R169 to R171) -/

theorem removeAll_posts (out : OrderOutcome) (os : List Order) (s : State) : Posts (removalKinds out) s (os.foldl (State.removeOne out) s) := by
  induction os generalizing s with
  | nil => exact .refl _ s
  | cons o os ih => exact (removeOne_posts out s o).trans (ih _)

theorem ordersOut_posts (out : OrderOutcome) (os : List Order) (s : State) : Posts (removalKinds out) s (s.ordersOut out os) := by
  rw [← removeAll_eq]
  exact removeAll_posts out os s

theorem refilled_posts (before : ScreenId → Nat) (s : State) : Posts [] s (s.refilled before) := by
  have filled (i : ScreenId) (n : Nat) (u : State) : Posts [] u (u.fillIfShrunk i n) := by rw [fillIfShrunk_eq]; exact .of_ports rfl
  exact (filled 0 _ s).trans <| (filled 1 _ _).trans <| (filled 2 _ _).trans (filled 3 _ _)

theorem removalServed_posts (out : OrderOutcome) (os : List Order) (s : State) :
    Posts [.kitchenLow] (s.ordersOut out os) (s.removalServed out os) := by
  unfold State.removalServed
  dsimp only
  exact posts_ite (fun _ => (post_posts _ _ (by simp)).after rfl) fun _ => .of_ports rfl

theorem removeOrders_posts_low (out : OrderOutcome) (os : List Order) (s : State) : Posts [] (s.removalServed out os) (s.removeOrders out os) := by
  rw [removeOrders_eq]
  exact refilled_posts _ _

theorem startAll_posts_none (z : State) : Posts [] z z.startAll := clearCalls_posts (startAll_frame z)

/-- The removal of orders as a whole (R162, R164, R169). -/
theorem removed_gone {totals : OrderTotals} {ks : List EventKind} {z : State} (hlaw : s.bookLaws) (hos : os.Sublist s.orders.table)
    (hz : CallsAlike (s.removeOrders out os) z) (hp : Posts ks (s.removeOrders out os) z) (hks : .kitchenLow ∉ ks)
    (htotals : s.orders.totals.countMany out os.length = totals) : s.ordersGone os totals z.startAll := by
  have hcore := removed_core hz
  have hafter : Posts ks (s.removalServed out os) z.startAll :=
    ((removeOrders_posts_low out os s).mono (List.nil_subset _)).trans (hp.trans ((startAll_posts_none z).mono (List.nil_subset _)))
  have hbefore := ordersOut_posts out os s
  have hkinds : EventKind.kitchenLow ∉ removalKinds out := by cases out <;> decide
  refine ⟨?_, ?_, removed_withdrawn hlaw hos hz, ?_⟩
  · rw [orderUnit_of_core hcore, removalServed_orders, htotals]
    rfl
  · refine (core_table hcore).trans ?_
    rw [removalServed_orders]
    refine List.map_map.trans (List.map_congr_left fun o _ => ?_)
    rw [Function.comp_apply]
    by_cases h : (servedOf os s.orders).any (·.number == o.number) = true
    · rw [if_pos h]
      exact congrArg (fun st => ({ o with state := st, owed := false, callsPlayed := 0, lastCallEnd := none } : Order)) (if_pos h).symm
    · rw [if_neg h]
      exact congrArg (fun st => ({ o with state := st, owed := false, callsPlayed := 0, lastCallEnd := none } : Order)) (if_neg h).symm
  · let rest := s.orders.kitchen.filter fun n => !(os.map (·.number)).contains n
    let u := (s.ordersOut out os).orders.afterService (s.orders.kitchen.length - rest.length)
    have hlen : u.kitchen.length = rest.length + (servedOf os s.orders).length := by
      have hkitchen : u.kitchen = rest ++ (servedOf os s.orders).map (·.number) := rfl
      rw [hkitchen, List.length_append, List.length_map]
    have hserved : s.removalServed out os = State.postIf
        (s.orders.settings.low < s.orders.kitchen.length ∧ rest.length + (servedOf os s.orders).length ≤ s.orders.settings.low)
        .kitchenLow (.fill (rest.length + (servedOf os s.orders).length)) { s.ordersOut out os with orders := u } := by
      rw [← hlen]
      rfl
    rw [hserved] at hafter
    have hreached : Posts (removalKinds out) s { s.ordersOut out os with orders := u } := hbefore.trans (.of_ports rfl)
    by_cases h : s.orders.settings.low < s.orders.kitchen.length ∧ rest.length + (servedOf os s.orders).length ≤ s.orders.settings.low
    · rw [decide_eq_true h] at hafter
      exact (if_pos h).mpr (flagPosted_of_posts hreached hkinds hafter hks)
    · rw [decide_eq_false h] at hafter
      exact (if_neg h).mpr ((((hreached.mono (List.subset_append_left _ ks)).trans (hafter.mono (List.subset_append_right _ ks)))).kept fun hmem =>
        (List.mem_append.mp hmem).elim hkinds hks)

/-- ORDER_CANCELLED once for each order cancelled, the last one's number as its detail. -/
theorem postRemovals_cancelled (hkinds : ∀ (n : Nat) (u : State), u.postRemoval out n = u.post .orderCancelled (.order n)) (os : List Order) (s : State) :
    s.cancelledPosted os (os.foldl (fun u o => u.postRemoval out o.number) s) := by
  induction os generalizing s with
  | nil => exact fun _ => rfl
  | cons o os ih =>
    intro j
    have hrest := ih (s.post .orderCancelled (.order o.number)) j
    rw [post_flag] at hrest
    rw [List.foldl_cons, hkinds, hrest, List.getLast?_cons]
    cases hl : os.getLast? with
    | none =>
      rw [List.getLast?_eq_none_iff.mp hl]
      rfl
    | some r =>
      dsimp only [Option.getD_some, Flag.post]
      refine congrArg (fun n => ({ state := .pending, count := n, detail := some (.order r.number) } : Flag)) ?_
      rw [List.length_cons, satAdd]
      omega

theorem removed_cancelled {ks : List EventKind} {z : State} (hkinds : ∀ (n : Nat) (u : State), u.postRemoval out n = u.post .orderCancelled (.order n))
    (hp : Posts ks (s.removeOrders out os) z) (hks : .orderCancelled ∉ ks) : s.cancelledPosted os z.startAll := by
  have hserved : Posts (.kitchenLow :: ks) (s.ordersOut out os) (s.removeOrders out os) :=
    ((removalServed_posts out os s).mono (by simp)).trans ((removeOrders_posts_low out os s).mono (List.nil_subset _))
  have hafter : Posts (.kitchenLow :: ks) (s.ordersOut out os) z.startAll :=
    hserved.trans ((hp.mono (List.subset_cons_self _ _)).trans ((startAll_posts_none z).mono (List.nil_subset _)))
  intro j
  rw [hafter.flag (by simpa using hks)]
  exact postRemovals_cancelled hkinds os s j

end Removal

/-! ### Removals told from another state -/

theorem ordersGone_congr {gone : List Order} {totals : OrderTotals} {s s' u u' : State} (hs : CallsAlike s s') (hsf : SameFlags s s')
    (huo : u'.orders = u.orders) (huc : u'.calls = u.calls) (huf : SameFlags u u') (h : s'.ordersGone gone totals u) :
    s.ordersGone gone totals u' := by
  have howed (i : ScreenId) : s'.owedNow i = s.owedNow i := owedNow_congr hs.orders
  unfold State.ordersGone State.withdrawnFill at h ⊢
  rw [hs.orders, hs.calls, hs.links, hs.dir, ← huo, ← huc] at h
  simp only [howed] at h
  obtain ⟨horders, htable, hfill, hlow⟩ := h
  refine ⟨horders, htable, hfill, ?_⟩
  split
  · next hc =>
    rw [if_pos hc] at hlow
    exact flagPosted_congr hsf huf hlow
  · next hc =>
    rw [if_neg hc] at hlow
    exact flagKept_congr hsf huf hlow

theorem cancelledPosted_congr {gone : List Order} {s s' u u' : State} (hs : SameFlags s s') (hu : SameFlags u u')
    (h : s'.cancelledPosted gone u) : s.cancelledPosted gone u' := by
  intro j
  rw [hu, h j, hs]

/-! ### Outcomes counted (R173) -/

theorem inc16_iterate (k : Nat) {x : Nat} (h : x ≤ 65535) : inc16^[k] x = min 65535 (x + k) := by
  induction k with
  | zero => simp [h]
  | succ k ih =>
    rw [Function.iterate_succ_apply', ih, inc16, satAdd]
    omega

/-- An outcome counted a number of times, by the total that it counts in. -/
theorem countMany_eq {out : OrderOutcome} {f : OrderTotals → Nat} {set : Nat → OrderTotals → OrderTotals}
    (hcount : ∀ t, t.countOutcome out = set (inc16 (f t)) t) (hget : ∀ x t, f (set x t) = x) (hset : ∀ x y t, set x (set y t) = set x t)
    (hself : ∀ t, set (f t) t = t) (k : Nat) {t : OrderTotals} (h : f t ≤ 65535) : t.countMany out k = set (min 65535 (f t + k)) t := by
  rw [← inc16_iterate k h]
  unfold OrderTotals.countMany
  induction k with
  | zero => exact (hself t).symm
  | succ k ih => rw [Function.iterate_succ_apply', ih, hcount, hget, hset, Function.iterate_succ_apply']

theorem countMany_voided (k : Nat) {t : OrderTotals} (h : t.voided ≤ 65535) :
    t.countMany .voided k = { t with voided := min 65535 (t.voided + k) } :=
  countMany_eq (f := (·.voided)) (set := fun x t => { t with voided := x }) (fun _ => rfl) (fun _ _ => rfl) (fun _ _ _ => rfl) (fun _ => rfl) k h

theorem countMany_departed (k : Nat) {t : OrderTotals} (h : t.departed ≤ 65535) :
    t.countMany .departed k = { t with departed := min 65535 (t.departed + k) } :=
  countMany_eq (f := (·.departed)) (set := fun x t => { t with departed := x }) (fun _ => rfl) (fun _ _ => rfl) (fun _ _ _ => rfl) (fun _ => rfl) k h

theorem countMany_showEnded (k : Nat) {t : OrderTotals} (h : t.showEnded ≤ 65535) :
    t.countMany .showEnded k = { t with showEnded := min 65535 (t.showEnded + k) } :=
  countMany_eq (f := (·.showEnded)) (set := fun x t => { t with showEnded := x }) (fun _ => rfl) (fun _ _ => rfl) (fun _ _ _ => rfl) (fun _ => rfl) k h

theorem countMany_expired (k : Nat) {t : OrderTotals} (h : t.expired ≤ 65535) :
    t.countMany .expired k = { t with expired := min 65535 (t.expired + k) } :=
  countMany_eq (f := (·.expired)) (set := fun x t => { t with expired := x }) (fun _ => rfl) (fun _ _ => rfl) (fun _ _ _ => rfl) (fun _ => rfl) k h

end Sys2Proof.Machine

/-! COLLECT_ORDER and CANCEL_ORDER (O47). -/

namespace Sys2Proof.Machine

/-! ### The whole part after a removal -/

theorem eq_of_clearOrders {s t : State} (h : t.clearOrders = s.clearOrders) :
    t = { s with tickets := t.tickets, orders := t.orders, calls := t.calls, ports := t.ports } := by
  obtain ⟨⟩ := t
  obtain ⟨⟩ := s
  simp only [State.clearOrders, State.mk.injEq] at h
  obtain ⟨rfl, rfl, rfl, -, rfl, rfl, rfl, rfl, rfl, rfl, rfl, rfl, rfl, rfl, rfl, rfl, -, rfl, rfl, rfl, -, rfl, rfl, -⟩ := h
  rfl

theorem refilled_frame (before : ScreenId → Nat) (s : State) : (s.refilled before).clearCalls = s.clearCalls := by
  have filled (i : ScreenId) (n : Nat) (u : State) : (u.fillIfShrunk i n).clearCalls = u.clearCalls := by rw [fillIfShrunk_eq]; rfl
  exact (filled 3 _ _).trans <| (filled 2 _ _).trans <| (filled 1 _ _).trans (filled 0 _ s)

theorem removeOrders_tickets (out : OrderOutcome) (os : List Order) (s : State) : (s.removeOrders out os).tickets =
    s.tickets.map fun t => { t with openOrders := t.openOrders - os.countP (·.ticket == t.number) } := by
  have hserved : (s.removalServed out os).tickets = (s.ordersOut out os).tickets := by
    unfold State.removalServed State.postIf
    dsimp only
    split <;> rfl
  have hrefilled : (s.removeOrders out os).tickets = (s.removalServed out os).tickets := by
    rw [removeOrders_eq]
    exact onlyIn_of_clearCalls (refilled_frame _ _) .tickets (by simp)
  rw [hrefilled, hserved]
  rfl

/-- A removal from a port's request, with the calls it may set going and the reply. -/
theorem removal_reply {p : PortId} {code tag : Byte} {b : List Byte} {out : OrderOutcome} {os : List Order} {totals : OrderTotals} {s : State}
    (hlaw : s.bookLaws) (hos : os.Sublist s.orders.table) (htotals : s.orders.totals.countMany out os.length = totals) :
    let u := State.replied p code tag b ((s.taken p).removeOrders out os).startAll
    u = { s with tickets := u.tickets, orders := u.orders, calls := u.calls, reader := u.reader, ports := u.ports } ∧
      u.tickets = (s.tickets.map fun t => { t with openOrders := t.openOrders - os.countP (·.ticket == t.number) }) ∧
      s.ordersGone os totals u ∧ s.flagsKeptBut (.kitchenLow :: removalKinds out) u ∧ s.answeredAt p code tag .ok b u ∧
      ((∀ (n : Nat) (u : State), u.postRemoval out n = u.post .orderCancelled (.order n)) → s.cancelledPosted os u) := by
  have htaken : CallsAlike s (s.taken p) := ⟨rfl, rfl, rfl, rfl⟩
  have hflags := taken_sameFlags p s
  have hposts : Posts (.kitchenLow :: removalKinds out) (s.taken p) ((s.taken p).removeOrders out os).startAll :=
    (removeOrders_posts out os (s.taken p)).trans ((startAll_posts_none _).mono (by simp))
  have hgone := removed_gone (out := out) (s := s.taken p) (z := (s.taken p).removeOrders out os)
    (bookLaws_congr htaken.orders htaken.calls hlaw) hos ⟨rfl, rfl, rfl, rfl⟩ (.refl [] _) (by simp) htotals
  have hcancelled := removed_cancelled (out := out) (os := os) (ks := []) (s := s.taken p) (z := (s.taken p).removeOrders out os)
  have hwhole := eq_of_clearCalls (startAll_frame ((s.taken p).removeOrders out os))
  have hremoved := eq_of_clearOrders (removeOrders_frame out os (s.taken p))
  have htickets := removeOrders_tickets out os (s.taken p)
  have htickets' : ((s.taken p).removeOrders out os).startAll.tickets = ((s.taken p).removeOrders out os).tickets :=
    onlyIn_of_clearCalls (startAll_frame _) .tickets (by simp)
  intro u
  have hanswered : s.answeredAt p code tag .ok b u := answeredAt_of_posts hposts
  have hu : u = State.replied p code tag b ((s.taken p).removeOrders out os).startAll := rfl
  have hreplied := replied_sameFlags p code tag b ((s.taken p).removeOrders out os).startAll
  clear_value u
  generalize ((s.taken p).removeOrders out os).startAll = z at hposts hgone hcancelled hwhole htickets' hreplied hu
  generalize (s.taken p).removeOrders out os = m at hwhole hremoved htickets htickets'
  rw [← hu] at hreplied
  have horders : u.orders = z.orders := by rw [hu]; rfl
  have hcalls : u.calls = z.calls := by rw [hu]; rfl
  refine ⟨?_, ?_, ordersGone_congr htaken hflags horders hcalls hreplied hgone, flagsKeptBut_congr hflags hreplied hposts.keptBut, hanswered,
    fun hkinds => cancelledPosted_congr hflags hreplied (hcancelled hkinds (.refl _ _) (by simp))⟩
  · rw [hu, hwhole, hremoved]
    rfl
  · rw [hu]
    exact htickets'.trans htickets

/-! ### One order removed -/

section One

variable {o : Order} {totals : OrderTotals} {s u : State}

/-- An order that is not in the kitchen queue frees no slot. -/
theorem gone_of_not_queued (h : s.ordersGone [o] totals u) (hk : o.number ∉ s.orders.kitchen) :
    u.orders.kitchen = s.orders.kitchen ∧ u.orders.pointer = s.orders.pointer ∧ s.flagKept .kitchenLow u := by
  have hrest : (s.orders.kitchen.filter fun n => !([o].map (·.number)).contains n) = s.orders.kitchen := by
    refine List.filter_eq_self.mpr fun n hn => ?_
    have hne : n ≠ o.number := fun he => hk (he ▸ hn)
    simp [hne]
  obtain ⟨horders, -, -, hlow⟩ := h
  rw [hrest, Nat.sub_self] at horders hlow
  rw [if_neg (by dsimp only [servedBy, List.length_nil]; omega)] at hlow
  refine ⟨?_, ?_, hlow⟩
  · rw [horders]
    exact List.append_nil _
  · rw [horders]
    rfl

/-- A QUEUED order frees its slot for the order next served. -/
theorem gone_of_queued {r : Order} (h : s.ordersGone [o] totals u) (hk : o.number ∈ s.orders.kitchen) (hnodup : s.orders.kitchen.Nodup)
    (hnext : ({ s.orders with table := othersOf [o] s.orders } : OrderUnit).nextServed = some r) :
    u.orders.kitchen = s.orders.kitchen.filter (· != o.number) ++ [r.number] ∧ u.orders.pointer = r.screen ∧ s.flagKept .kitchenLow u := by
  have hfilter : (s.orders.kitchen.filter fun n => !([o].map (·.number)).contains n) = s.orders.kitchen.filter (· != o.number) := by
    refine List.filter_congr fun n _ => ?_
    by_cases hn : n = o.number
    · simp [hn]
    · simp [hn]
  have hlen : (s.orders.kitchen.filter (· != o.number)).length + 1 = s.orders.kitchen.length := by
    rw [← List.Nodup.erase_eq_filter hnodup]
    have := List.length_erase_of_mem hk
    have := List.length_pos_of_mem hk
    omega
  have hserved : servedBy (s.orders.kitchen.length - (s.orders.kitchen.filter (· != o.number)).length) s.orders.pointer
      ((othersOf [o] s.orders).filter Order.isPending) = [r] := by
    have hone : s.orders.kitchen.length - (s.orders.kitchen.filter (· != o.number)).length = 1 := by omega
    rw [hone, servedBy, show [s.orders.pointer + 1, s.orders.pointer + 2, s.orders.pointer + 3, s.orders.pointer].findSome? (fun i =>
      ((othersOf [o] s.orders).filter Order.isPending).find? (·.screen == i)) = some r from hnext]
    rfl
  obtain ⟨horders, -, -, hlow⟩ := h
  unfold othersOf at hserved
  rw [hfilter, hserved] at horders hlow
  rw [if_neg (by rw [List.length_singleton]; omega)] at hlow
  refine ⟨?_, ?_, hlow⟩
  · rw [horders]
    rfl
  · rw [horders]
    rfl

/-- The order next served stays so while another that is not it leaves the table. -/
theorem nextServed_without {b : OrderUnit} {k : ScreenId} {before after : List Order} {r : Order} (htable : b.table = before ++ r :: after)
    (hearlier : ∀ j < k, ∀ q ∈ b.table, q.screen = b.pointer + 1 + j → q.isPending = false) (hr : r.isPending = true)
    (hscreen : r.screen = b.pointer + 1 + k) (hfirst : ∀ q ∈ before, q.screen = b.pointer + 1 + k → q.isPending = false)
    (hne : o.number ≠ r.number) : ({ b with table := othersOf [o] b } : OrderUnit).nextServed = some r := by
  have hothers : othersOf [o] b = (before.filter fun q => !([o].map (·.number)).contains q.number) ++
      r :: after.filter fun q => !([o].map (·.number)).contains q.number := by
    rw [othersOf, htable, List.filter_append, List.filter_cons, if_pos (by simp [Ne.symm hne])]
  exact pending_round hothers (fun j hj q hq => hearlier j hj q (List.mem_of_mem_filter hq)) hr hscreen fun q hq =>
    hfirst q (List.mem_of_mem_filter hq)

end One

/-- The open orders of every ticket once one order has been removed (R4). -/
theorem ticketsOf_one (o : Order) (ts : List Ticket) : (ts.map fun t => { t with openOrders := t.openOrders - [o].countP (·.ticket == t.number) }) =
    ts.map fun t => if t.number = o.ticket then { t with openOrders := t.openOrders - 1 } else t := by
  refine List.map_congr_left fun t _ => ?_
  by_cases h : t.number = o.ticket
  · simp [h]
  · simp [h, Ne.symm h]

/-- The kitchen queue holds QUEUED orders alone. -/
theorem not_mem_kitchen {n : Nat} {o : Order} {s : State} (hlaw : s.bookLaws) (ho : s.order? n = some o) (hst : o.state ≠ .queued) :
    o.number ∉ s.orders.kitchen := by
  obtain ⟨hnodup, -, -, hkitchen, -⟩ := hlaw
  intro hmem
  obtain ⟨r, hr, hn, hq⟩ := (hkitchen o.number).mp hmem
  rw [eq_of_order_number hnodup hr (List.mem_of_find?_eq_some ho) hn] at hq
  exact hst hq

/-- Settles O47. -/
theorem collectAndCancel : Obligations.CollectAndCancel := by
  unfold Obligations.CollectAndCancel
  intro p tag n o s h1 h2 b gone
  refine ⟨fun ha => ⟨fun hnone => ?_, fun ho hst => ?_, fun at_ hlaw ho hst => ?_⟩, fun ha => ⟨fun hnone => ?_, fun hlaw ho => ?_⟩⟩
  · have hnone' : (s.taken p).order? n = none := hnone
    refine serve_refused ha rolesK_of_contains rfl (orderArg_u16 ⟨h1, h2⟩) ?_
    rw [State.collectOrderBody, hnone']
  · have ho' : (s.taken p).order? n = some o := ho
    refine serve_refused ha rolesK_of_contains rfl (orderArg_u16 ⟨h1, h2⟩) ?_
    rw [State.collectOrderBody, ho']
    refine if_neg fun hready => ?_
    unfold Order.isReady at hready
    cases hs : o.state with
    | ready a => exact hst a hs
    | _ => rw [hs] at hready; contradiction
  · have ho' : (s.taken p).order? n = some o := ho
    have hready : o.isReady = true := by rw [Order.isReady, hst]
    have hbody : State.collectOrderBody n (s.taken p) =
        (((s.taken p).removeOrders .collected [o]).startAll, .ok (u16 o.ticket ++ u8 o.callsPlayed)) := by
      rw [State.collectOrderBody, ho']
      exact if_pos hready
    obtain ⟨hwhole, htickets, hgone, hflags, hanswered, -⟩ := removal_reply (p := p) (code := 0x2F) (tag := tag)
      (b := u16 o.ticket ++ u8 o.callsPlayed) (out := .collected) hlaw (List.singleton_sublist.2 (List.mem_of_find?_eq_some ho)) rfl
    obtain ⟨hkitchen, hpointer, hlow⟩ := gone_of_not_queued hgone (not_mem_kitchen hlaw ho (by rw [hst]; simp))
    refine ⟨_, serve_ok ha rolesK_of_contains rfl (orderArg_u16 ⟨h1, h2⟩) hbody,
      ⟨hwhole, htickets.trans (ticketsOf_one o s.tickets), hgone⟩, hkitchen, hpointer, fun k _ => ?_, hanswered⟩
    by_cases hk : k = .kitchenLow
    · rw [hk]
      exact hlow
    · exact hflags k (by simp [removalKinds, hk])
  · have hnone' : (s.taken p).order? n = none := hnone
    refine serve_refused ha rolesGK_of_contains rfl (orderArg_u16 ⟨h1, h2⟩) ?_
    rw [State.cancelOrderBody, hnone']
  · have ho' : (s.taken p).order? n = some o := ho
    have hn := order?_number ho
    have hbody : State.cancelOrderBody n (s.taken p) = (((s.taken p).removeOrders .request [o]).startAll, .ok o.state.byte) := by
      rw [State.cancelOrderBody, ho']
    obtain ⟨hwhole, htickets, hgone, hflags, hanswered, hcancelled⟩ := removal_reply (p := p) (code := 0x31) (tag := tag)
      (b := o.state.byte) (out := .request) hlaw (List.singleton_sublist.2 (List.mem_of_find?_eq_some ho)) rfl
    have hbyte : o.state.byte = u8 (match o.state with | .held _ => 0 | .queued => 1 | .cooking => 2 | .ready _ => 3) :=
      OrderState.byte_eq o.state
    refine ⟨_, serve_ok ha rolesGK_of_contains rfl (orderArg_u16 ⟨h1, h2⟩) hbody,
      ⟨hwhole, htickets.trans (ticketsOf_one o s.tickets), hgone⟩, ?_, fun k hk => hflags k ?_, ?_, fun hst => ?_, ?_⟩
    · rw [← hn]
      exact hcancelled fun _ _ => rfl
    · simpa [removalKinds, and_comm] using hk
    · rw [hbyte] at hanswered ⊢
      exact hanswered
    · exact gone_of_not_queued hgone (not_mem_kitchen hlaw ho hst)
    · intro i k before after r hst hi hearlier htable hr hscreen hfirst
      obtain ⟨hnodup, hqueue, -, hqueued, -⟩ := hlaw
      have hom := List.mem_of_find?_eq_some ho
      have hmem : o.number ∈ s.orders.kitchen := (hqueued o.number).mpr ⟨o, hom, rfl, hst⟩
      have hne : o.number ≠ r.number := by
        intro he
        have htable' : s.orders.table = before ++ r :: after := htable
        have hor : o = r := eq_of_order_number hnodup hom (by rw [htable']; simp) he
        rw [← hor, Order.isPending_eq, hst] at hr
        exact absurd hr (by decide)
      have hnext := nextServed_without (b := s.orders) (k := k) (o := o) htable hearlier hr (hscreen.trans hi)
        (fun q hq hs => hfirst q hq (hs.trans hi.symm)) hne
      obtain ⟨hkitchen, hpointer, hlow⟩ := gone_of_queued hgone hmem hqueue hnext
      rw [← hn, ← hscreen]
      exact ⟨hkitchen, hpointer, hlow⟩

end Sys2Proof.Machine

/-! Tickets that leave: departures and voids (O10, O17). -/

namespace Sys2Proof.Machine

/-! ### A ticket gone (R8, R14, R15) -/

/-- The tickets once one has left with its orders: the others stand as they were. -/
theorem tickets_dropped (out : OrderOutcome) (n : Nat) (s : State) :
    ((s.removeOrders out (s.ordersOf n)).tickets.filter fun r => r.number != n) = s.tickets.filter fun r => r.number != n := by
  rw [removeOrders_tickets, List.filter_map]
  refine (List.map_congr_left fun t ht => ?_).trans (List.map_id _)
  have hne : t.number ≠ n := by simpa using (List.mem_filter.mp ht).2
  have hnone : (s.ordersOf n).countP (·.ticket == t.number) = 0 := by
    refine List.countP_eq_zero.mpr fun o ho => ?_
    have hticket := beq_iff_eq.mp (List.mem_filter.mp ho).2
    rw [hticket]
    simpa using Ne.symm hne
  rw [hnone]
  rfl

section Gone

variable {out : OrderOutcome} {t : Ticket} {s s' z u : State}

theorem ordersOf_others {n : Nat} {o : Order} (ho : o ∈ othersOf (s.ordersOf n) s.orders) : o.ticket ≠ n := by
  obtain ⟨hmem, hout⟩ := List.mem_filter.mp ho
  intro hn
  have hgone : o.number ∈ (s.ordersOf n).map (·.number) := List.mem_map_of_mem (List.mem_filter.mpr ⟨hmem, beq_iff_eq.mpr hn⟩)
  simp [hgone] at hout

theorem othersOf_ordersOf {n : Nat} (hnodup : (s.orders.table.map (·.number)).Nodup) :
    othersOf (s.ordersOf n) s.orders = s.orders.table.filter fun o => o.ticket != n := by
  refine List.filter_congr fun o ho => ?_
  have hiff : o.number ∈ (s.ordersOf n).map (·.number) ↔ o.ticket = n := by
    refine ⟨fun h => ?_, fun h => List.mem_map_of_mem (List.mem_filter.mpr ⟨ho, beq_iff_eq.mpr h⟩)⟩
    obtain ⟨r, hr, hn⟩ := List.mem_map.mp h
    obtain ⟨hr, hticket⟩ := List.mem_filter.mp hr
    rw [← eq_of_order_number hnodup hr ho hn]
    exact beq_iff_eq.mp hticket
  by_cases hn : o.ticket = n
  · simp [hiff.mpr hn, hn]
  · simp [mt hiff.mp hn, hn]

/-- A ticket gone with its orders cancelled, told from the state before the handling. -/
theorem ticketGone_of {totals : Nat → OrderTotals} {ks : List EventKind} (hs : CallsAlike s s') (hsf : SameFlags s s')
    (hst : s'.tickets = s.tickets) (hz : CallsAlike (s'.removeOrders out (s'.ordersOf t.number)) z)
    (hp : Posts ks (s'.removeOrders out (s'.ordersOf t.number)) z) (hlow : .kitchenLow ∉ ks) (hcancel : .orderCancelled ∉ ks)
    (hkinds : ∀ (n : Nat) (u : State), u.postRemoval out n = u.post .orderCancelled (.order n))
    (htotals : ∀ k, s.orders.totals.law → s.orders.totals.countMany out k = totals k)
    (ho : u.orders = z.startAll.orders) (hc : u.calls = z.startAll.calls) (hf : SameFlags z.startAll u)
    (ht : u.tickets = (s'.removeOrders out (s'.ordersOf t.number)).tickets.filter fun r => r.number != t.number)
    (hused : u.used = match t.payment with | .pass n => s.used.clearRange n n | .paid | .comp => s.used) : s.ticketGone t totals u := by
  have hordersOf : s'.ordersOf t.number = s.orders.table.filter (·.ticket == t.number) := by
    unfold State.ordersOf
    rw [hs.orders]
  refine ⟨?_, hused, fun o hmem => ?_, fun hnodup => ?_, fun hlaw => ⟨?_, ?_⟩⟩
  · rw [ht, tickets_dropped, hst]
  · rw [ho] at hmem
    have hcore : o.core ∈ (s'.removalServed out (s'.ordersOf t.number)).orders.table.map Order.core := by
      rw [← core_table (removed_core hz)]
      exact List.mem_map_of_mem hmem
    rw [removalServed_orders] at hcore
    obtain ⟨r, hr, hrc⟩ := List.mem_map.mp hcore
    obtain ⟨v, hv, rfl⟩ := List.mem_map.mp hr
    have hticket : v.ticket = o.ticket := by
      have h := congrArg Order.ticket hrc
      split at h <;> exact h
    rw [← hticket]
    exact ordersOf_others hv
  · rw [ho, removed_numbers hz, othersOf_ordersOf (by rw [hs.orders]; exact hnodup), hs.orders]
  · rw [← hordersOf]
    refine ordersGone_congr hs hsf ho hc hf (removed_gone (bookLaws_congr hs.orders hs.calls hlaw) List.filter_sublist hz hp hlow ?_)
    rw [hs.orders]
    exact htotals _ hlaw.2.2.2.2.2.2
  · rw [← hordersOf]
    exact cancelledPosted_congr hsf hf (removed_cancelled hkinds hp hcancel)

end Gone

/-- The used map once a ticket has left (R8). -/
def Ticket.usedWithout (t : Ticket) (used : PassMap) : PassMap :=
  match t.payment with
  | .pass n => used.clearRange n n
  | .paid | .comp => used

theorem dropTicket_eq (t : Ticket) (s : State) : s.dropTicket t =
    { s with tickets := s.tickets.filter fun r => r.number != t.number, used := t.usedWithout s.used } := by
  unfold State.dropTicket Ticket.usedWithout
  cases t.payment <;> rfl

/-- A ticket leaves with its orders: the part before the calls that this may set going start. -/
def State.ticketOut (out : OrderOutcome) (t : Ticket) (zones : Vector Zone 4) (totals : NightTotals) (entry : Vector EntryLane 4)
    (ports : Vector Port 3) (s : State) : State :=
  let m := s.removeOrders out (s.ordersOf t.number)
  { m with
    tickets := m.tickets.filter fun r => r.number != t.number, used := t.usedWithout s.used
    zones := zones, totals := totals, entry := entry, ports := ports }

theorem ticketOut_callsAlike (out : OrderOutcome) (t : Ticket) (zones : Vector Zone 4) (totals : NightTotals) (entry : Vector EntryLane 4)
    (ports : Vector Port 3) (s : State) :
    CallsAlike (s.removeOrders out (s.ordersOf t.number)) (s.ticketOut out t zones totals entry ports) := ⟨rfl, rfl, rfl, rfl⟩

section Handled

variable {out : OrderOutcome} {t : Ticket} {zones : Vector Zone 4} {totals : NightTotals} {entry : Vector EntryLane 4} {ports : Vector Port 3}
  {s s' u : State}

/-- A handling by which a ticket leaves, told from the state before it. -/
theorem ticketOut_handled {counted : Nat → OrderTotals} {ks : List EventKind} (hs : s' = { s with ports := s'.ports }) (hsf : SameFlags s s')
    (hp : Posts ks (s'.removeOrders out (s'.ordersOf t.number)) (s'.ticketOut out t zones totals entry ports)) (hlow : .kitchenLow ∉ ks)
    (hcancel : .orderCancelled ∉ ks) (hkinds : ∀ (n : Nat) (u : State), u.postRemoval out n = u.post .orderCancelled (.order n))
    (hcounted : ∀ k, s.orders.totals.law → s.orders.totals.countMany out k = counted k)
    (hu : u = { (s'.ticketOut out t zones totals entry ports).startAll with ports := u.ports })
    (hf : SameFlags (s'.ticketOut out t zones totals entry ports).startAll u) :
    s.ticketGone t counted u ∧ s.sameButGate u ∧ u.entry = entry ∧ u.zones = zones ∧ u.totals = totals := by
  have hwhole := eq_of_clearCalls (startAll_frame (s'.ticketOut out t zones totals entry ports))
  have hremoved := eq_of_clearOrders (removeOrders_frame out (s'.ordersOf t.number) s')
  have hticketOut : s'.ticketOut out t zones totals entry ports = { s'.removeOrders out (s'.ordersOf t.number) with
      tickets := (s'.removeOrders out (s'.ordersOf t.number)).tickets.filter fun r => r.number != t.number, used := t.usedWithout s'.used
      zones := zones, totals := totals, entry := entry, ports := ports } := rfl
  have hz := ticketOut_callsAlike out t zones totals entry ports s'
  have horders : u.orders = (s'.ticketOut out t zones totals entry ports).startAll.orders := by rw [hu]
  have hcalls : u.calls = (s'.ticketOut out t zones totals entry ports).startAll.calls := by rw [hu]
  have hsame : CallsAlike s s' := ⟨by rw [hs], by rw [hs], by rw [hs], by rw [hs]⟩
  have htickets : s'.tickets = s.tickets := by rw [hs]
  have hgone := ticketGone_of (t := t) (u := u) hsame hsf htickets hz hp hlow hcancel hkinds hcounted horders hcalls hf
  generalize (s'.ticketOut out t zones totals entry ports).startAll = v at hwhole hu horders hcalls
  generalize s'.ticketOut out t zones totals entry ports = z at hwhole hticketOut
  generalize s'.removeOrders out (s'.ordersOf t.number) = m at hticketOut hremoved hgone
  have hall : u = { s with
      tickets := m.tickets.filter fun r => r.number != t.number, used := t.usedWithout s.used, zones := zones, totals := totals, entry := entry
      orders := u.orders, calls := u.calls, reader := u.reader, ports := u.ports } := by
    have hreader : u.reader = v.reader := by rw [hu]
    conv_lhs => rw [hu, hwhole, hticketOut, hremoved, hs]
    rw [horders, hcalls, hreader]
  refine ⟨hgone ?_ ?_, ?_, ?_, ?_, ?_⟩
  · rw [hall]
  · rw [hall]
    rfl
  · rw [hall]
    rfl
  · rw [hall]
  · rw [hall]
  · rw [hall]

theorem ports_eta (s : State) : s = { s with ports := s.ports } := rfl

theorem replied_eq (p : PortId) (code tag : Byte) (b : List Byte) (s : State) :
    State.replied p code tag b s = { s with ports := (State.replied p code tag b s).ports } := rfl

/-- A request by which a ticket leaves, told from the state before it is taken. -/
theorem ticketOut_replied {counted : Nat → OrderTotals} {p : PortId} {code tag : Byte} {b : List Byte}
    (hp : Posts [] ((s.taken p).removeOrders out ((s.taken p).ordersOf t.number)) ((s.taken p).ticketOut out t zones totals entry ports))
    (hkinds : ∀ (n : Nat) (u : State), u.postRemoval out n = u.post .orderCancelled (.order n)) (hremoval : removalKinds out = [.orderCancelled])
    (hcounted : ∀ k, s.orders.totals.law → s.orders.totals.countMany out k = counted k) :
    let u := State.replied p code tag b ((s.taken p).ticketOut out t zones totals entry ports).startAll
    (s.ticketGone t counted u ∧ s.sameButGate u ∧ u.entry = entry ∧ u.zones = zones ∧ u.totals = totals) ∧
      s.flagsKeptBut [.orderCancelled, .kitchenLow] u ∧ s.answeredAt p code tag .ok b u := by
  intro u
  have hposts : Posts [.kitchenLow, .orderCancelled] (s.taken p) ((s.taken p).ticketOut out t zones totals entry ports).startAll := by
    have hremoved := removeOrders_posts out ((s.taken p).ordersOf t.number) (s.taken p)
    rw [hremoval] at hremoved
    exact hremoved.trans ((hp.mono (List.nil_subset _)).trans ((startAll_posts_none _).mono (List.nil_subset _)))
  have hreplied := replied_sameFlags p code tag b ((s.taken p).ticketOut out t zones totals entry ports).startAll
  refine ⟨?_, ?_, answeredAt_of_posts hposts⟩
  · exact ticketOut_handled rfl (taken_sameFlags p s) hp (by simp) (by simp) hkinds hcounted (replied_eq p code tag b _) hreplied
  · exact flagsKeptBut_congr (taken_sameFlags p s) hreplied (hposts.mono (by simp)).keptBut

/-- A timer by which a ticket leaves. -/
theorem ticketOut_expired {counted : Nat → OrderTotals} {ks : List EventKind}
    (hp : Posts ks (s.removeOrders out (s.ordersOf t.number)) (s.ticketOut out t zones totals entry ports)) (hlow : .kitchenLow ∉ ks)
    (hcancel : .orderCancelled ∉ ks) (hkinds : ∀ (n : Nat) (u : State), u.postRemoval out n = u.post .orderCancelled (.order n))
    (hcounted : ∀ k, s.orders.totals.law → s.orders.totals.countMany out k = counted k) :
    let u := (s.ticketOut out t zones totals entry ports).startAll
    s.ticketGone t counted u ∧ s.sameButGate u ∧ u.entry = entry ∧ u.zones = zones ∧ u.totals = totals := by
  intro u
  have hu : u = (s.ticketOut out t zones totals entry ports).startAll := rfl
  clear_value u
  refine ticketOut_handled (s' := s) (ports_eta s) (fun _ _ => rfl) hp hlow hcancel hkinds hcounted ?_ ?_
  · rw [← hu]
  · rw [← hu]
    exact fun _ _ => rfl

end Handled

/-! ### DEPART (R15) -/

/-- The zones once a PRESENT ticket of a class has left. -/
def departedZones (t : Ticket) (cls : VehicleClass) (s : State) : Vector Zone 4 :=
  upd s.zones t.screen fun z => { z with present := z.present - 1, long := if cls = .long then z.long - 1 else z.long }

theorem departTicket_eq (t : Ticket) (cls : VehicleClass) (s : State) : s.departTicket t cls = s.ticketOut .departed t (departedZones t cls s)
    { s.totals with departed := upd s.totals.departed t.screen inc16 } s.entry (s.removeOrders .departed (s.ordersOf t.number)).ports := by
  have hremoved := eq_of_clearOrders (removeOrders_frame .departed (s.ordersOf t.number) s)
  have hlong (z : Zone) : z.long - (if cls = .long then 1 else 0) = if cls = .long then z.long - 1 else z.long := by split <;> rfl
  unfold State.departTicket State.ticketOut departedZones
  dsimp only
  rw [dropTicket_eq]
  simp only [hlong]
  generalize s.removeOrders .departed (s.ordersOf t.number) = m at hremoved
  rw [hremoved]
  rfl

/-- Settles O10. -/
theorem departOfAPresentTicket : Obligations.DepartOfAPresentTicket := by
  unfold Obligations.DepartOfAPresentTicket
  intro p tag t cls enteredAt s ha h1 h2 ht hst total
  have ht' : (s.taken p).ticket? t.number = some t := ht
  let b := u8 t.screen.val ++ enumByte [.car, .long, .unmeasured] cls ++ u16 enteredAt ++ flagByte t.tailgate ++
    u8 (s.orders.table.countP (·.ticket == t.number))
  have hbody : State.departBody t.number (s.taken p) = (((s.taken p).departTicket t cls).startAll, .ok b) := by
    rw [State.departBody, ht']
    dsimp only
    rw [hst]
    refine congrArg (fun n => (((s.taken p).departTicket t cls).startAll, Reply.ok (u8 t.screen.val ++ enumByte classNames cls ++ u16 enteredAt ++
      flagByte t.tailgate ++ u8 n))) ?_
    exact List.countP_eq_length_filter.symm
  rw [departTicket_eq] at hbody
  obtain ⟨⟨hgone, hsame, hentry, hzones, htotals⟩, hflags, hanswered⟩ := ticketOut_replied (s := s) (p := p) (code := 0x02) (tag := tag) (b := b)
    (out := .departed) (t := t) (zones := departedZones t cls (s.taken p)) (entry := (s.taken p).entry)
    (totals := { (s.taken p).totals with departed := upd (s.taken p).totals.departed t.screen inc16 })
    (ports := ((s.taken p).removeOrders .departed ((s.taken p).ordersOf t.number)).ports)
    (counted := fun k => { total with departed := min 65535 (total.departed + k) }) (.of_ports rfl) (fun _ _ => rfl) rfl
    fun k ⟨_, _, _, _, hdeparted, _⟩ => countMany_departed k hdeparted
  exact ⟨_, serve_ok ha rolesG_of_contains rfl (ticketArg_u16 ⟨h1, h2⟩) hbody, hgone, hsame, hentry, hflags, hzones, htotals, hanswered⟩

/-! ### Voids (R14, R38, R41, R42) -/

/-- The zones once a PENDING ticket has been voided. -/
def voidedZones (t : Ticket) (s : State) : Vector Zone 4 := upd s.zones t.screen fun z => { z with pending := z.pending - 1 }

/-- The totals once a ticket has been voided. -/
def voidedTotals (t : Ticket) (s : State) : NightTotals := { s.totals with voided := upd s.totals.voided t.screen inc16 }

theorem void_eq {t : Ticket} {s : State} (ht : s.ticket? t.number = some t) : s.void t.number =
    s.ticketOut .voided t (voidedZones t s) (voidedTotals t s) s.entry (s.removeOrders .voided (s.ordersOf t.number)).ports := by
  have hremoved := eq_of_clearOrders (removeOrders_frame .voided (s.ordersOf t.number) s)
  unfold State.void State.ticketOut voidedZones voidedTotals
  rw [ht]
  dsimp only
  rw [dropTicket_eq]
  generalize s.removeOrders .voided (s.ordersOf t.number) = m at hremoved
  rw [hremoved]
  rfl

theorem void_modEntry {t : Ticket} {s : State} (ht : s.ticket? t.number = some t) (n : LaneId) (f : EntryLane → EntryLane) :
    (s.void t.number).modEntry n f = s.ticketOut .voided t (voidedZones t s) (voidedTotals t s) (upd s.entry n f)
      (s.removeOrders .voided (s.ordersOf t.number)).ports := by
  rw [void_eq ht]
  rfl

theorem countMany_voided_of_law {s : State} (k : Nat) (h : s.orders.totals.law) :
    s.orders.totals.countMany .voided k = { s.orders.totals with voided := min 65535 (s.orders.totals.voided + k) } := by
  obtain ⟨-, -, -, hvoided, -⟩ := h
  exact countMany_voided k hvoided

/-- A request that voids a ticket and changes a lane. -/
theorem void_replied {t : Ticket} {s : State} {p : PortId} {code tag : Byte} {b : List Byte} {n : LaneId} {f : EntryLane → EntryLane}
    (ht : s.ticket? t.number = some t) :
    let u := State.replied p code tag b (((s.taken p).void t.number).modEntry n f).startAll
    s.ticketVoided t u ∧ s.answeredAt p code tag .ok b u ∧ s.flagsKeptBut [.orderCancelled, .kitchenLow] u ∧ u.entry = upd s.entry n f := by
  rw [void_modEntry (s := s.taken p) ht]
  obtain ⟨⟨hgone, hsame, hentry, hzones, htotals⟩, hflags, hanswered⟩ := ticketOut_replied (s := s) (p := p) (code := code) (tag := tag) (b := b)
    (out := .voided) (t := t) (zones := voidedZones t (s.taken p)) (entry := upd (s.taken p).entry n f) (totals := voidedTotals t (s.taken p))
    (ports := ((s.taken p).removeOrders .voided ((s.taken p).ordersOf t.number)).ports)
    (counted := fun k => { s.orders.totals with voided := min 65535 (s.orders.totals.voided + k) }) (.of_ports rfl) (fun _ _ => rfl) rfl
    countMany_voided_of_law
  exact ⟨⟨hgone, hsame, hzones, htotals⟩, hanswered, hflags, hentry⟩

/-- Settles O17. -/
theorem voidsByTheLane : Obligations.VoidsByTheLane := by
  unfold Obligations.VoidsByTheLane
  intro p tag n t s gate idle
  refine ⟨fun hs hp hadm ht => ?_, fun h1 h2 ha => ⟨fun hnone => ?_, fun ht hst => ?_, fun ht hst hl => ?_, fun ht hst hl => ?_⟩,
    fun ha hs hadm ht => ?_⟩
  · let idled : EntryLane → EntryLane := fun l => l.toIdle.count fun c => { c with timeouts := inc16 c.timeouts }
    have hexec : exec (.passWindowExpiry n) s =
        .next (((s.void t.number).modEntry n idled).post .admitTimeout (.entryLane n)).startAll := by
      have hexec : exec (.passWindowExpiry n) s = .next (s.passWindowExpiry n).startAll := rfl
      have hhas : (s.entry[n]).passTimer.isSome = true := Option.isSome_iff_ne_none.mpr hp
      rw [hexec, State.passWindowExpiry]
      dsimp only
      rw [if_pos ⟨hs, hhas⟩, hadm]
    let m := s.removeOrders .voided (s.ordersOf t.number)
    have hz : ((s.void t.number).modEntry n idled).post .admitTimeout (.entryLane n) =
        s.ticketOut .voided t (voidedZones t s) (voidedTotals t s) (upd s.entry n idled) (m.post .admitTimeout (.entryLane n)).ports := by
      rw [void_modEntry ht]
      rfl
    have hafter : Posts [] (m.post .admitTimeout (.entryLane n))
        (s.ticketOut .voided t (voidedZones t s) (voidedTotals t s) (upd s.entry n idled) (m.post .admitTimeout (.entryLane n)).ports) := .of_ports rfl
    have hposted : Posts [.admitTimeout] m
        (s.ticketOut .voided t (voidedZones t s) (voidedTotals t s) (upd s.entry n idled) (m.post .admitTimeout (.entryLane n)).ports) :=
      (post_posts _ m (by simp)).trans (hafter.mono (List.nil_subset _))
    have hbefore : Posts [.kitchenLow, .orderCancelled] s m := removeOrders_posts .voided (s.ordersOf t.number) s
    rw [hz] at hexec
    obtain ⟨hgone, hsame, hentry, hzones, htotals⟩ := ticketOut_expired
      (counted := fun k => { s.orders.totals with voided := min 65535 (s.orders.totals.voided + k) }) hposted (by simp) (by simp)
      (fun _ _ => rfl) countMany_voided_of_law
    have hall := hafter.trans (startAll_posts_none _)
    have hkept := (hbefore.mono (List.subset_append_left _ [.admitTimeout])).trans
      ((hposted.mono (List.subset_append_right [.kitchenLow, .orderCancelled] _)).trans ((startAll_posts_none _).mono (List.nil_subset _)))
    exact ⟨_, hexec, ⟨hgone, hsame, hzones, htotals⟩, hkept.portsKept, flagPosted_of_posts hbefore (by simp) hall (by simp),
      (hkept.mono (by simp)).keptBut, hentry⟩
  · have hnone' : (s.taken p).ticket? t.number = none := hnone
    refine serve_refused ha rolesG_of_contains rfl (ticketArg_u16 ⟨h1, h2⟩) ?_
    rw [State.cancelAdmitBody, hnone']
  · have ht' : (s.taken p).ticket? t.number = some t := ht
    refine serve_refused ha rolesG_of_contains rfl (ticketArg_u16 ⟨h1, h2⟩) ?_
    rw [State.cancelAdmitBody, ht']
    dsimp only
    cases hstate : t.state with
    | pending => exact absurd hstate hst
    | present cls at_ => rfl
  · have ht' : (s.taken p).ticket? t.number = some t := ht
    have hl' : ¬((s.taken p).entry[t.lane]).state = .armed := by
      rw [show ((s.taken p).entry[t.lane]).state = .passing from hl]
      decide
    refine serve_refused ha rolesG_of_contains rfl (ticketArg_u16 ⟨h1, h2⟩) ?_
    rw [State.cancelAdmitBody, ht']
    dsimp only
    rw [hst]
    exact if_neg hl'
  · have ht' : (s.taken p).ticket? t.number = some t := ht
    have hbody : State.cancelAdmitBody t.number (s.taken p) =
        ((((s.taken p).void t.number).modEntry t.lane EntryLane.toIdle).startAll, .ok (u8 t.lane.val)) := by
      rw [State.cancelAdmitBody, ht']
      dsimp only
      rw [hst]
      exact if_pos hl
    obtain ⟨hvoided, hanswered, hflags, hentry⟩ := void_replied (p := p) (code := 0x0F) (tag := tag) (b := u8 t.lane.val) (n := t.lane)
      (f := EntryLane.toIdle) ht
    exact ⟨_, serve_ok ha rolesG_of_contains rfl (ticketArg_u16 ⟨h1, h2⟩) hbody, hvoided, hanswered, hflags, hentry⟩
  · have hbody : State.laneResetBody (.entry n) (s.taken p) =
        ((((s.taken p).void t.number).modEntry n EntryLane.toClosed).startAll, .ok (u8 2 ++ (u8 1 ++ u16 t.number))) := by
      have hs' : ((s.taken p).entry[n]).state = .armed := hs
      have hadm' : ((s.taken p).entry[n]).admission = some t.number := hadm
      simp only [State.laneResetBody, State.resetEntry, EntryLane.resetTicket, State.laneStateBytes, hs', hadm']
      rfl
    obtain ⟨hvoided, hanswered, hflags, hentry⟩ := void_replied (p := p) (code := 0x10) (tag := tag) (b := u8 2 ++ (u8 1 ++ u16 t.number)) (n := n)
      (f := EntryLane.toClosed) ht
    exact ⟨_, serve_ok ha rolesG_of_contains rfl (laneArg_bytes (.entry n)) hbody, hvoided, hanswered, hflags, hentry⟩

end Sys2Proof.Machine

/-! The end of a show and SCREEN_RESET (O26). -/

namespace Sys2Proof.Machine

/-! ### A removal that frees no slot and withdraws no call (R169) -/

theorem afterService_zero (u : OrderUnit) : u.afterService 0 = u := by
  unfold OrderUnit.afterService
  simp [servedBy]

/-- The removal of orders that stand in no kitchen queue and are called in no call queue. -/
theorem removeOrders_plain {out : OrderOutcome} {os : List Order} {s : State} (hkitchen : ∀ o ∈ os, o.number ∉ s.orders.kitchen)
    (hqueue : ∀ o ∈ os, CallEntry.orderCall o.number ∉ (s.calls[o.screen]).queue) : s.removeOrders out os = { s with
      tickets := s.tickets.map fun t => { t with openOrders := t.openOrders - os.countP (·.ticket == t.number) }
      orders := { s.orders with
        table := s.orders.table.filter fun r => !(os.map (·.number)).contains r.number
        shelf := s.orders.shelf.filter fun n => !(os.map (·.number)).contains n
        totals := s.orders.totals.countMany out os.length }
      ports := removalPorts out os s } := by
  have hkept : (s.orders.kitchen.filter fun n => !(os.map (·.number)).contains n) = s.orders.kitchen := by
    refine List.filter_eq_self.mpr fun n hn => ?_
    simp only [Bool.not_eq_true', List.contains_eq_mem, decide_eq_false_iff_not, List.mem_map, not_exists, not_and]
    exact fun o ho h => hkitchen o ho (h ▸ hn)
  have hcalls : (Vector.ofFn fun i => ({ s.calls[i] with
      queue := (s.calls[i]).queue.filter fun e => os.all fun o => !(o.screen == i && e == .orderCall o.number) } : CallUnit)) = s.calls := by
    ext1 i hi
    rw [Vector.getElem_ofFn]
    refine congrArg (fun q => ({ s.calls[i] with queue := q } : CallUnit)) (List.filter_eq_self.mpr fun e he => ?_)
    rw [List.all_eq_true]
    intro o ho
    have hnone (j : ScreenId) (h : o.screen = j) : CallEntry.orderCall o.number ∉ (s.calls[j]).queue := h ▸ hqueue o ho
    by_cases hscreen : o.screen = ⟨i, hi⟩
    · have hne : e ≠ .orderCall o.number := by
        rintro rfl
        exact hnone _ hscreen he
      simp [hne]
    · simp [hscreen]
  have hout : s.ordersOut out os = { s with
      tickets := s.tickets.map fun t => { t with openOrders := t.openOrders - os.countP (·.ticket == t.number) }
      orders := { s.orders with
        table := s.orders.table.filter fun r => !(os.map (·.number)).contains r.number
        shelf := s.orders.shelf.filter fun n => !(os.map (·.number)).contains n
        totals := s.orders.totals.countMany out os.length }
      ports := removalPorts out os s } := by
    unfold State.ordersOut
    rw [hkept, hcalls]
  have hserved : s.removalServed out os = s.ordersOut out os := by
    unfold State.removalServed
    dsimp only
    have hfill : (s.ordersOut out os).orders.kitchen.length = s.orders.kitchen.length := by rw [hout]
    rw [hfill, Nat.sub_self, afterService_zero, hfill]
    have hno : decide (s.orders.settings.low < s.orders.kitchen.length ∧ s.orders.kitchen.length ≤ s.orders.settings.low) = false :=
      decide_eq_false fun h => Nat.lt_irrefl _ (h.1.trans_le h.2)
    rw [hno]
    rfl
  have hstill (u : State) (hu : u.calls = s.calls) (i : ScreenId) : u.fillIfShrunk i (s.calls[i]).queue.length = u := by
    unfold State.fillIfShrunk
    rw [hu]
    exact if_neg (Nat.lt_irrefl _)
  have hsame : (s.ordersOut out os).calls = s.calls := by rw [hout]
  rw [removeOrders_eq, hserved]
  unfold State.refilled
  rw [hstill _ hsame 0, hstill _ hsame 1, hstill _ hsame 2, hstill _ hsame 3, hout]

/-- The posts of a removal touch the ports alone. -/
theorem postRemovals_eq (out : OrderOutcome) (os : List Order) (s : State) :
    os.foldl (fun s o => s.postRemoval out o.number) s = { s with ports := removalPorts out os s } := by
  induction os generalizing s with
  | nil => rfl
  | cons o os ih =>
    have hports : removalPorts out os (s.postRemoval out o.number) = removalPorts out (o :: os) s := rfl
    rw [List.foldl_cons, ih, hports]
    conv_lhs => rw [postRemoval_eq]

/-! ### END_SHOW (R65, R172) -/

theorem heldList_notPending (i : ScreenId) (u : OrderUnit) :
    (u.heldList i).filter (fun o => !o.isPending) = u.table.filter fun o => o.screen == i && o.state == .held false := by
  unfold OrderUnit.heldList
  rw [List.filter_filter]
  refine List.filter_congr fun o _ => ?_
  unfold Order.isPending Order.isHeld
  cases o.state with
  | held pending => cases pending <;> simp
  | queued => simp
  | cooking => simp
  | ready at_ => simp

/-- In a book that keeps its laws, what is out of the table by number is out of it by order. -/
theorem filter_out_numbers {l : List Order} {f : Order → Bool} (hnodup : (l.map (·.number)).Nodup) :
    (l.filter fun r => !((l.filter f).map (·.number)).contains r.number) = l.filter fun r => !f r := by
  refine List.filter_congr fun r hr => ?_
  have hiff : r.number ∈ (l.filter f).map (·.number) ↔ f r = true := by
    refine ⟨fun h => ?_, fun h => List.mem_map_of_mem (List.mem_filter.mpr ⟨hr, h⟩)⟩
    obtain ⟨o, ho, hn⟩ := List.mem_map.mp h
    obtain ⟨ho, hf⟩ := List.mem_filter.mp ho
    rw [← eq_of_order_number hnodup ho hr hn]
    exact hf
  by_cases hf : f r = true
  · simp [hiff.mpr hf, hf]
  · simp [mt hiff.mp hf, hf]

theorem bookLaws_numbers {s : State} (hlaw : s.bookLaws) : (s.orders.table.map (·.number)).Nodup := hlaw.1

theorem bookLaws_totals {s : State} (hlaw : s.bookLaws) : s.orders.totals.showEnded ≤ 65535 ∧ s.orders.totals.expired ≤ 65535 := by
  obtain ⟨-, -, -, -, -, -, -, -, -, -, -, hshowEnded, -, hexpired⟩ := hlaw
  exact ⟨hshowEnded, hexpired⟩

theorem not_mem_kitchen_of_state {s : State} (hlaw : s.bookLaws) {o : Order} (ho : o ∈ s.orders.table) (hst : o.state ≠ .queued) :
    o.number ∉ s.orders.kitchen := by
  obtain ⟨hnodup, -, -, hkitchen, -, -, -⟩ := hlaw
  intro hmem
  obtain ⟨r, hr, hn, hq⟩ := (hkitchen _).mp hmem
  exact hst (eq_of_order_number hnodup hr ho hn ▸ hq)

theorem not_mem_shelf_of_state {s : State} (hlaw : s.bookLaws) {o : Order} (ho : o ∈ s.orders.table) (hst : o.isReady = false) :
    o.number ∉ s.orders.shelf := by
  obtain ⟨hnodup, -, -, -, hshelf, -, -⟩ := hlaw
  intro hmem
  obtain ⟨r, hr, hn, hready⟩ := (hshelf _).mp hmem
  rw [eq_of_order_number hnodup hr ho hn, hst] at hready
  exact Bool.false_ne_true hready

theorem not_called_of_state {s : State} (hlaw : s.bookLaws) {o : Order} (ho : o ∈ s.orders.table) (hst : o.isReady = false) (i : ScreenId) :
    CallEntry.orderCall o.number ∉ (s.calls[i]).queue := by
  obtain ⟨hnodup, -, -, -, -, hcalls, -⟩ := hlaw
  intro hmem
  obtain ⟨r, hr, hn, hready, -⟩ := hcalls i _ hmem
  rw [eq_of_order_number hnodup hr ho hn, hst] at hready
  exact Bool.false_ne_true hready

/-- The held orders of a screen that are not release pending. -/
def OrderUnit.unreleased (i : ScreenId) (u : OrderUnit) : List Order := u.table.filter fun o => o.screen == i && o.state == .held false

/-- The held orders of a screen cancelled at the end of its show. -/
theorem cancelHeld_eq {i : ScreenId} {s : State} (hlaw : s.bookLaws) :
    s.cancelHeld i = (s.orders.unreleased i).foldl (fun s o => s.post .orderCancelled (.order o.number)) { s with
      tickets := s.tickets.map fun t => { t with openOrders := t.openOrders - (s.orders.unreleased i).countP (·.ticket == t.number) }
      orders := { s.orders with
        table := s.orders.table.filter fun o => !(o.screen == i && o.state == .held false)
        totals := { s.orders.totals with showEnded := min 65535 (s.orders.totals.showEnded + (s.orders.unreleased i).length) } } } := by
  have hheld := heldList_notPending i s.orders
  have htable := filter_out_numbers (f := fun o => o.screen == i && o.state == .held false) (bookLaws_numbers hlaw)
  have hmemf (o : Order) (ho : o ∈ s.orders.unreleased i) := List.mem_filter.mp ho
  change (s.orders.heldList i).filter (fun o => !o.isPending) = s.orders.unreleased i at hheld
  change (s.orders.table.filter fun r => !((s.orders.unreleased i).map (·.number)).contains r.number) = _ at htable
  generalize s.orders.unreleased i = cancelled at hheld htable hmemf ⊢
  have hmem (o : Order) (ho : o ∈ cancelled) : o ∈ s.orders.table ∧ o.state = .held false := by
    obtain ⟨ho, hf⟩ := hmemf o ho
    exact ⟨ho, beq_iff_eq.mp (Bool.and_eq_true_iff.mp hf).2⟩
  have hready (o : Order) (ho : o ∈ cancelled) : o.isReady = false := by
    unfold Order.isReady
    rw [(hmem o ho).2]
  have hshelf : (s.orders.shelf.filter fun n => !(cancelled.map (·.number)).contains n) = s.orders.shelf := by
    refine List.filter_eq_self.mpr fun n hn => ?_
    simp only [Bool.not_eq_true', List.contains_eq_mem, decide_eq_false_iff_not, List.mem_map, not_exists, not_and]
    exact fun o ho h => not_mem_shelf_of_state hlaw (hmem o ho).1 (hready o ho) (h ▸ hn)
  have htotals := countMany_showEnded cancelled.length (bookLaws_totals hlaw).1
  unfold State.cancelHeld
  rw [hheld, removeOrders_plain (fun o ho => not_mem_kitchen_of_state hlaw (hmem o ho).1 (by rw [(hmem o ho).2]; exact fun h => nomatch h))
    fun o ho => not_called_of_state hlaw (hmem o ho).1 (hready o ho) o.screen, hshelf, htable, htotals]
  have hposted (u : State) (hu : u.ports = s.ports) : cancelled.foldl (fun s o => s.post .orderCancelled (.order o.number)) u =
      { u with ports := removalPorts .showEnded cancelled s } := by
    rw [← removalPorts_congr .showEnded cancelled hu]
    exact postRemovals_eq .showEnded cancelled u
  refine Eq.symm (hposted _ ?_)
  rfl

theorem endShow_eq {i : ScreenId} {s : State} (hlaw : s.bookLaws) : s.endShow i = s.showOver i := by
  have hclosed : ((s.modShow i (Show.leave .ended)).closeIntake i).setMode i .muted = { s with
      shows := upd s.shows i fun w => { w with state := .ended, holdReason := none, framesStopped := false, stallTimer := none, pause := false }
      intakes := upd s.intakes i fun k => { k with ring := [], isOpen := false, holdTimer := none }
      aligns := upd s.aligns i fun a => { a with readPoint := 0, repeatTaken := false, mode := .muted } } := by
    refine congrArg (fun v => ({ s with
      shows := upd s.shows i (Show.leave .ended), intakes := upd s.intakes i Intake.close, aligns := v } : State)) ?_
    exact upd_upd s.aligns i Align.flushed fun a => { a with mode := .muted }
  unfold State.endShow
  rw [hclosed]
  exact congrArg (State.post .showEnded (.screen i)) (cancelHeld_eq (bookLaws_congr (s := s) rfl rfl hlaw))

/-! ### SCREEN_RESET (R66, R134, R138) -/

/-- The call of an order stands in a list of entries. -/
theorem markOwed_fold (l : List CallEntry) (s : State) : l.foldl (fun s e => s.markOwed e) s = { s with
    orders := { s.orders with table := s.orders.table.map fun o => if l.contains (.orderCall o.number) then { o with owed := true } else o } } := by
  induction l generalizing s with
  | nil =>
    have hkept : (s.orders.table.map fun o => if ([] : List CallEntry).contains (.orderCall o.number) then { o with owed := true } else o) =
        s.orders.table := by simp
    rw [hkept]
    rfl
  | cons e l ih =>
    rw [List.foldl_cons, ih, markOwed_eq]
    refine congrArg (fun t => ({ s with orders := { s.orders with table := t } } : State)) ?_
    rw [List.map_map]
    refine List.map_congr_left fun o _ => ?_
    rw [Function.comp_apply, List.contains_cons]
    cases he : e == CallEntry.orderCall o.number with
    | true =>
      have he' : (CallEntry.orderCall o.number == e) = true := by rw [← he]; exact BEq.comm
      rw [if_pos rfl, he', Bool.true_or, if_pos rfl]
      exact ite_self _
    | false =>
      have he' : (CallEntry.orderCall o.number == e) = false := by rw [← he]; exact BEq.comm
      rw [if_neg Bool.false_ne_true, he', Bool.false_or]

theorem hasCallOf_eq (n : Nat) (c : CallUnit) : c.hasCallOf n = (c.queue.contains (.orderCall n) || c.slot.any (·.entry == .orderCall n)) := by
  unfold CallUnit.hasCallOf
  cases c.slot <;> rfl

/-- The changes of SCREEN_RESET in the show, the intake and the alignment of a screen. -/
def State.screenLeft (i : ScreenId) (s : State) : State :=
  { s with
    shows := upd s.shows i fun w =>
      { w with state := .idle, startPending := false, holdReason := none, framesStopped := false, stallTimer := none, pause := false }
    intakes := upd s.intakes i fun k => { k with ring := [], isOpen := false, holdTimer := none }
    aligns := upd s.aligns i fun a => { a with readPoint := 0, repeatTaken := false, mode := .muted } }

theorem screenLeft_eq (i : ScreenId) (s : State) :
    ((s.modShow i fun w => { w.leave .idle with startPending := false }).closeIntake i).setMode i .muted = s.screenLeft i :=
  congrArg (fun v => ({ s with
    shows := upd s.shows i fun w => { w.leave .idle with startPending := false }, intakes := upd s.intakes i Intake.close, aligns := v } : State))
    (upd_upd s.aligns i Align.flushed fun a => { a with mode := .muted })

/-- The call unit of a screen once SCREEN_RESET has closed its windows, emptied its queue and cut its call. -/
def CallUnit.screenReset (c : CallUnit) : CallUnit :=
  { c with
    callWindow := false, orderWindow := false, queue := [], slot := none
    duckState := if c.slot.isSome then .rampUp c.gain 0 else c.duckState
    cut := if c.slot.isSome then inc16 c.cut else c.cut }

theorem flushQueue_eq (i : ScreenId) (s : State) : s.flushQueue i = { s with
    orders := { s.orders with
      table := s.orders.table.map fun o => if (s.calls[i]).queue.contains (.orderCall o.number) then { o with owed := true } else o }
    calls := upd s.calls i fun c => { c with queue := [] } } := by
  unfold State.flushQueue
  rw [markOwed_fold]
  rfl

/-- The windows of a screen closed, its queue flushed and its call cut. -/
theorem callsReset_eq (i : ScreenId) (s : State) : ∃ reader,
    (((s.closeCalls i).setOrderWindow i false).flushQueue i).cutCall i = { s with
      orders := { s.orders with
        table := s.orders.table.map fun o => if (s.calls[i]).hasCallOf o.number = true then { o with owed := true } else o }
      calls := upd s.calls i CallUnit.screenReset, reader := reader } := by
  have hwindows : (s.closeCalls i).setOrderWindow i false =
      { s with calls := upd s.calls i fun c => { c with callWindow := false, orderWindow := false } } :=
    congrArg (fun v => ({ s with calls := v } : State))
      (upd_upd s.calls i (fun c => ({ c with callWindow := false } : CallUnit)) fun c => { c with orderWindow := false })
  have hcalls : upd (upd (upd s.calls i fun c => { c with callWindow := false, orderWindow := false }) i fun c => { c with queue := [] }) i
      (fun c => if c.slot.isSome then { c with slot := none, duckState := .rampUp c.gain 0, cut := inc16 c.cut } else c) =
        upd s.calls i CallUnit.screenReset := by
    rw [upd_upd, upd_upd]
    refine upd_congr ?_
    unfold CallUnit.screenReset
    dsimp only
    cases hslot : (s.calls[i]).slot with
    | none => rfl
    | some q => rfl
  have htable : ((s.orders.table.map fun o => if (s.calls[i]).queue.contains (.orderCall o.number) then { o with owed := true } else o).map
      fun o => if (s.calls[i]).slot.any (·.entry == .orderCall o.number) then { o with owed := true } else o) =
        s.orders.table.map fun o => if (s.calls[i]).hasCallOf o.number = true then { o with owed := true } else o := by
    rw [List.map_map]
    refine List.map_congr_left fun o _ => ?_
    rw [Function.comp_apply, hasCallOf_eq]
    cases hq : (s.calls[i]).queue.contains (.orderCall o.number) with
    | true =>
      rw [if_pos rfl, Bool.true_or, if_pos rfl]
      exact ite_self _
    | false =>
      rw [if_neg Bool.false_ne_true, Bool.false_or]
  rw [hwindows, flushQueue_eq, cutCall_eq]
  dsimp only
  rw [hcalls, upd_get_self, upd_get_self]
  dsimp only
  rw [htable]
  exact ⟨_, rfl⟩

/-- The part after SCREEN_RESET, the clip reader not yet asked anew and left as given. -/
def State.screenEmptied (i : ScreenId) (reader : ClipReader) (s : State) : State :=
  { s.screenLeft i with
    orders := { s.orders with
      table := s.orders.table.map fun o => if (s.calls[i]).hasCallOf o.number = true then { o with owed := true } else o }
    calls := upd s.calls i CallUnit.screenReset, reader := reader }

theorem screenReset_eq (i : ScreenId) (s : State) : ∃ reader, s.screenReset i = (s.screenEmptied i reader).serveReads := by
  obtain ⟨reader, hreset⟩ := callsReset_eq i (s.screenLeft i)
  refine ⟨reader, ?_⟩
  unfold State.screenReset
  dsimp only
  rw [screenLeft_eq, hreset]
  rfl

theorem replied_ports_congr {p : PortId} {code tag : Byte} {b : List Byte} {s t : State} (h : t.ports = s.ports) :
    (State.replied p code tag b t).ports = (State.replied p code tag b s).ports := by
  change upd t.ports p _ = upd s.ports p _
  rw [h]

/-- Settles O26: the end of a show by the removal of its held orders, the reset by the cut of its call. -/
theorem endShowAndScreenReset : Obligations.EndShowAndScreenReset := by
  unfold Obligations.EndShowAndScreenReset
  intro p tag i s w
  have hi := indexArg_u8 i (by decide)
  refine ⟨fun ha => ⟨fun hs => ?_, fun hs hlaw => ?_⟩, fun ha => ?_⟩
  · exact serve_refused ha rolesB_of_contains rfl hi (if_neg (by rw [show ((s.taken p).shows[i]).state.inShow = false from hs]; exact Bool.false_ne_true))
  · have hlaw' : (s.taken p).bookLaws := bookLaws_congr (s := s) rfl rfl hlaw
    have hbody : (s.taken p).endShowBody i = (((s.taken p).showOver i).startAll, .ok (u16 w.clock.second ++ u8 w.clock.frame)) := by
      rw [← endShow_eq hlaw']
      exact if_pos hs
    exact serve_ok ha rolesB_of_contains rfl hi hbody
  · obtain ⟨reader, hreset⟩ := screenReset_eq i (s.taken p)
    have hbody : (s.taken p).screenResetBody i = ((s.taken p).screenReset i,
        .ok (enumByte ([.idle, .armed, .running, .held, .lost, .ended] : List ScreenState) w.state)) := rfl
    have hreads (j : ScreenId) := serveReads_readsOnly ((s.taken p).screenEmptied i reader) j
    have horders := serveReads_orders ((s.taken p).screenEmptied i reader)
    have hframe := eq_of_clearCalls (serveReads_frame ((s.taken p).screenEmptied i reader))
    rw [← hreset] at hreads horders hframe
    generalize (s.taken p).screenReset i = v at hbody hreads horders hframe
    have hports : v.ports = (s.taken p).ports := by rw [hframe]; rfl
    have hself : ((s.taken p).screenEmptied i reader).calls[i] = (s.calls[i]).screenReset := upd_get_self _ _ _
    have hother (j : ScreenId) (hj : j ≠ i) : ((s.taken p).screenEmptied i reader).calls[j] = s.calls[j] := upd_get_ne _ _ _ _ hj.symm
    refine ⟨_, serve_ok ha rolesB_of_contains rfl hi hbody, ?_, replied_ports_congr hports, ?_, fun j hj => ?_⟩
    · have hu := replied_eq p 0x18 tag (enumByte ([.idle, .armed, .running, .held, .lost, .ended] : List ScreenState) w.state) v
      generalize State.replied p 0x18 tag _ v = u at hu ⊢
      have hcalls : u.calls = v.calls := by rw [hu]
      have hreader : u.reader = v.reader := by rw [hu]
      rw [hcalls, hreader]
      conv_lhs => rw [hu, hframe, horders]
      rfl
    · rw [replied_calls, CallUnit.sameButReads_of_slot_none (hreads i) (by rw [hself]; rfl), hself]
      rfl
    · rw [replied_calls, ← hother j hj]
      exact hreads j

end Sys2Proof.Machine

/-! The night clock (O15). -/

namespace Sys2Proof.Machine

/-! ### The ready shelf examined, written out (R167, R168) -/

/-- The orders of a list that are recalled on a screen. -/
def State.recalls (os : List Order) (i : ScreenId) (s : State) : List Order :=
  os.filter fun o => o.screen == i && decide (o.callsPlayed < s.orders.settings.maxCalls)

/-- The orders of a list that expire. -/
def State.expiries (os : List Order) (s : State) : List Order := os.filter fun o => decide (s.orders.settings.maxCalls ≤ o.callsPlayed)

/-- The room in a screen's call queue. -/
def State.room (i : ScreenId) (s : State) : Nat := 16 - (s.calls[i]).queue.length

/-- Whether a number is among those of the recalled orders that find no room. -/
def State.leftOwed (os : List Order) (n : Nat) (s : State) : Bool :=
  (List.finRange 4).any fun i => (((s.recalls os i).drop (s.room i)).map (·.number)).contains n

/-- The part with orders expired, others owed by their numbers and others joined to the call queues. -/
def State.examinedWith (gone : List Order) (owed : Nat → Bool) (called : ScreenId → List Order) (s : State) : State :=
  { s with
    tickets := s.tickets.map fun t => { t with openOrders := t.openOrders - gone.countP (·.ticket == t.number) }
    orders := { s.orders with
      table := (s.orders.table.filter fun r => !(gone.map (·.number)).contains r.number).map fun r =>
        if owed r.number then { r with owed := true } else r
      shelf := s.orders.shelf.filter fun n => !(gone.map (·.number)).contains n
      totals := s.orders.totals.countMany .expired gone.length }
    calls := Vector.ofFn fun i => { s.calls[i] with queue := (s.calls[i]).queue ++ (called i).map fun o => .orderCall o.number }
    ports := removalPorts .expired gone s }

/-- The part once a list of due orders has been recalled or has expired. -/
def State.examined (os : List Order) (s : State) : State :=
  s.examinedWith (s.expiries os) (s.leftOwed os) fun i => (s.recalls os i).take (s.room i)

theorem leftOwed_iff (os : List Order) (n : Nat) (s : State) :
    s.leftOwed os n = true ↔ ∃ i, n ∈ ((s.recalls os i).drop (s.room i)).map (·.number) := by
  unfold State.leftOwed
  simp only [List.any_eq_true, List.mem_finRange, true_and, List.contains_iff_mem]

theorem examined_nil (s : State) : s.examined [] = s := by
  have howed : s.leftOwed [] = fun _ => false := by
    funext n
    rw [Bool.eq_false_iff, ne_eq, leftOwed_iff]
    simp [State.recalls]
  have hcalled : (fun i => (s.recalls [] i).take (s.room i)) = fun _ => [] := by
    funext i
    simp [State.recalls]
  unfold State.examined
  rw [howed, hcalled]
  refine removal_congr (s := s) (List.map_id _) ?_ ?_ rfl
  · simp [State.expiries, OrderTotals.countMany]
  · ext1 i hi
    simp

section Examined

variable {o : Order} {os : List Order} {s t : State}

theorem recalls_cons_of_expired (h : s.orders.settings.maxCalls ≤ o.callsPlayed) (i : ScreenId) : s.recalls (o :: os) i = s.recalls os i := by
  unfold State.recalls
  rw [List.filter_cons, if_neg]
  simp [h]

theorem recalls_cons (h : o.callsPlayed < s.orders.settings.maxCalls) (i : ScreenId) :
    s.recalls (o :: os) i = if o.screen = i then o :: s.recalls os i else s.recalls os i := by
  unfold State.recalls
  rw [List.filter_cons]
  simp [h]

theorem expiries_cons_of_recalled (h : o.callsPlayed < s.orders.settings.maxCalls) : s.expiries (o :: os) = s.expiries os := by
  unfold State.expiries
  rw [List.filter_cons, if_neg]
  simpa using h

theorem expiries_cons (h : s.orders.settings.maxCalls ≤ o.callsPlayed) : s.expiries (o :: os) = o :: s.expiries os := by
  unfold State.expiries
  rw [List.filter_cons, if_pos]
  simpa using h

theorem recalls_congr (h : t.orders.settings = s.orders.settings) (i : ScreenId) : t.recalls os i = s.recalls os i := by
  unfold State.recalls
  rw [h]

theorem expiries_congr (h : t.orders.settings = s.orders.settings) : t.expiries os = s.expiries os := by
  unfold State.expiries
  rw [h]

theorem filter_one {α : Type} (f : α → Nat) (n : Nat) (l : List α) : (l.filter fun a => !([n] : List Nat).contains (f a)) = l.filter fun a => f a != n :=
  List.filter_congr fun a _ => by simp [bne, beq_eq_decide]

theorem examinedWith_expired {gone : List Order} {owed : Nat → Bool} {called : ScreenId → List Order} (hkitchen : o.number ∉ s.orders.kitchen)
    (hqueue : CallEntry.orderCall o.number ∉ (s.calls[o.screen]).queue) :
    (s.removeOrders .expired [o]).examinedWith gone owed called = s.examinedWith (o :: gone) owed called := by
  have hone := removeOrders_plain (out := .expired) (os := [o]) (s := s) (by simpa using hkitchen) (by simpa using hqueue)
  have hports : removalPorts .expired gone (s.removeOrders .expired [o]) = removalPorts .expired (o :: gone) s :=
    removalPorts_congr (s := s.postRemoval .expired o.number) .expired gone (by rw [hone]; rfl)
  unfold State.examinedWith
  rw [hports, hone]
  refine removal_congr (s := s) ?_ ?_ rfl rfl
  · rw [List.map_map]
    refine List.map_congr_left fun t _ => ?_
    simp only [Function.comp_apply, List.countP_cons, List.countP_nil]
    refine congrArg (fun k => ({ t with openOrders := k } : Ticket)) ?_
    omega
  · have htable : ((s.orders.table.filter fun r => !([o].map (·.number)).contains r.number).filter fun r =>
        !(gone.map (·.number)).contains r.number) = s.orders.table.filter fun r => !((o :: gone).map (·.number)).contains r.number := by
      exact (congrArg (List.filter _) (filter_one Order.number o.number s.orders.table)).trans
        (filter_numbers Order.number o.number (gone.map (·.number)) s.orders.table)
    have hshelf : ((s.orders.shelf.filter fun n => !([o].map (·.number)).contains n).filter fun n => !(gone.map (·.number)).contains n) =
        s.orders.shelf.filter fun n => !((o :: gone).map (·.number)).contains n := by
      exact (congrArg (List.filter _) (filter_one (fun n => n) o.number s.orders.shelf)).trans
        (filter_numbers (fun n => n) o.number (gone.map (·.number)) s.orders.shelf)
    dsimp only
    rw [htable, hshelf]
    rfl

/-- An order that expires, and the due orders behind it. -/
theorem examined_expired (h : s.orders.settings.maxCalls ≤ o.callsPlayed) (hkitchen : o.number ∉ s.orders.kitchen)
    (hqueue : CallEntry.orderCall o.number ∉ (s.calls[o.screen]).queue) :
    (s.removeOrders .expired [o]).examined os = s.examined (o :: os) := by
  have hone := removeOrders_plain (out := .expired) (os := [o]) (s := s) (by simpa using hkitchen) (by simpa using hqueue)
  have hsettings : (s.removeOrders .expired [o]).orders.settings = s.orders.settings := by rw [hone]
  have hcalls : (s.removeOrders .expired [o]).calls = s.calls := by rw [hone]
  have hrecalls (i : ScreenId) : (s.removeOrders .expired [o]).recalls os i = s.recalls (o :: os) i :=
    (recalls_congr hsettings i).trans (recalls_cons_of_expired h i).symm
  have hroom (i : ScreenId) : (s.removeOrders .expired [o]).room i = s.room i := by
    unfold State.room
    rw [hcalls]
  have howed : (s.removeOrders .expired [o]).leftOwed os = s.leftOwed (o :: os) := by
    funext n
    unfold State.leftOwed
    simp only [hrecalls, hroom]
  unfold State.examined
  rw [examinedWith_expired hkitchen hqueue, expiries_congr hsettings, expiries_cons h, howed]
  simp only [hrecalls, hroom]

/-- The room and the recalled orders of a screen once one more has been recalled. -/
theorem recalled_rest (h : o.callsPlayed < s.orders.settings.maxCalls) (i : ScreenId) {room : Nat}
    (hroom : room = if o.screen = i then s.room i - 1 else s.room i) :
    (s.recalls (o :: os) i).drop (s.room i) =
      (if o.screen = i ∧ s.room i = 0 then [o] else []) ++ (s.recalls os i).drop room ∧
    (s.recalls (o :: os) i).take (s.room i) =
      (if o.screen = i ∧ 0 < s.room i then [o] else []) ++ (s.recalls os i).take room := by
  rw [recalls_cons h, hroom]
  by_cases hi : o.screen = i
  · cases hr : s.room i with
    | zero => simp [hi]
    | succ k => simp [hi]
  · simp [hi]

theorem enqueueCall_unit (hcall : (s.calls[o.screen]).hasCallOf o.number = false) (i : ScreenId) :
    (s.enqueueCall o.screen o.number).calls[i] = { s.calls[i] with
      queue := (s.calls[i]).queue ++ (if o.screen = i ∧ 0 < s.room i then [o] else []).map fun o => .orderCall o.number } := by
  rw [enqueueCall_eq]
  refine (upd_get s.calls o.screen i _).trans ?_
  unfold State.room
  by_cases hi : o.screen = i
  · subst hi
    rw [if_pos rfl, hcall]
    by_cases hfull : 16 ≤ (s.calls[o.screen]).queue.length
    · rw [if_pos (.inr hfull), if_neg fun hn => by omega]
      simp
    · rw [if_neg (by simpa using hfull), if_pos ⟨rfl, by omega⟩]
      rfl
  · rw [if_neg hi, if_neg fun hn => hi hn.1]
    simp

theorem enqueueCall_room (hcall : (s.calls[o.screen]).hasCallOf o.number = false) (i : ScreenId) :
    (s.enqueueCall o.screen o.number).room i = if o.screen = i then s.room i - 1 else s.room i := by
  rw [State.room, enqueueCall_unit hcall, List.length_append, List.length_map]
  unfold State.room
  by_cases hi : o.screen = i
  · rw [if_pos hi]
    by_cases hr : 0 < 16 - (s.calls[i]).queue.length
    · rw [if_pos ⟨hi, hr⟩, List.length_singleton]
      omega
    · rw [if_neg fun hn => hr hn.2, List.length_nil]
      omega
  · rw [if_neg hi, if_neg fun hn => hi hn.1]
    rfl

/-- A number that is owed with one order more recalled. -/
theorem leftOwed_cons (h : o.callsPlayed < s.orders.settings.maxCalls) (hcall : (s.calls[o.screen]).hasCallOf o.number = false) (n : Nat) :
    s.leftOwed (o :: os) n = (decide (n = o.number ∧ s.room o.screen = 0) || (s.enqueueCall o.screen o.number).leftOwed os n) := by
  have hrest (i : ScreenId) := recalled_rest (os := os) h i (enqueueCall_room hcall i)
  have hsettings : (s.enqueueCall o.screen o.number).orders.settings = s.orders.settings := by rw [enqueueCall_eq]
  rw [Bool.eq_iff_iff, Bool.or_eq_true, decide_eq_true_iff]
  simp only [leftOwed_iff, recalls_congr hsettings]
  constructor
  · rintro ⟨i, hi⟩
    rw [(hrest i).1, List.map_append, List.mem_append] at hi
    refine hi.imp (fun hi => ?_) fun hi => ⟨i, hi⟩
    by_cases hc : o.screen = i ∧ s.room i = 0
    · rw [if_pos hc] at hi
      exact ⟨by simpa using hi, hc.1 ▸ hc.2⟩
    · rw [if_neg hc] at hi
      exact absurd hi (by simp)
  · rintro (⟨hn, hr⟩ | ⟨i, hi⟩)
    · refine ⟨o.screen, ?_⟩
      rw [(hrest o.screen).1, if_pos ⟨rfl, hr⟩, hn]
      simp
    · refine ⟨i, ?_⟩
      rw [(hrest i).1, List.map_append]
      exact List.mem_append_right _ hi

/-- An order owed by its mark, then by its number. -/
theorem marked_twice (c : Prop) [Decidable c] (owed : Nat → Bool) (r : Order) :
    (if owed (if c then { r with owed := true } else r).number = true then { (if c then { r with owed := true } else r) with owed := true }
      else if c then { r with owed := true } else r) = if (decide c || owed r.number) = true then { r with owed := true } else r := by
  by_cases hc : c
  · simp [hc]
  · simp [hc]

theorem examinedWith_recalled {gone : List Order} {owed : Nat → Bool} {called : ScreenId → List Order}
    (hcall : (s.calls[o.screen]).hasCallOf o.number = false) :
    (s.enqueueCall o.screen o.number).examinedWith gone owed called =
      s.examinedWith gone (fun n => decide (n = o.number ∧ s.room o.screen = 0) || owed n)
        fun i => (if o.screen = i ∧ 0 < s.room i then [o] else []) ++ called i := by
  have hone := enqueueCall_eq o.screen o.number s
  have hports : removalPorts .expired gone (s.enqueueCall o.screen o.number) = removalPorts .expired gone s :=
    removalPorts_congr .expired gone (by rw [hone])
  have hunit := enqueueCall_unit (s := s) hcall
  unfold State.examinedWith
  simp only [hports, hunit]
  rw [hone]
  refine removal_congr (s := s) rfl ?_ ?_ rfl
  · refine congrArg (fun t => ({ s.orders with
      table := t, shelf := s.orders.shelf.filter fun n => !(gone.map (·.number)).contains n
      totals := s.orders.totals.countMany .expired gone.length } : OrderUnit)) ?_
    have hnumber (r : Order) : (if r.number = o.number ∧ (s.calls[o.screen]).hasCallOf o.number = false ∧
        16 ≤ (s.calls[o.screen]).queue.length then { r with owed := true } else r).number = r.number := by
      split <;> rfl
    have hkept : ((fun r : Order => !(gone.map (·.number)).contains r.number) ∘ fun r => if r.number = o.number ∧
        (s.calls[o.screen]).hasCallOf o.number = false ∧ 16 ≤ (s.calls[o.screen]).queue.length then { r with owed := true } else r) =
          fun r => !(gone.map (·.number)).contains r.number := funext fun r => by rw [Function.comp_apply, hnumber]
    rw [List.filter_map, List.map_map, hkept]
    refine List.map_congr_left fun r _ => ?_
    have hfull : s.room o.screen = 0 ↔ 16 ≤ (s.calls[o.screen]).queue.length := Nat.sub_eq_zero_iff_le
    refine (marked_twice (r.number = o.number ∧ (s.calls[o.screen]).hasCallOf o.number = false ∧ 16 ≤ (s.calls[o.screen]).queue.length)
      owed r).trans ?_
    refine congrArg (fun b : Bool => if (b || owed r.number) = true then ({ r with owed := true } : Order) else r) (decide_eq_decide.mpr ?_)
    rw [hfull]
    exact ⟨fun hn => ⟨hn.1, hn.2.2⟩, fun hn => ⟨hn.1, hcall, hn.2⟩⟩
  · refine congrArg Vector.ofFn (funext fun i => ?_)
    rw [List.map_append, List.append_assoc]

/-- An order that is recalled, and the due orders behind it. -/
theorem examined_recalled (h : o.callsPlayed < s.orders.settings.maxCalls) (hcall : (s.calls[o.screen]).hasCallOf o.number = false) :
    (s.enqueueCall o.screen o.number).examined os = s.examined (o :: os) := by
  have hsettings : (s.enqueueCall o.screen o.number).orders.settings = s.orders.settings := by rw [enqueueCall_eq]
  have hcalled : (fun i => (if o.screen = i ∧ 0 < s.room i then [o] else []) ++
      ((s.enqueueCall o.screen o.number).recalls os i).take ((s.enqueueCall o.screen o.number).room i)) =
        fun i => (s.recalls (o :: os) i).take (s.room i) := by
    funext i
    rw [recalls_congr hsettings]
    exact (recalled_rest h i (enqueueCall_room hcall i)).2.symm
  have howed : (fun n => decide (n = o.number ∧ s.room o.screen = 0) || (s.enqueueCall o.screen o.number).leftOwed os n) = s.leftOwed (o :: os) :=
    funext fun n => (leftOwed_cons h hcall n).symm
  unfold State.examined
  rw [examinedWith_recalled hcall, hcalled, howed, expiries_congr hsettings, expiries_cons_of_recalled h]

/-- A state in which the orders but for one are as due as before, found by their numbers. -/
structure OthersAsDue (n : Nat) (s t : State) : Prop where
  kitchen : t.orders.kitchen = s.orders.kitchen
  order? : ∀ m, m ≠ n → t.order? m = s.order? m
  isDue : ∀ r : Order, r.number ≠ n → t.isDue r = s.isDue r

theorem find?_map_other {m : Nat} {f : Order → Order} (hf : ∀ r, (f r).number = r.number) (hm : ∀ r, r.number = m → f r = r) (l : List Order) :
    (l.map f).find? (·.number == m) = l.find? (·.number == m) := by
  rw [List.find?_map]
  have hp : ((fun r : Order => r.number == m) ∘ f) = fun r => r.number == m := funext fun r => by rw [Function.comp_apply, hf]
  rw [hp]
  cases h : l.find? (·.number == m) with
  | none => rfl
  | some r => rw [Option.map_some, hm r (by simpa using List.find?_some h)]

theorem enqueueCall_others (hcall : (s.calls[o.screen]).hasCallOf o.number = false) : OthersAsDue o.number s (s.enqueueCall o.screen o.number) where
  kitchen := by rw [enqueueCall_eq]
  order? m hm := by
    rw [enqueueCall_eq]
    refine find?_map_other (fun r => ?_) (fun r hr => if_neg fun hn => hm (hr.symm.trans hn.1)) s.orders.table
    split <;> rfl
  isDue r hr := by
    have hhas : ((s.enqueueCall o.screen o.number).calls[r.screen]).hasCallOf r.number = (s.calls[r.screen]).hasCallOf r.number := by
      rw [hasCallOf_eq, hasCallOf_eq, enqueueCall_unit hcall]
      refine congrArg (· || _) ?_
      rw [Bool.eq_iff_iff, List.contains_iff_mem, List.contains_iff_mem, List.mem_append, or_iff_left]
      split
      · simpa using hr
      · simp
    unfold State.isDue
    rw [hhas, enqueueCall_eq]

theorem removeOrders_others (hkitchen : o.number ∉ s.orders.kitchen) (hqueue : CallEntry.orderCall o.number ∉ (s.calls[o.screen]).queue) :
    OthersAsDue o.number s (s.removeOrders .expired [o]) := by
  rw [removeOrders_plain (by simpa using hkitchen) (by simpa using hqueue)]
  refine ⟨rfl, fun m hm => ?_, fun r _ => rfl⟩
  refine List.find?_filter.trans (congrArg (fun p => s.orders.table.find? p) (funext fun r => ?_))
  by_cases hr : r.number = m
  · simp [hr, hm]
  · simp [hr]

theorem hasCallOf_of_isDue (h : s.isDue o = true) : (s.calls[o.screen]).hasCallOf o.number = false := by
  unfold State.isDue at h
  split at h
  · exact absurd h Bool.false_ne_true
  · simp only [Bool.and_eq_true, Bool.not_eq_true'] at h
    exact h.1.1

theorem not_queued_of_hasCallOf {n : Nat} {c : CallUnit} (h : c.hasCallOf n = false) : CallEntry.orderCall n ∉ c.queue := by
  rw [hasCallOf_eq, Bool.or_eq_false_iff] at h
  simpa using h.1

/-- The shelf examined from its oldest order to its newest. -/
theorem examineOrder_fold {l : List Nat} (hl : l.Nodup) (hkitchen : ∀ n ∈ l, n ∉ s.orders.kitchen) :
    l.foldl State.examineOrder s = s.examined ((l.filterMap s.order?).filter s.isDue) := by
  induction l generalizing s with
  | nil => exact (examined_nil s).symm
  | cons n l ih =>
    obtain ⟨hn, hl⟩ := List.nodup_cons.mp hl
    rw [List.foldl_cons]
    cases ho : s.order? n with
    | none =>
      have hstays : s.examineOrder n = s := by rw [State.examineOrder, ho]
      rw [hstays, List.filterMap_cons_none ho]
      exact ih hl fun m hm => hkitchen m (List.mem_cons_of_mem _ hm)
    | some o =>
      have hnumber := order?_number ho
      rw [List.filterMap_cons_some ho, List.filter_cons]
      by_cases hdue : s.isDue o = true
      · rw [if_pos hdue]
        have hcall := hasCallOf_of_isDue hdue
        have hnot : o.number ∉ s.orders.kitchen := hnumber ▸ hkitchen n List.mem_cons_self
        have hrest {t : State} (h : OthersAsDue o.number s t) :
            l.foldl State.examineOrder t = t.examined ((l.filterMap s.order?).filter s.isDue) := by
          have hne (m : Nat) (hm : m ∈ l) : m ≠ o.number := fun he => hn (hnumber ▸ he ▸ hm)
          rw [ih hl fun m hm => by rw [h.kitchen]; exact hkitchen m (List.mem_cons_of_mem _ hm)]
          have hfound : l.filterMap t.order? = l.filterMap s.order? := List.filterMap_congr fun m hm => h.order? m (hne m hm)
          rw [hfound]
          refine congrArg (t.examined ·) (List.filter_congr fun r hr => h.isDue r ?_)
          obtain ⟨m, hm, hf⟩ := List.mem_filterMap.mp hr
          rw [order?_number hf]
          exact hne m hm
        by_cases hmax : o.callsPlayed < s.orders.settings.maxCalls
        · have hstep : s.examineOrder n = s.enqueueCall o.screen o.number := by simp [State.examineOrder, ho, hdue, hmax]
          rw [hstep, hrest (enqueueCall_others hcall), examined_recalled hmax hcall]
        · have hqueue := not_queued_of_hasCallOf hcall
          have hstep : s.examineOrder n = s.removeOrders .expired [o] := by simp [State.examineOrder, ho, hdue, hmax]
          rw [hstep, hrest (removeOrders_others hnot hqueue), examined_expired (by omega) hnot hqueue]
      · have hstays : s.examineOrder n = s := by simp [State.examineOrder, ho, hdue]
        rw [if_neg hdue, hstays]
        exact ih hl fun m hm => hkitchen m (List.mem_cons_of_mem _ hm)

end Examined

/-- Settles O15: the examination of the shelf, written out over the orders that are due. -/
theorem nightClockAdvance : Obligations.NightClockAdvance := by
  unfold Obligations.NightClockAdvance
  intro s
  refine ⟨fun h => congrArg Host.Outcome.next (if_neg (by omega)), fun h hlaw => ?_⟩
  intro u due recalled expired room
  have hadvance : exec .nightClockAdvance s = .next ({ s with nightClock := s.nightClock + 1 }.examineShelf).startAll :=
    congrArg Host.Outcome.next (if_pos h)
  rw [hadvance]
  refine congrArg (fun t => Host.Outcome.next (State.startAll t)) ?_
  have hnumbers := bookLaws_numbers hlaw
  have hbook := hlaw
  obtain ⟨-, -, hdistinct, -, hready, -, -⟩ := hbook
  have hdue : (s.orders.shelf.filterMap s.order?).filter { s with nightClock := s.nightClock + 1 }.isDue = due := by
    refine List.filter_congr fun o _ => ?_
    unfold State.isDue
    cases o.lastCallEnd with
    | none => rfl
    | some last => exact (Bool.and_comm ..).trans (Bool.and_assoc ..).symm
  have hkitchen (n : Nat) (hn : n ∈ s.orders.shelf) : n ∉ s.orders.kitchen := by
    obtain ⟨o, ho, hon, hr⟩ := (hready n).mp hn
    rw [← hon]
    refine not_mem_kitchen_of_state hlaw ho fun hq => ?_
    rw [Order.isReady, hq] at hr
    exact Bool.false_ne_true hr
  have hmem (o : Order) (ho : o ∈ due) : o ∈ s.orders.table := by
    obtain ⟨n, -, hf⟩ := List.mem_filterMap.mp (List.mem_filter.mp ho).1
    exact List.mem_of_find?_eq_some hf
  have hfold : { s with nightClock := s.nightClock + 1 }.examineShelf = ({ s with nightClock := s.nightClock + 1 } : State).examined due :=
    (examineOrder_fold (s := { s with nightClock := s.nightClock + 1 }) hdistinct hkitchen).trans
      (congrArg (fun l => ({ s with nightClock := s.nightClock + 1 } : State).examined l) hdue)
  rw [hfold]
  have hgone (o : Order) (ho : o ∈ s.orders.table) : ((expired.map (·.number)).contains o.number = true) ↔ o ∈ expired := by
    rw [List.contains_iff_mem]
    refine ⟨fun hn => ?_, List.mem_map_of_mem⟩
    obtain ⟨r, hr, hrn⟩ := List.mem_map.mp hn
    rw [← eq_of_order_number hnumbers (hmem r (List.mem_filter.mp hr).1) ho hrn]
    exact hr
  have howed (o : Order) (ho : o ∈ s.orders.table) : (s.leftOwed due o.number = true) ↔ o ∈ (recalled o.screen).drop (room o.screen) := by
    rw [leftOwed_iff]
    constructor
    · rintro ⟨i, hi⟩
      obtain ⟨r, hr, hrn⟩ := List.mem_map.mp hi
      obtain ⟨hrd, hrs⟩ := List.mem_filter.mp (List.mem_of_mem_drop hr)
      have hro : r = o := eq_of_order_number hnumbers (hmem r hrd) ho hrn
      have hscreen : r.screen = i := beq_iff_eq.mp (Bool.and_eq_true_iff.mp hrs).1
      rw [← hro, hscreen]
      exact hr
    · exact fun h => ⟨o.screen, List.mem_map_of_mem h⟩
  have htable : ((s.orders.table.filter fun r => !(expired.map (·.number)).contains r.number).map fun r =>
      if s.leftOwed due r.number then { r with owed := true } else r) =
        (u.table.filter fun o => !expired.contains o).map fun o =>
          if o ∈ (recalled o.screen).drop (room o.screen) then { o with owed := true } else o := by
    have hfilter : (s.orders.table.filter fun r => !(expired.map (·.number)).contains r.number) = u.table.filter fun o => !expired.contains o := by
      refine List.filter_congr fun o ho => congrArg (! ·) ?_
      rw [Bool.eq_iff_iff, hgone o ho, List.contains_iff_mem]
    rw [hfilter]
    exact List.map_congr_left fun o ho => if_congr (howed o (List.mem_filter.mp ho).1) rfl rfl
  have hshelf : (s.orders.shelf.filter fun n => !(expired.map (·.number)).contains n) = u.shelf.filter fun n => expired.all (·.number != n) := by
    refine List.filter_congr fun n _ => ?_
    rw [Bool.eq_iff_iff, Bool.not_eq_true', List.all_eq_true, ← Bool.not_eq_true, List.contains_iff_mem, List.mem_map]
    simp
  have hports : removalPorts .expired expired { s with nightClock := s.nightClock + 1 } =
      (expired.foldl (fun s o => s.post .orderExpired (.order o.number)) s).ports := removalPorts_congr (s := s) .expired expired rfl
  have htotals := countMany_expired expired.length (bookLaws_totals hlaw).2
  have hshape {b b' : OrderUnit} {q q' : Vector Port 3} (hb : b = b') (hq : q = q') : ({ s with
      nightClock := s.nightClock + 1
      tickets := s.tickets.map fun t => { t with openOrders := t.openOrders - expired.countP (·.ticket == t.number) }
      orders := b
      calls := Vector.ofFn fun i : ScreenId => { s.calls[i] with
        queue := (s.calls[i]).queue ++ ((recalled i).take (room i)).map fun o => .orderCall o.number }
      ports := q } : State) = { s with
      nightClock := s.nightClock + 1
      tickets := s.tickets.map fun t => { t with openOrders := t.openOrders - expired.countP (·.ticket == t.number) }
      orders := b'
      calls := Vector.ofFn fun i : ScreenId => { s.calls[i] with
        queue := (s.calls[i]).queue ++ ((recalled i).take (room i)).map fun o => .orderCall o.number }
      ports := q' } := by rw [hb, hq]
  refine hshape ?_ hports
  refine (congrArg (fun t => ({ s.orders with
    table := t, shelf := s.orders.shelf.filter fun n => !(expired.map (·.number)).contains n
    totals := s.orders.totals.countMany .expired expired.length } : OrderUnit)) htable).trans ?_
  rw [hshelf, htotals]

end Sys2Proof.Machine

/-! The pass over the cues at a position (O32). -/

namespace Sys2Proof.Machine

/-! ### Turns (R80 to R82) -/

/-- What no action touches of its screen's cue record: the list and the cursor. -/
def SameList (i : ScreenId) (s t : State) : Prop := (t.cues[i]).cues = (s.cues[i]).cues ∧ (t.cues[i]).cursor = (s.cues[i]).cursor

theorem SameList.of_cues {i : ScreenId} {s t : State} (h : t.cues = s.cues) : SameList i s t := by
  unfold SameList
  rw [h]
  exact ⟨rfl, rfl⟩

theorem modCues_sameList {i : ScreenId} {f : CueUnit → CueUnit} {s : State} (hcues : ∀ u, (f u).cues = u.cues) (hcursor : ∀ u, (f u).cursor = u.cursor) :
    SameList i s (s.modCues i f) := by
  have hself : (s.modCues i f).cues[i] = f s.cues[i] := upd_get_self _ _ _
  unfold SameList
  rw [hself]
  exact ⟨hcues _, hcursor _⟩

theorem runAction_sameList (i : ScreenId) (a : CueAction) (s : State) : SameList i s (s.runAction i a) := by
  cases a with
  | test src m f => cases f <;> exact modCues_sameList (fun _ => rfl) fun _ => rfl
  | lamp k on => exact modCues_sameList (fun _ => rfl) fun _ => rfl
  | hold =>
    unfold State.runAction
    dsimp only
    split <;> exact .of_cues rfl
  | endShow =>
    unfold State.runAction
    dsimp only
    split
    · exact .of_cues (endShow_onlyIn i s .cues (by simp [endParts]))
    · exact .of_cues rfl
  | kitchenRelease => exact .of_cues (onlyIn_of_clearOrders (kitchenRelease_frame i s) .cues (by simp))
  | callsOpen => exact .of_cues (onlyIn_of_clearCalls (openCalls_frame i s) .cues (by simp))
  | entryOpen | entryClose | ordersOpen | ordersClose | callsClose | mark => exact .of_cues rfl

/-- The turn of a cue, told whether an END has been carried out before it at its position. -/
def State.cueTurn (i : ScreenId) (x : State × Bool) (c : Cue) : State × Bool :=
  let k := (x.1.cues[i]).cursor
  let past := x.1.passCursor i
  if x.2 then (past.setOutcome i k .passedOver, true)
  else if c.guard.holds (x.1.cues[i]).flagA (x.1.cues[i]).flagB then
    ((past.runAction i c.action).setOutcome i k .executed, decide (c.action = .endShow))
  else (past.setOutcome i k .skipped, false)

/-- The cues of a screen's list from its cursor onward. -/
def State.cuesLeft (i : ScreenId) (s : State) : List Cue := (s.cues[i]).cues.drop (s.cues[i]).cursor

theorem cuesLeft_head {i : ScreenId} {s : State} {c : Cue} {l : List Cue} (h : s.cuesLeft i = c :: l) :
    (s.cues[i]).cues[(s.cues[i]).cursor]? = some c := by
  have hhead := congrArg List.head? h
  rwa [State.cuesLeft, List.head?_drop] at hhead

theorem cuesLeft_none {i : ScreenId} {s : State} {p : Pos} (h : ∀ c ∈ (s.cuesLeft i).head?, c.pos ≠ p) {c : Cue}
    (hc : (s.cues[i]).cues[(s.cues[i]).cursor]? = some c) : c.pos ≠ p := by
  refine h c ?_
  rw [State.cuesLeft, List.head?_drop]
  exact hc

/-- Once a cue has had its turn, the cues behind it are left. -/
theorem cuesLeft_passed {i : ScreenId} {s t : State} {c : Cue} {l : List Cue} {out : CueOutcome} (h : s.cuesLeft i = c :: l)
    (ht : SameList i (s.passCursor i) t) : (t.setOutcome i (s.cues[i]).cursor out).cuesLeft i = l := by
  obtain ⟨hcues, hcursor⟩ := ht
  have hpast : (s.passCursor i).cues[i] = { s.cues[i] with cursor := (s.cues[i]).cursor + 1 } := upd_get_self _ _ _
  have hself : (t.setOutcome i (s.cues[i]).cursor out).cues[i] = (t.cues[i]).pass (s.cues[i]).cursor out := upd_get_self _ _ _
  unfold State.cuesLeft
  rw [hself]
  dsimp only [CueUnit.pass]
  rw [hcues, hcursor, hpast]
  dsimp only
  rw [List.drop_modify_of_lt _ _ _ _ (Nat.lt_add_one _), ← List.drop_drop, List.drop_one]
  exact congrArg List.tail h

theorem cueTurn_left {i : ScreenId} {x : State × Bool} {c : Cue} {l : List Cue} (h : x.1.cuesLeft i = c :: l) :
    (State.cueTurn i x c).1.cuesLeft i = l := by
  unfold State.cueTurn
  dsimp only
  split
  · exact cuesLeft_passed h (.of_cues rfl)
  · split
    · exact cuesLeft_passed h (runAction_sameList i c.action _)
    · exact cuesLeft_passed h (.of_cues rfl)

theorem passOver_stops {n : Nat} {i : ScreenId} {p : Pos} {s : State} (h : ∀ c ∈ (s.cuesLeft i).head?, c.pos ≠ p) : State.passOver n i p s = s := by
  cases n with
  | zero => rfl
  | succ n =>
    unfold State.passOver
    split
    · next c hc => exact if_neg (cuesLeft_none h hc)
    · rfl

theorem passOver_turns {n : Nat} {i : ScreenId} {p : Pos} {due back : List Cue} {s : State} (hlen : due.length ≤ n)
    (hleft : s.cuesLeft i = due ++ back) (hdue : ∀ c ∈ due, c.pos = p) (hback : ∀ c ∈ back.head?, c.pos ≠ p) :
    State.passOver n i p s = (due.foldl (State.cueTurn i) (s, true)).1 := by
  induction due generalizing n s with
  | nil => exact passOver_stops (by rw [hleft]; exact hback)
  | cons c due ih =>
    obtain ⟨n, rfl⟩ : ∃ m, n = m + 1 := ⟨n - 1, by rw [List.length_cons] at hlen; omega⟩
    have hturn : State.cueTurn i (s, true) c = ((s.passCursor i).setOutcome i (s.cues[i]).cursor .passedOver, true) := rfl
    rw [List.foldl_cons, State.passOver, cuesLeft_head hleft]
    dsimp only
    rw [if_pos (hdue c List.mem_cons_self), passCursor_setOutcome, hturn]
    refine ih (by rw [List.length_cons] at hlen; omega) ?_ fun d hd => hdue d (List.mem_cons_of_mem _ hd)
    exact cuesLeft_passed hleft (.of_cues rfl)

/-- A pass is the turns of the cues at its position. -/
theorem passFor_turns {n : Nat} {i : ScreenId} {p : Pos} {due back : List Cue} {s : State} (hlen : due.length ≤ n)
    (hleft : s.cuesLeft i = due ++ back) (hdue : ∀ c ∈ due, c.pos = p) (hback : ∀ c ∈ back.head?, c.pos ≠ p) :
    State.passFor n i p s = (due.foldl (State.cueTurn i) (s, false)).1 := by
  induction due generalizing n s with
  | nil =>
    cases n with
    | zero => rfl
    | succ n =>
      unfold State.passFor
      dsimp only
      split
      · rfl
      · next c hc => exact if_neg (cuesLeft_none (by rw [hleft]; exact hback) hc)
  | cons c due ih =>
    obtain ⟨n, rfl⟩ : ∃ m, n = m + 1 := ⟨n - 1, by rw [List.length_cons] at hlen; omega⟩
    have hlen' : due.length ≤ n := by rw [List.length_cons] at hlen; omega
    have hdue' (d : Cue) (hd : d ∈ due) : d.pos = p := hdue d (List.mem_cons_of_mem _ hd)
    have hrest : (State.cueTurn i (s, false) c).1.cuesLeft i = due ++ back := cueTurn_left (x := (s, false)) hleft
    have hflags : (s.passCursor i).cues[i] = { s.cues[i] with cursor := (s.cues[i]).cursor + 1 } := upd_get_self _ _ _
    rw [List.foldl_cons, State.passFor]
    dsimp only
    rw [cuesLeft_head hleft]
    dsimp only
    rw [if_pos (hdue c List.mem_cons_self), hflags]
    unfold State.cueTurn at hrest ⊢
    dsimp only at hrest ⊢
    rw [if_neg Bool.false_ne_true] at hrest ⊢
    by_cases hguard : c.guard.holds (s.cues[i]).flagA (s.cues[i]).flagB = true
    · rw [if_pos hguard] at hrest ⊢
      by_cases hend : c.action = .endShow
      · rw [if_pos hguard, if_pos hend, decide_eq_true hend]
        exact passOver_turns hlen' hrest hdue' hback
      · rw [if_pos hguard, if_neg hend, decide_eq_false hend]
        exact ih hlen' hrest hdue'
    · rw [if_neg hguard] at hrest ⊢
      rw [if_neg hguard]
      exact ih hlen' hrest hdue'


/-! ### The pulse that reaches a position (R54, R58, R59, R61) -/

theorem Guard.holds_eq (g : Guard) (a b : Bool) : g.holds a b = match g with
    | .always => true | .ifA => a | .ifNotA => !a | .ifB => b | .ifNotB => !b
    | .ifBoth => a && b | .ifEither => a || b | .ifNeither => !(a || b) := by
  cases g with
  | ifNeither => exact (Bool.not_or a b).symm
  | _ => rfl

theorem advanceClock_pass {i : ScreenId} {s : State} (h : (s.shows[i]).clock ≠ { second := 65535, frame := (s.shows[i]).settings.rate.fps - 1 }) :
    s.advanceClock i = (s.modShow i fun w => { w with clock := w.clock.succ w.settings.rate.fps }).cuePass i := by
  have hnot : ¬(s.shows[i]).saturated = true := fun hs => h ((Show.saturated_iff _).1 hs)
  unfold State.advanceClock
  rw [if_neg hnot]
  exact congrArg (State.cuePass i) (modShow_congr (Show.advance_eq _))

/-- A show at an accepted pulse that starts or advances it. -/
def Show.pulsed (us : Nat) (w : Show) : Show :=
  { w with
    monitor := (w.elapse us).monitor.pulse w.settings.rate, stallTimer := some w.settings.rate.stallLimit
    clock := if w.state = .armed then w.clock else w.clock.succ w.settings.rate.fps
    state := if w.state = .held then .held else .running
    startPending := if w.state = .armed then false else w.startPending
    framesStopped := if w.state = .held then false else w.framesStopped }

/-- The alignment of a screen at an accepted pulse that starts or advances its show. -/
def Align.pulsed (w : Show) (a : Align) : Align :=
  if w.state = .armed ∨ (a.mode = .paused ∧ (w.state = .lost ∨ (w.state = .held ∧ w.framesStopped = true))) then { a with mode := .waiting } else a

section Pulsed

variable {us : Nat} {w : Show} {a : Align}

theorem Show.pulsed_armed (h : w.state = .armed) : w.pulsed us = { w with
    monitor := (w.elapse us).monitor.pulse w.settings.rate, state := .running, startPending := false
    stallTimer := some w.settings.rate.stallLimit } := by
  simp [Show.pulsed, h]

theorem Show.pulsed_running (h : w.state = .running) : w.pulsed us = { w with
    monitor := (w.elapse us).monitor.pulse w.settings.rate, clock := w.clock.succ w.settings.rate.fps
    stallTimer := some w.settings.rate.stallLimit } := by
  simp [Show.pulsed, h]

theorem Show.pulsed_held (h : w.state = .held) : w.pulsed us = { w with
    monitor := (w.elapse us).monitor.pulse w.settings.rate, clock := w.clock.succ w.settings.rate.fps, framesStopped := false
    stallTimer := some w.settings.rate.stallLimit } := by
  simp [Show.pulsed, h]

theorem Show.pulsed_lost (h : w.state = .lost) : w.pulsed us = { w with
    monitor := (w.elapse us).monitor.pulse w.settings.rate, clock := w.clock.succ w.settings.rate.fps, state := .running
    stallTimer := some w.settings.rate.stallLimit } := by
  simp [Show.pulsed, h]

theorem Align.pulsed_running (h : w.state = .running) : a.pulsed w = a := if_neg (by simp [h])

theorem Align.pulsed_held (h : w.state = .held) :
    a.pulsed w = if w.framesStopped = true ∧ a.mode = .paused then { a with mode := .waiting } else a :=
  if_congr (by simp [h, and_comm]) rfl rfl

theorem Align.pulsed_lost (h : w.state = .lost) : a.pulsed w = a.unpause := if_congr (by simp [h]) rfl rfl

end Pulsed

/-- The part at an accepted pulse that starts or advances a show, before the cues of the position reached take their turns. -/
def State.pulsed (i : ScreenId) (us : Nat) (s : State) : State :=
  State.postIf ((s.shows[i]).state = .lost) .frameResumed (.screen i)
    { s with shows := upd s.shows i (Show.pulsed us), aligns := upd s.aligns i (Align.pulsed s.shows[i]) }

theorem pulsed_of {i : ScreenId} {us : Nat} {f : Show → Show} {g : Align → Align} {s : State}
    (hf : f { s.shows[i] with monitor := ((s.shows[i]).elapse us).monitor.pulse (s.shows[i]).settings.rate } = (s.shows[i]).pulsed us)
    (hg : g s.aligns[i] = (s.aligns[i]).pulsed s.shows[i]) (q : Vector Port 3) :
    ({ s.judged i us with shows := upd (s.judged i us).shows i f, aligns := upd s.aligns i g, ports := q } : State) =
      { s with shows := upd s.shows i (Show.pulsed us), aligns := upd s.aligns i (Align.pulsed s.shows[i]), ports := q } :=
  showAlign_congr (s := { s with ports := q }) ((judged_upd i us f s).trans (upd_congr hf)) (upd_congr hg)

theorem pulsed_of_not_lost {i : ScreenId} {us : Nat} {s : State} (h : (s.shows[i]).state ≠ .lost) : s.pulsed i us =
    { s with shows := upd s.shows i (Show.pulsed us), aligns := upd s.aligns i (Align.pulsed s.shows[i]), ports := s.ports } := by
  unfold State.pulsed
  rw [decide_eq_false h]
  rfl

theorem pulsed_cues (i : ScreenId) (us : Nat) (s : State) : (s.pulsed i us).cues = s.cues := by
  unfold State.pulsed State.postIf
  split <;> rfl

theorem pulsed_shows (i : ScreenId) (us : Nat) (s : State) : (s.pulsed i us).shows = upd s.shows i (Show.pulsed us) := by
  unfold State.pulsed State.postIf
  split <;> rfl

/-- The advance of a show whose clock is not saturated, of a part whose screen has been judged and changed. -/
theorem advanceClock_judged {i : ScreenId} {us : Nat} {f : Show → Show} {s t : State} (ht : t.shows = upd (s.judged i us).shows i f)
    (hf : (f { s.shows[i] with monitor := ((s.shows[i]).elapse us).monitor.pulse (s.shows[i]).settings.rate }).clock = (s.shows[i]).clock ∧
      (f { s.shows[i] with monitor := ((s.shows[i]).elapse us).monitor.pulse (s.shows[i]).settings.rate }).settings = (s.shows[i]).settings)
    (h : (s.shows[i]).clock ≠ { second := 65535, frame := (s.shows[i]).settings.rate.fps - 1 }) :
    t.advanceClock i = State.cuePass i { t with
      shows := upd (s.judged i us).shows i fun w => { f w with clock := (f w).clock.succ (f w).settings.rate.fps } } := by
  have hshow : t.shows[i] = f { s.shows[i] with monitor := ((s.shows[i]).elapse us).monitor.pulse (s.shows[i]).settings.rate } := by
    rw [ht, upd_get_self]
    exact congrArg f (judged_shows_get i us s)
  rw [advanceClock_pass (by rw [hshow, hf.1, hf.2]; exact h)]
  refine congrArg (fun v => State.cuePass i { t with shows := v }) ?_
  rw [ht]
  exact upd_upd _ _ _ _

theorem framePulse_pulsed {i : ScreenId} {us : Nat} {s : State} (hlo : (s.shows[i]).settings.rate.pLo ≤ ((s.shows[i]).elapse us).monitor.e)
    (hstate : ((s.shows[i]).state = .armed ∧ (s.shows[i]).startPending = true) ∨
      (((s.shows[i]).state = .running ∨ (s.shows[i]).state = .held ∨ (s.shows[i]).state = .lost) ∧
        (s.shows[i]).clock ≠ { second := 65535, frame := (s.shows[i]).settings.rate.fps - 1 })) :
    s.framePulse i us = (s.pulsed i us).cuePass i := by
  have hjudged := judged_shows_get i us s
  have hstate' : ((s.judged i us).shows[i]).state = (s.shows[i]).state := by rw [hjudged]
  have hpending : ((s.judged i us).shows[i]).startPending = (s.shows[i]).startPending := by rw [hjudged]
  have hstopped : ((s.judged i us).shows[i]).framesStopped = (s.shows[i]).framesStopped := by rw [hjudged]
  rw [framePulse_accepted hlo]
  obtain ⟨hs, hp⟩ | ⟨hs | hs | hs, hclock⟩ := hstate
  · rw [acceptedPulse_armed (hstate'.trans hs) (hpending.trans hp), pulsed_of_not_lost (by rw [hs]; decide)]
    refine congrArg (State.cuePass i) (pulsed_of (i := i) (us := us) (s := s) (f := fun w => ({ w with state := .running, startPending := false } : Show).startStall)
      (g := fun a => { a with mode := .waiting }) ?_ ?_ s.ports)
    · exact (Show.pulsed_armed hs).symm
    · exact (if_pos (.inl hs)).symm
  · rw [acceptedPulse_running (hstate'.trans hs), advanceClock_judged (f := Show.startStall) rfl ⟨rfl, rfl⟩ hclock,
      pulsed_of_not_lost (by rw [hs]; decide)]
    have haligns : upd s.aligns i id = s.aligns := upd_eq_self rfl
    refine congrArg (State.cuePass i) (Eq.trans ?_ (pulsed_of (i := i) (us := us) (s := s) (g := id)
      (f := fun w => { w.startStall with clock := w.startStall.clock.succ w.startStall.settings.rate.fps }) ?_ ?_ s.ports))
    · rw [haligns]
      rfl
    · exact (Show.pulsed_running hs).symm
    · exact (Align.pulsed_running hs).symm
  · rw [acceptedPulse_held (hstate'.trans hs), advanceClock_judged
      (f := fun w => { w with framesStopped := false, stallTimer := some w.settings.rate.stallLimit }) rfl ⟨rfl, rfl⟩ hclock,
      pulsed_of_not_lost (by rw [hs]; decide), hstopped]
    refine congrArg (State.cuePass i) (pulsed_of (i := i) (us := us) (s := s) (f := fun w => { w with
        framesStopped := false, stallTimer := some w.settings.rate.stallLimit, clock := w.clock.succ w.settings.rate.fps })
      (g := fun a => if (s.shows[i]).framesStopped = true ∧ a.mode = .paused then { a with mode := .waiting } else a) ?_ ?_ s.ports)
    · exact (Show.pulsed_held hs).symm
    · exact (Align.pulsed_held hs).symm
  · rw [acceptedPulse_lost (hstate'.trans hs), advanceClock_judged
      (f := fun w => { w with state := .running, stallTimer := some w.settings.rate.stallLimit }) rfl ⟨rfl, rfl⟩ hclock]
    have hposted : s.pulsed i us = { s with
        shows := upd s.shows i (Show.pulsed us), aligns := upd s.aligns i (Align.pulsed s.shows[i])
        ports := (s.post .frameResumed (.screen i)).ports } := by
      unfold State.pulsed
      rw [decide_eq_true hs]
      rfl
    rw [hposted]
    refine congrArg (State.cuePass i) (pulsed_of (i := i) (us := us) (s := s) (f := fun w => { w with
        state := .running, stallTimer := some w.settings.rate.stallLimit, clock := w.clock.succ w.settings.rate.fps })
      (g := Align.unpause) ?_ ?_ (s.post .frameResumed (.screen i)).ports)
    · exact (Show.pulsed_lost hs).symm
    · exact (Align.pulsed_lost hs).symm

/-- A pulse that reaches a position with cues: their turns, one after another (R80). -/
theorem framePulse_turns {i : ScreenId} {us : Nat} {front due back : List Cue} {s : State}
    (hlo : (s.shows[i]).settings.rate.pLo ≤ ((s.shows[i]).elapse us).monitor.e)
    (hstate : ((s.shows[i]).state = .armed ∧ (s.shows[i]).startPending = true) ∨
      (((s.shows[i]).state = .running ∨ (s.shows[i]).state = .held ∨ (s.shows[i]).state = .lost) ∧
        (s.shows[i]).clock ≠ { second := 65535, frame := (s.shows[i]).settings.rate.fps - 1 }))
    (hcues : (s.cues[i]).cues = front ++ due ++ back) (hcursor : (s.cues[i]).cursor = front.length)
    (hdue : ∀ c ∈ due, c.pos = ((s.shows[i]).pulsed us).clock) (hback : ∀ c ∈ back.head?, c.pos ≠ ((s.shows[i]).pulsed us).clock) :
    exec (.framePulse i us) s = .next (due.foldl (State.cueTurn i) (s.pulsed i us, false)).1.startAll := by
  have hclock : ((s.pulsed i us).shows[i]).clock = ((s.shows[i]).pulsed us).clock := by rw [pulsed_shows, upd_get_self]
  refine congrArg (fun t => Host.Outcome.next (State.startAll t)) ((framePulse_pulsed hlo hstate).trans ?_)
  unfold State.cuePass
  rw [pulsed_cues, hclock]
  refine passFor_turns ?_ ?_ hdue hback
  · rw [hcues]
    simp only [List.length_append]
    omega
  · unfold State.cuesLeft
    rw [pulsed_cues, hcues, hcursor, List.append_assoc, List.drop_left]

end Sys2Proof.Machine

/-! What one cue in a running show carries out (O32). -/

namespace Sys2Proof.Machine

/-! ### One cue at the position reached -/

/-- A running show advanced to a position, and the cursor past the first cue there. -/
def State.cuePassed (i : ScreenId) (us : Nat) (s : State) : State :=
  { s with
    shows := upd s.shows i fun w => { w with
      monitor := (w.elapse us).monitor.pulse w.settings.rate, stallTimer := some w.settings.rate.stallLimit
      clock := w.clock.succ w.settings.rate.fps }
    cues := upd s.cues i fun u => { u with cursor := u.cursor + 1 } }

/-- The same, with an outcome written into the cue. -/
def State.cueTaken (i : ScreenId) (us : Nat) (out : CueOutcome) (s : State) : State :=
  { s.cuePassed i us with
    cues := upd s.cues i fun u => { u with cursor := u.cursor + 1, cues := u.cues.modify u.cursor fun c => { c with outcome := out } } }

section OneCue

variable {i : ScreenId} {us : Nat} {c : Cue} {s : State} {out : CueOutcome}

theorem setOutcome_cuePassed : (s.cuePassed i us).setOutcome i (s.cues[i]).cursor out = s.cueTaken i us out :=
  congrArg (fun v => ({ s.cuePassed i us with cues := v } : State))
    ((upd_upd s.cues i (fun u => { u with cursor := u.cursor + 1 }) (CueUnit.pass (s.cues[i]).cursor out)).trans (upd_congr rfl))

theorem framePulse_oneCue (hrun : (s.shows[i]).state = .running) (hlo : (s.shows[i]).settings.rate.pLo ≤ ((s.shows[i]).elapse us).monitor.e)
    (hclock : (s.shows[i]).clock ≠ { second := 65535, frame := (s.shows[i]).settings.rate.fps - 1 })
    (hc : (s.cues[i]).cues[(s.cues[i]).cursor]? = some c) (hpos : c.pos = (s.shows[i]).clock.succ (s.shows[i]).settings.rate.fps)
    (hnext : ∀ d, (s.cues[i]).cues[(s.cues[i]).cursor + 1]? = some d → d.pos ≠ c.pos) :
    exec (.framePulse i us) s = .next (State.startAll
      (if c.guard.holds (s.cues[i]).flagA (s.cues[i]).flagB then
        ((s.cuePassed i us).runAction i c.action).setOutcome i (s.cues[i]).cursor .executed
      else s.cueTaken i us .skipped)) := by
  have hreached : ((s.shows[i]).pulsed us).clock = c.pos := by rw [Show.pulsed_running hrun, hpos]
  have hlt : (s.cues[i]).cursor < (s.cues[i]).cues.length := (List.getElem?_eq_some_iff.mp hc).1
  have hsplit : (s.cues[i]).cues = (s.cues[i]).cues.take (s.cues[i]).cursor ++ [c] ++ (s.cues[i]).cues.drop ((s.cues[i]).cursor + 1) := by
    have hdrop := List.drop_eq_getElem_cons hlt
    rw [(List.getElem?_eq_some_iff.mp hc).2] at hdrop
    rw [List.append_assoc, List.singleton_append, ← hdrop, List.take_append_drop]
  have hpulsed : (s.pulsed i us).passCursor i = s.cuePassed i us := by
    have haligns : upd s.aligns i (Align.pulsed s.shows[i]) = s.aligns := upd_eq_self (Align.pulsed_running hrun)
    have hshows : upd s.shows i (Show.pulsed us) = upd s.shows i fun w => { w with
        monitor := (w.elapse us).monitor.pulse w.settings.rate, clock := w.clock.succ w.settings.rate.fps
        stallTimer := some w.settings.rate.stallLimit } := upd_congr (Show.pulsed_running hrun)
    rw [pulsed_of_not_lost (by rw [hrun]; decide), haligns, hshows]
    rfl
  have hturns := framePulse_turns (due := [c]) hlo (.inr ⟨.inl hrun, hclock⟩) hsplit (List.length_take_of_le hlt.le).symm
    (by simpa using hreached.symm) (by
      rw [List.head?_drop, hreached]
      exact hnext)
  rw [hturns, List.foldl_cons, List.foldl_nil, State.cueTurn]
  dsimp only
  rw [if_neg Bool.false_ne_true, hpulsed, pulsed_cues, setOutcome_cuePassed]
  split <;> rfl

/-! ### The sources of TEST (R47, R84) -/

theorem lanesQuiet_eq (i : ScreenId) (s : State) : s.lanesQuiet i = ([0, 1, 2, 3] : List LaneId).all fun n =>
    !(((s.entry[n]).admission.bind s.ticket?).any (fun t => t.screen == i) &&
      ((s.entry[n]).state == .armed || ((s.entry[n]).state == .passing && (s.entry[n]).admitted))) := by
  unfold State.lanesQuiet
  rw [toList_eq_finRange, List.any_map, List.not_any_eq_all_not]
  refine congrArg (fun f => ([0, 1, 2, 3] : List LaneId).all f) (funext fun n => congrArg (! ·) ?_)
  rw [Function.comp_apply, Bool.and_comm]
  unfold State.laneBusyFor
  cases (s.entry[n]).admission.bind s.ticket? <;> rfl

theorem testSource_eq (i : ScreenId) (source : TestSource) (s : State) : s.testSource i source = match source with
    | .one => true
    | .zero => false
    | .flagA => (s.cues[i]).flagA
    | .flagB => (s.cues[i]).flagB
    | .soundUp => (s.links[i]).soundUp
    | .audioReady => decide ((s.aligns[i]).dSamples + 240 ≤ (s.intakes[i]).ring.length * 240)
    | .alignLocked => decide ((s.aligns[i]).mode = .locked)
    | .zoneFull => decide ((s.zones[i]).pending + (s.zones[i]).present = (s.zones[i]).capacity)
    | .entryOpen => (s.zones[i]).isOpen
    | .ordersHeld => s.orders.table.any fun o => o.screen == i && match o.state with | .held _ => true | _ => false
    | .kitchenHigh => decide (s.orders.settings.high ≤ s.orders.kitchen.length)
    | .callsPending => decide ((s.calls[i]).queue ≠ []) || (s.calls[i]).slot.isSome
    | .lanesQuiet => ([0, 1, 2, 3] : List LaneId).all fun n =>
      !(((s.entry[n]).admission.bind s.ticket?).any (fun t => t.screen == i) &&
        ((s.entry[n]).state == .armed || ((s.entry[n]).state == .passing && (s.entry[n]).admitted))) := by
  cases source with
  | lanesQuiet => exact lanesQuiet_eq i s
  | ordersHeld =>
    have hheld : (s.orders.heldList i).isEmpty = !s.orders.table.any fun o => o.isHeld && o.screen == i := by
      rw [Bool.eq_iff_iff]
      simp [OrderUnit.heldList]
    refine (congrArg (! ·) hheld).trans ((Bool.not_not _).trans ?_)
    refine congrArg (fun f => s.orders.table.any f) (funext fun o => ?_)
    rw [Bool.and_comm]
    rfl
  | callsPending =>
    refine congrArg (· || (s.calls[i]).slot.isSome) ?_
    cases (s.calls[i]).queue <;> rfl
  | alignLocked => exact beq_eq_decide _ _
  | zoneFull => exact beq_eq_decide _ _
  | _ => rfl

theorem TestMode.apply_eq (m : TestMode) (flag v : Bool) :
    m.apply flag v = match m with | .set => v | .and => flag && v | .or => flag || v | .xor => Bool.xor flag v := by
  cases m with
  | xor => cases flag <;> cases v <;> rfl
  | _ => rfl

/-! ### The actions whose change must be told apart from the cue's outcome -/

/-- The end of a show before its posts. -/
def State.showLeft (i : ScreenId) (s : State) : State :=
  { s with
    shows := upd s.shows i fun w =>
      { w with state := .ended, holdReason := none, framesStopped := false, stallTimer := none, pause := false }
    intakes := upd s.intakes i fun k => { k with ring := [], isOpen := false, holdTimer := none }
    aligns := upd s.aligns i fun a => { a with readPoint := 0, repeatTaken := false, mode := .muted }
    tickets := s.tickets.map fun t => { t with openOrders := t.openOrders - (s.orders.unreleased i).countP (·.ticket == t.number) }
    orders := { s.orders with
      table := s.orders.table.filter fun o => !(o.screen == i && o.state == .held false)
      totals := { s.orders.totals with showEnded := min 65535 (s.orders.totals.showEnded + (s.orders.unreleased i).length) } } }

theorem showOver_eq (i : ScreenId) (s : State) : s.showOver i =
    ((s.orders.unreleased i).foldl (fun s o => s.post .orderCancelled (.order o.number)) (s.showLeft i)).post .showEnded (.screen i) := rfl

theorem showOver_cues (i : ScreenId) (v : Vector CueUnit 4) (s : State) : ({ s with cues := v } : State).showOver i = { s.showOver i with cues := v } := by
  have hposted (l : List Order) (u : State) : l.foldl (fun s o => s.post .orderCancelled (.order o.number)) ({ u with cues := v } : State) =
      { l.foldl (fun s o => s.post .orderCancelled (.order o.number)) u with cues := v } := by
    induction l generalizing u with
    | nil => rfl
    | cons o l ih => exact ih (u.post .orderCancelled (.order o.number))
  rw [showOver_eq, showOver_eq]
  exact congrArg (State.post .showEnded (.screen i)) (hposted (s.orders.unreleased i) (s.showLeft i))

theorem postIf_setOutcome (b : Bool) (k : EventKind) (d : Detail) (i : ScreenId) (n : Nat) (out : CueOutcome) (s : State) :
    (State.postIf b k d s).setOutcome i n out = State.postIf b k d (s.setOutcome i n out) := by
  cases b <;> rfl

/-- Held orders released one after another: those that there is room for join the kitchen queue, the others become release pending (R163). -/
theorem releaseOne_fold {l : List Order} (hl : (l.map (·.number)).Nodup) (s : State) : l.foldl State.releaseOne s = { s with
    orders := { s.orders with
      kitchen := s.orders.kitchen ++ (l.take (48 - s.orders.kitchen.length)).map (·.number)
      table := s.orders.table.map fun o =>
        if o.number ∈ (l.take (48 - s.orders.kitchen.length)).map (·.number) then { o with state := .queued }
        else if o.number ∈ l.map (·.number) then { o with state := .held true } else o } } := by
  induction l generalizing s with
  | nil => simp
  | cons r l ih =>
    rw [List.map_cons, List.nodup_cons] at hl
    obtain ⟨hr, hl⟩ := hl
    have hshape (b : OrderUnit) {k k' : List Nat} {t t' : List Order} (hk : k = k') (ht : t = t') :
        ({ s with orders := { b with kitchen := k, table := t } } : State) = { s with orders := { b with kitchen := k', table := t' } } := by
      rw [hk, ht]
    have hfound (n k : Nat) (hn : n ∈ (l.take k).map (·.number)) : n ≠ r.number := by
      rintro rfl
      rw [List.map_take] at hn
      exact hr (List.mem_of_mem_take hn)
    rw [List.foldl_cons, ih hl]
    unfold State.releaseOne OrderUnit.fill
    by_cases hroom : s.orders.kitchen.length < 48
    · rw [if_pos hroom]
      have hjoined : (s.joinKitchen r.number).orders = { s.orders with
          kitchen := s.orders.kitchen ++ [r.number]
          table := s.orders.table.map fun o => if o.number = r.number then { o with state := .queued } else o } := rfl
      have hrest : 48 - s.orders.kitchen.length = (48 - (s.orders.kitchen.length + 1)) + 1 := by omega
      rw [hjoined]
      dsimp only
      rw [List.length_append, List.length_singleton, hrest, List.take_succ_cons]
      refine hshape s.orders ?_ ?_
      · rw [List.append_assoc]
        rfl
      · rw [List.map_map]
        refine List.map_congr_left fun o _ => ?_
        rw [Function.comp_apply]
        by_cases ho : o.number = r.number
        · rw [if_pos ho, if_neg fun hn => hfound _ _ hn ho, if_neg fun hn => hr (ho ▸ hn), if_pos (by simp [ho])]
        · rw [if_neg ho]
          simp only [List.map_cons, List.mem_cons, ho, false_or]
    · rw [if_neg hroom]
      have hfull : 48 - s.orders.kitchen.length = 0 := by omega
      have hpending : (s.modOrder r.number fun o => { o with state := .held true }).orders = { s.orders with
          table := s.orders.table.map fun o => if o.number = r.number then { o with state := .held true } else o } := rfl
      rw [hpending]
      dsimp only
      rw [hfull]
      refine hshape s.orders rfl ?_
      rw [List.map_map]
      refine List.map_congr_left fun o _ => ?_
      rw [Function.comp_apply]
      by_cases ho : o.number = r.number
      · rw [if_pos ho]
        simp [ho, hr]
      · rw [if_neg ho]
        simp [ho]

theorem number_mem_iff {l table : List Order} (hnodup : (table.map (·.number)).Nodup) (hl : ∀ r ∈ l, r ∈ table) {o : Order} (ho : o ∈ table) :
    o.number ∈ l.map (·.number) ↔ o ∈ l := by
  refine ⟨fun h => ?_, List.mem_map_of_mem⟩
  obtain ⟨r, hr, hn⟩ := List.mem_map.mp h
  exact eq_of_order_number hnodup (hl r hr) ho hn ▸ hr

/-- The orders that a kitchen release lets into the queue (R163). -/
def OrderUnit.joining (i : ScreenId) (u : OrderUnit) : List Order := (u.unreleased i).take (48 - u.kitchen.length)

/-- A kitchen release with the flag clear. -/
theorem kitchenRelease_eq (hnodup : (s.orders.table.map (·.number)).Nodup) (hflag : s.orders.released[i] = false) : s.kitchenRelease i =
    State.postIf (s.orders.kitchen.length = 0 ∧ 0 < s.orders.kitchen.length + (s.orders.joining i).length) .kitchenWork
      (.fill (s.orders.kitchen.length + (s.orders.joining i).length))
      (State.postIf (s.orders.kitchen.length < s.orders.settings.high ∧
          s.orders.settings.high ≤ s.orders.kitchen.length + (s.orders.joining i).length) .kitchenHigh
        (.fill (s.orders.kitchen.length + (s.orders.joining i).length)) { s with
          orders := { s.orders with
            released := upd s.orders.released i fun _ => true
            kitchen := s.orders.kitchen ++ (s.orders.joining i).map (·.number)
            table := s.orders.table.map fun o =>
              if o ∈ s.orders.joining i then { o with state := .queued } else if o ∈ s.orders.unreleased i then { o with state := .held true } else o } }) := by
  have hheld (r : Order) (hr : r ∈ s.orders.unreleased i) : r ∈ s.orders.table := (List.mem_filter.mp hr).1
  have hjoin (r : Order) (hr : r ∈ s.orders.joining i) : r ∈ s.orders.table := hheld r (List.mem_of_mem_take hr)
  have hsub : ((s.orders.unreleased i).map (·.number)).Nodup := hnodup.sublist (List.filter_sublist.map _)
  have hreleased : (s.orders.unreleased i).foldl State.releaseOne (s.modOrders fun u => { u with released := upd u.released i fun _ => true }) =
      { s with
        orders := { s.orders with
          released := upd s.orders.released i fun _ => true
          kitchen := s.orders.kitchen ++ (s.orders.joining i).map (·.number)
          table := s.orders.table.map fun o =>
            if o ∈ s.orders.joining i then { o with state := .queued } else if o ∈ s.orders.unreleased i then { o with state := .held true } else o } } := by
    refine (releaseOne_fold hsub _).trans (congrArg (fun t => ({ s with orders := { s.orders with
      released := upd s.orders.released i fun _ => true, kitchen := s.orders.kitchen ++ (s.orders.joining i).map (·.number), table := t } } : State)) ?_)
    refine List.map_congr_left fun o ho => ?_
    exact if_congr (number_mem_iff hnodup hjoin ho) rfl (if_congr (number_mem_iff hnodup hheld ho) rfl rfl)
  have hlen : (s.orders.kitchen ++ (s.orders.joining i).map (·.number)).length = s.orders.kitchen.length + (s.orders.joining i).length := by
    rw [List.length_append, List.length_map]
  unfold State.kitchenRelease
  rw [hflag, if_neg Bool.false_ne_true, heldList_notPending]
  dsimp only
  change ((s.orders.unreleased i).foldl State.releaseOne _).postCrossings _ = _
  rw [hreleased, postCrossings_rise (by rw [hlen]; exact Nat.le_add_right _ _)]
  dsimp only
  rw [hlen]
  rfl

end OneCue

end Sys2Proof.Machine

/-! CALLS_OPEN among the cue actions, and the obligation on turns (O32). -/

namespace Sys2Proof.Machine

/-! ### Calls that start where none can, or none more -/

theorem CallUnit.windows_of_fixed {c u : CallUnit} (h : u.fixed = c.fixed) : u.orderWindow = c.orderWindow ∧ u.callWindow = c.callWindow := by
  have horder := congrArg CallUnit.orderWindow h
  have hcall := congrArg CallUnit.callWindow h
  exact ⟨horder, hcall⟩

/-- The start of calls leaves of every unit what no call changes. -/
theorem startAll_fixed (i : ScreenId) (s : State) : (s.startAll.calls[i]).fixed = (s.calls[i]).fixed := by
  obtain ⟨t, hsame, hreads⟩ := startAll_unit i s
  rw [hreads.fixed, (startScreen_callsOn i t).2, hsame.unit]

theorem startAll_kept {i : ScreenId} {s : State} (h : ¬(s.ready i ∧ (s.calls[i]).queue ≠ [])) : (s.calls[i]).sameButReads (s.startAll.calls[i]) := by
  obtain ⟨t, hsame, hreads⟩ := startAll_unit i s
  rw [startScreen_of_not fun hr => h ⟨hsame.ready_iff.mp hr.1, by rw [← hsame.unit]; exact hr.2⟩, hsame.unit] at hreads
  exact hreads

theorem entered_keeps {e : CallEntry} {seq : List SeqClip} {m : MixSettings} {d : DuckState} {queue : List CallEntry} {c u u' : CallUnit}
    (h : CallUnit.entered e seq m d queue c u) (hu : u.sameButReads u') : CallUnit.entered e seq m d queue c u' := by
  obtain ⟨nextRead, readPending, rfl⟩ := h
  obtain ⟨hwhole, -, hslot⟩ := hu
  obtain ⟨nextRead', readPending', hq⟩ := hslot _ rfl
  refine ⟨nextRead', readPending', ?_⟩
  rw [hwhole, hq]

/-! ### CALLS_OPEN (R129) -/

theorem windowOpened_fixed (i : ScreenId) (s : State) : ((s.windowOpened i).calls[i]).fixed = ({ s.calls[i] with callWindow := true } : CallUnit).fixed := by
  have hon : CallsOn i (s.modCalls i fun c => { c with callWindow := true })
      (((s.modCalls i fun c => { c with callWindow := true }).owedFill i).startScreen i) := (owedFill_callsOn i _).trans (startScreen_callsOn i _)
  have hfixed := (serveReads_readsOnly (((s.modCalls i fun c => { c with callWindow := true }).owedFill i).startScreen i) i).fixed.trans hon.2
  rw [modCalls_get_self] at hfixed
  exact hfixed

/-- What a window opened and every call then started leave of a screen's unit. -/
theorem windowOpened_started {i : ScreenId} {s v z : State} (hdir : v.dir = s.dir) (hlinks : v.links = s.links)
    (hv : s.callsResumed i true (s.links[i]).soundUp v) (hz : CallsAlike v z) :
    let k := s.calls[i]
    let owed := s.owedNow i
    let room := 16 - k.queue.length
    let queue := k.queue ++ (owed.take room).map CallEntry.orderCall
    let starts := (s.links[i]).soundUp = true ∧ s.dir.reading = false ∧ k.slot = none ∧ k.duckState = .up
    (¬starts ∨ queue = [] → CallUnit.sameButReads { k with callWindow := true, queue } z.startAll.calls[i]) ∧
      ∀ e rest, starts → queue = e :: rest → e.composed s.dir ≠ [] → (∀ n, e = .orderCall n → n < 1000) →
        CallUnit.entered e (e.composed s.dir) k.settings (.rampDown 0)
          (rest ++ ((owed.drop room).take (16 - rest.length)).map CallEntry.orderCall) { k with callWindow := true } z.startAll.calls[i] := by
  intro k owed room queue starts
  have hkeeps := startAll_kept (i := i) (s := z)
  generalize z.startAll = y at hkeeps ⊢
  unfold State.callsResumed at hv
  dsimp only at hv
  obtain ⟨-, hstay, henter⟩ := hv
  have hunit : z.calls[i] = v.calls[i] := by rw [hz.calls]
  have hready : z.ready i ↔ v.ready i := (hz.screenSame i).ready_iff
  refine ⟨fun hstop => ?_, fun e rest hstarts hq hc hn => ?_⟩
  · obtain ⟨hkept, -⟩ := hstay (hstop.imp_left fun hn hs => hn hs.2)
    have hkept' : CallUnit.sameButReads { k with callWindow := true, queue } v.calls[i] := hkept
    refine hkept'.trans (hunit ▸ hkeeps fun hr => ?_)
    have hduck : (v.calls[i]).duckState = k.duckState := by rw [hkept'.1]
    have hqueue : (v.calls[i]).queue = queue := by rw [hkept'.1]
    obtain hn | hempty := hstop
    · obtain ⟨-, hup, hreading, hslot, hd⟩ := hready.mp hr.1
      refine hn ⟨?_, ?_, hkept'.slot_none_iff.mp hslot, hduck.symm.trans hd⟩
      · rw [← hlinks]
        exact hup
      · rw [← hdir]
        exact hreading
    · rw [hunit, hqueue] at hr
      exact hr.2 hempty
  · obtain ⟨hentered, -⟩ := henter e rest ⟨rfl, hstarts⟩ hq hc hn
    refine entered_keeps hentered (hunit ▸ hkeeps fun hr => ?_)
    obtain ⟨-, -, -, hslot, -⟩ := hready.mp hr.1
    obtain ⟨nextRead, readPending, hu⟩ := hentered
    rw [hu] at hslot
    exact absurd hslot (Option.some_ne_none _)

theorem showOver_keeps_cues (i : ScreenId) (s : State) : (s.showOver i).cues = s.cues := by
  have hcues := congrArg State.cues (showOver_cues i s.cues s)
  exact hcues

section Actions

variable {i : ScreenId} {us : Nat} {s : State}

theorem cuePassed_unit (i : ScreenId) (us : Nat) (s : State) : (s.cuePassed i us).cues[i] = { s.cues[i] with cursor := (s.cues[i]).cursor + 1 } :=
  upd_get_self _ _ _

theorem cuePassed_state (i : ScreenId) (us : Nat) (s : State) : ((s.cuePassed i us).shows[i]).state = (s.shows[i]).state := by
  have hself : (s.cuePassed i us).shows[i] = { s.shows[i] with
      monitor := ((s.shows[i]).elapse us).monitor.pulse (s.shows[i]).settings.rate, stallTimer := some (s.shows[i]).settings.rate.stallLimit
      clock := (s.shows[i]).clock.succ (s.shows[i]).settings.rate.fps } := upd_get_self _ _ _
  rw [hself]

/-- A change of the cue record's flags or lamps, before its outcome is written or after. -/
theorem modCues_cuePassed {f : CueUnit → CueUnit} {out : CueOutcome}
    (hf : f { s.cues[i] with cursor := (s.cues[i]).cursor + 1, cues := (s.cues[i]).cues.modify (s.cues[i]).cursor fun c => { c with outcome := out } } =
      (f { s.cues[i] with cursor := (s.cues[i]).cursor + 1 }).pass (s.cues[i]).cursor out) :
    ((s.cuePassed i us).modCues i f).setOutcome i (s.cues[i]).cursor out =
      { s.cueTaken i us out with cues := upd (s.cueTaken i us out).cues i f } := by
  refine congrArg (fun v => ({ s.cuePassed i us with cues := v } : State)) ?_
  have hpassed : upd (upd (s.cuePassed i us).cues i f) i (CueUnit.pass (s.cues[i]).cursor out) =
      upd s.cues i fun u => (f { u with cursor := u.cursor + 1 }).pass (s.cues[i]).cursor out :=
    (upd_upd (s.cuePassed i us).cues i f _).trans (upd_upd s.cues i (fun u => { u with cursor := u.cursor + 1 }) _)
  have htaken : upd (s.cueTaken i us out).cues i f = upd s.cues i fun u =>
      f { u with cursor := u.cursor + 1, cues := u.cues.modify u.cursor fun c => { c with outcome := out } } := upd_upd s.cues i _ _
  exact hpassed.trans ((upd_congr hf.symm).trans htaken.symm)

theorem cuePassed_endShow (hlaw : s.bookLaws) (out : CueOutcome) :
    ((s.cuePassed i us).endShow i).setOutcome i (s.cues[i]).cursor out = (s.cueTaken i us out).showOver i := by
  have hlaw' : (s.cuePassed i us).bookLaws := bookLaws_congr (s := s) rfl rfl hlaw
  have hcues := congrArg State.cues (setOutcome_cuePassed (i := i) (us := us) (s := s) (out := out))
  have hset (u : State) (hu : u.cues = (s.cuePassed i us).cues) : u.setOutcome i (s.cues[i]).cursor out =
      { u with cues := (s.cueTaken i us out).cues } := by
    rw [← hcues]
    refine congrArg (fun v => ({ u with cues := v } : State)) ?_
    exact congrArg (fun v => upd v i (CueUnit.pass (s.cues[i]).cursor out)) hu
  rw [endShow_eq hlaw', hset _ (showOver_keeps_cues i _)]
  exact (showOver_cues i (s.cueTaken i us out).cues (s.cuePassed i us)).symm

end Actions

/-- Settles O32: the pass as its turns, then each action as it changes the part past the cue. -/
theorem cueTurn : Obligations.CueTurn := by
  unfold Obligations.CueTurn
  refine ⟨fun i us front due back s => ?_, fun i us c s => ?_⟩
  · intro w r reached hstate hlo hcues hcursor hdue hback atPulse turn
    have hturn (x : State × Bool) (c : Cue) : State.cueTurn i x c = turn x c := by
      unfold State.cueTurn
      rw [Guard.holds_eq]
      rfl
    have hpulse : s.pulsed i us = atPulse := postIf_congr rfl (showAlign_congr (upd_congr rfl) (upd_congr rfl))
    have hturns : State.cueTurn i = turn := funext fun x => funext fun c => hturn x c
    rw [framePulse_turns hlo hstate hcues hcursor hdue hback, hpulse, hturns]
  · intro w u r holds hrun hlo hclock hc hpos hnext moved becomes
    have hone := framePulse_oneCue hrun hlo hclock hc hpos hnext
    rw [show c.guard.holds (s.cues[i]).flagA (s.cues[i]).flagB = holds from Guard.holds_eq _ _ _] at hone
    have hmoved {out : CueOutcome} (hout : (if holds then .executed else .skipped) = out) : s.cueTaken i us out = moved := by
      rw [← hout]
      rfl
    have hdone {t : State} (hh : holds = true) {a : CueAction} (ha : c.action = a)
        (ht : ((s.cuePassed i us).runAction i a).setOutcome i u.cursor .executed = t) : becomes t := by
      rw [hh, ha, if_pos rfl, ht] at hone
      exact hone
    have hkept (hh : holds = true) : s.cueTaken i us .executed = moved := hmoved (by rw [hh]; rfl)
    have hsame (hh : holds = true) : (s.cuePassed i us).setOutcome i u.cursor .executed = moved := setOutcome_cuePassed.trans (hkept hh)
    have hstate : ((s.cuePassed i us).shows[i]).state = .running := (cuePassed_state i us s).trans hrun
    refine ⟨fun hh => ?_, ?_⟩
    · rw [hh, if_neg Bool.false_ne_true, hmoved (by rw [hh]; rfl)] at hone
      exact hone
    intro value
    have hvalue (source : TestSource) : (s.cuePassed i us).testSource i source = value source := by
      rw [testSource_eq]
      cases source with
      | flagA => rw [cuePassed_unit]
      | flagB => rw [cuePassed_unit]
      | _ => rfl
    refine ⟨fun source mode ha hh => ?_, fun source mode ha hh => ?_, fun code ha hh => ?_, fun k on ha hh => ?_, fun ha hh => ?_,
      fun ha hh => ?_, fun ha hh => ?_, fun ha hh => ?_, fun ha hh hlaw => ?_, fun ha hh => ?_, fun ha hh => ?_⟩
    · intro v
      refine hdone hh ha ((modCues_cuePassed (f := fun u => { u with
        flagA := mode.apply u.flagA ((s.cuePassed i us).testSource i source) }) rfl).trans ?_)
      rw [hkept hh, hvalue]
      refine congrArg (fun v => ({ moved with cues := v } : State)) (upd_congr ?_)
      exact congrArg (fun b => ({ moved.cues[i] with flagA := b } : CueUnit)) (TestMode.apply_eq mode _ v)
    · intro v
      refine hdone hh ha ((modCues_cuePassed (f := fun u => { u with
        flagB := mode.apply u.flagB ((s.cuePassed i us).testSource i source) }) rfl).trans ?_)
      rw [hkept hh, hvalue]
      refine congrArg (fun v => ({ moved with cues := v } : State)) (upd_congr ?_)
      exact congrArg (fun b => ({ moved.cues[i] with flagB := b } : CueUnit)) (TestMode.apply_eq mode _ v)
    · exact hdone hh ha (congrArg (State.post .cueMark (.mark i code)) (hsame hh))
    · refine hdone hh ha ?_
      rw [← hkept hh]
      exact modCues_cuePassed rfl
    · refine hdone hh ha ?_
      have hheld : (s.cuePassed i us).runAction i .hold = State.post .showHeld (.held i .cue) { s.cuePassed i us with
          shows := upd (s.cuePassed i us).shows i fun w => { w with state := .held, holdReason := some .cue, pause := true, framesStopped := false } } := by
        refine (if_pos hstate).trans (congrArg (fun v => State.post .showHeld (.held i .cue) { s.cuePassed i us with shows := v }) (upd_congr ?_))
        rw [hstate]
        rfl
      rw [hheld, ← hsame hh]
      rfl
    · obtain ha | ha := ha
      · refine hdone hh ha ?_
        rw [ha, ← hsame hh]
        rfl
      · refine hdone hh ha ?_
        rw [ha, ← hsame hh]
        rfl
    · obtain ha | ha := ha
      · refine hdone hh ha ?_
        rw [ha, ← hsame hh]
        rfl
      · refine hdone hh ha ?_
        rw [ha, ← hsame hh]
        rfl
    · refine hdone hh ha ?_
      rw [← hsame hh]
      rfl
    · refine hdone hh ha ?_
      have hend : (s.cuePassed i us).runAction i .endShow = (s.cuePassed i us).endShow i := if_pos (by rw [hstate]; rfl)
      rw [hend, ← hkept hh]
      exact cuePassed_endShow hlaw .executed
    · intro b fill held joins after
      refine ⟨fun hflag => hdone hh ha ?_, fun hflag hlaw => hdone hh ha ?_⟩
      · have hstays : (s.cuePassed i us).runAction i .kitchenRelease = s.cuePassed i us := if_pos hflag
        rw [hstays]
        exact hsame hh
      · have hreleased := kitchenRelease_eq (i := i) (s := s.cuePassed i us) (bookLaws_numbers hlaw) hflag
        refine (congrArg (fun t => State.setOutcome i u.cursor .executed t) hreleased).trans ?_
        rw [postIf_setOutcome, postIf_setOutcome, ← hsame hh]
        rfl
    · intro k
      refine ⟨fun hwindow => hdone hh ha ?_, fun hwindow => ?_⟩
      · have hstays : (s.cuePassed i us).runAction i .callsOpen = s.cuePassed i us := if_pos hwindow
        rw [hstays]
        exact hsame hh
      · have hopened : (s.cuePassed i us).runAction i .callsOpen = (s.cuePassed i us).windowOpened i := openCalls_of_closed hwindow
        have hframe := windowOpened_frame i (s.cuePassed i us)
        have hresumed : s.callsResumed i true (s.links[i]).soundUp ((s.cuePassed i us).windowOpened i) :=
          resumeCalls_resumed (s := s) (t := (s.cuePassed i us).modCalls i fun c => { c with callWindow := true }) rfl rfl rfl rfl
        have hfixed : (((s.cuePassed i us).windowOpened i).calls[i]).fixed = ({ s.calls[i] with callWindow := true } : CallUnit).fixed :=
          windowOpened_fixed i (s.cuePassed i us)
        have hwhole := eq_of_clearCalls hframe
        refine ⟨_, hdone hh ha (congrArg (fun t => State.setOutcome i u.cursor .executed t) hopened), ?_⟩
        generalize (s.cuePassed i us).windowOpened i = v at hresumed hfixed hwhole
        have hdir : v.dir = s.dir := by rw [hwhole]; rfl
        have hlinks : v.links = s.links := by rw [hwhole]; rfl
        obtain ⟨hstay, henter⟩ := windowOpened_started hdir hlinks hresumed (z := v.setOutcome i u.cursor .executed) ⟨rfl, rfl, rfl, rfl⟩
        have hstarted := eq_of_clearCalls (startAll_frame (v.setOutcome i u.cursor .executed))
        have hkeeps (j : ScreenId) := startAll_fixed j (v.setOutcome i u.cursor .executed)
        generalize (v.setOutcome i u.cursor .executed).startAll = t at hstay henter hstarted hkeeps ⊢
        refine ⟨?_, fun j => ?_, hstay, henter⟩
        · rw [← hsame hh]
          conv_lhs => rw [hstarted, hwhole]
          rfl
        · have hunit : (t.calls[j]).fixed = (v.calls[j]).fixed := hkeeps j
          by_cases hj : j = i
          · subst hj
            rw [if_pos rfl]
            have hboth := hunit.trans hfixed
            exact CallUnit.windows_of_fixed hboth
          · rw [if_neg hj]
            have hboth := hunit.trans (hresumed.1 j hj).fixed
            exact CallUnit.windows_of_fixed hboth

end Sys2Proof.Machine

/-! The mixer at an instant: why its obligation fails as it is written (O38). -/

namespace Sys2Proof.Machine

/-- Screen 0 at the last instant of a ramp down to a duck gain of 300, which no SET_CALLS sets (R139 bounds it by 256). -/
def deeplyDucked : State :=
  { State.reset with
    inReset := false
    calls := upd State.reset.calls 0 fun c => { c with duckState := .rampDown 479, settings := { duck := 300, level := 256 } } }

/-- The model's gain is a natural number: 256 − 300 is cut off at 0, and the gain stays at 256. -/
theorem deeplyDucked_gain {u : State} (h : exec (.outputInstant 0 0) deeplyDucked = .next u) : (u.calls[(0 : ScreenId)]).gain = 256 := by
  have hnext : exec (.outputInstant 0 0) deeplyDucked = .next (deeplyDucked.outputInstant 0 0) := rfl
  obtain rfl : deeplyDucked.outputInstant 0 0 = u := Host.Outcome.next.inj (hnext.symm.trans h)
  decide +kernel

/-- Refutes O38: in the statement the gain is an integer (`gain` takes its type from `(gain : Int)` in `exact`), so with a duck gain of 300
the last instant of a ramp down would give 256 − (256 − 300) = 300, where the model's natural subtraction gives 256. -/
theorem not_mixOfAnInstant : ¬ Obligations.MixOfAnInstant := by
  unfold Obligations.MixOfAnInstant
  intro h
  obtain ⟨u, hu, hgain, -⟩ := h 0 0 deeplyDucked rfl
  have hclaimed : ((u.calls[(0 : ScreenId)]).gain : Int) = 300 := hgain
  rw [deeplyDucked_gain hu] at hclaimed
  exact absurd hclaimed (by decide)

end Sys2Proof.Machine
